-- ==== Sys2Proof/Word.lean ====
section
/-! DEFINITION. The words, the numbered things (ports, accounts, queues, cells) and the fixed-length table type of the
model. -/

namespace Sys2Proof

abbrev Byte := BitVec 8
abbrev Word16 := BitVec 16
abbrev Word24 := BitVec 24
abbrev Word32 := BitVec 32
abbrev Word64 := BitVec 64

/-- An egress port, P0 to P3 (00_scope.md, Conventions). -/
abbrev Port := Fin 4
/-- An account, A0 to A47. -/
abbrev Account := Fin 48
/-- A queue of one port, as the switch numbers it (R79). -/
abbrev QueueId := Fin 128
/-- The name of a grant on its port (R46). -/
abbrev Tag := BitVec 8
/-- A fill level, 0 to 3 (R33). -/
abbrev Level := Fin 4
/-- A cell index: the port number times 48 plus the account number (R109). -/
abbrev CellIx := Fin 192
/-- An epoch number: a 32-bit wrapping count (R118). -/
abbrev Epoch := Word32
/-- A moment on the part's own clock, in nanoseconds. -/
abbrev Moment := Nat

/-- A table of exactly `n` entries: the list, with the proof of its length. -/
structure Tab (n : Nat) (α : Type) where
  cells : List α
  size  : cells.length = n
deriving DecidableEq, Repr

variable {n : Nat} {α β : Type}

/-- The entry at `i`. -/
def Tab.get (t : Tab n α) (i : Fin n) : α :=
  t.cells[i.val]'(by rw [t.size]; exact i.isLt)

/-- The table with the entry at `i` replaced. -/
def Tab.set (t : Tab n α) (i : Fin n) (a : α) : Tab n α :=
  ⟨t.cells.set i.val a, by simp [t.size]⟩

/-- The table with the entry at `i` changed by `f`. -/
def Tab.modify (t : Tab n α) (i : Fin n) (f : α → α) : Tab n α :=
  t.set i (f (t.get i))

/-- The table whose every entry is `a`. -/
def Tab.fill (n : Nat) (a : α) : Tab n α :=
  ⟨List.replicate n a, by simp⟩

/-- Every entry changed by `f`. -/
def Tab.map (f : α → β) (t : Tab n α) : Tab n β :=
  ⟨t.cells.map f, by simp [t.size]⟩

/-- Every entry changed by `f`, which is told the entry's index. -/
def Tab.mapIdx (f : Fin n → α → β) (t : Tab n α) : Tab n β :=
  ⟨List.zipWith f (List.finRange n) t.cells, by simp [t.size]⟩

/-- The table whose entry at `i` is `f i`. -/
def Tab.ofFn (f : Fin n → α) : Tab n α :=
  ⟨(List.finRange n).map f, by simp⟩

end Sys2Proof
end

