-- ==== Sys2Proof/Config.lean ====
section
/-! DEFINITION. What the part fixes: the sizes of its queues and tables and the limits of its counts. The spec leaves no
value of this hardware to an implementation; the one free value is what a read of the register window returns at an offset
of no register. -/

namespace Sys2Proof.Config

/-- The largest value of a unit count: 24 bits (R1, R26). -/
def maxUnits : Nat := 16777215
/-- Where a 32-bit count that saturates stays (R60, R80, R155). -/
def maxCount32 : Nat := 4294967295
/-- Messages the output queue holds (R67). -/
def outputDepth : Nat := 64
/-- Entries the notice queue holds (R152). -/
def noticeDepth : Nat := 32
/-- Slots of a port's outstanding grant table (R46). -/
def tableSlots : Nat := 32
/-- Samples the level filter's history holds (R34). -/
def historyDepth : Nat := 4
/-- Where the starved count stays (R22). -/
def maxStarved : Nat := 63
/-- The score at which an account is CUT_OFF (R96). -/
def cutOffScore : Nat := 256
/-- Where the quiet count stays, and the count at which an account recovers (R103, R104). -/
def quietLimit : Nat := 32
/-- The charge of an overrun close (R57). -/
def overrunCharge : Nat := 8
/-- The charge of an expiry (R61). -/
def expiryCharge : Nat := 4
/-- Where the epochs covered of a report stay (R155). -/
def maxCovered : Nat := 65535
/-- How far from its due moment the timer may make a boundary: 0.1 µs (R119). -/
def timerTolerance : Nat := 100
/-- A signal shorter than this on the SYNC line is nothing (R123), in ns. -/
def pulseMin : Nat := 50
/-- A signal at least this long on the SYNC line is a mark (R123), in ns. -/
def markMin : Nat := 500
/-- What a read of the register window returns at an offset at which no register stands: the spec is silent, and the value
is free (R143, 13.2; DESIGN CHOICE, log entry 30). -/
opaque offRegister : Nat → Word32

end Sys2Proof.Config
end

