-- ==== Sys2Proof/Syntax.lean ====
section
/-! DEFINITION. The commands of the block: one constructor of `Instr` for each row of spec/opcode_table.json. Operands
are what the row's event brings with it: a message's fields, the bytes a read of host memory returned, the moment or the
length of a signal. Where the spec lets several orders of one event's parts happen, the command also says which one
happens (log entry 2). -/

namespace Sys2Proof

/-- The service lanes (R79). -/
inductive Lane where
  | urgent | bulk
deriving DecidableEq, Repr

/-- The registers of the window that REGISTER_WRITE names; RUN_CTL is written by CONTROL_RESET, RUN and STOP (R143). -/
inductive WindowReg where
  | pageLo | pageHi | partStat
deriving DecidableEq, Repr

/-- How the read of the control page in STARTING ends (R145): it fails, or it returns the 24 bytes of the host half at
offset 0x000 and the 36 bytes of the part-static fields at offset 0x040 (13_formats.md, 13.3). -/
inductive StartRead where
  | failed
  | page (hostHalf partStatic : List Byte)
deriving DecidableEq, Repr

/-- How the read that ends a plan fetch ends (R132, R133). -/
inductive PlanRead where
  | failed
  | data (bytes : List Byte)
deriving DecidableEq, Repr

/-- The accesses whose failure puts the memory side in FAULTED (R148); `abandonedRead` is a read of the host half that a
later boundary abandoned (R150). -/
inductive Access where
  | hostHalfRead | abandonedRead | partHalfWrite | signalWrite | journalWrite | usageWrite
deriving DecidableEq, Repr

/-- One entry a port close examines at stage 4, and the order in which the REVOKEs of the four ports are placed if its
expiry cuts an account off (R61, R74, R98). -/
structure Exam where
  tag   : Tag
  sched : List Port
deriving DecidableEq, Repr

/-- The commands. A `Moment` operand is when the event comes about, `len` the length of a signal in ns, `order` the order
in which ports (or accounts) are taken, and `sched` the order in which the messages of several ports are placed. -/
inductive Instr where
  /-- Power-up or the RESET pin (R143). -/
  | powerOnReset
  /-- A write of 1 to Reset of RUN_CTL, with the Run value of the same write (R143). -/
  | controlReset (runValue : Bool)
  /-- A write of Run 1 with Reset 0 (R144). -/
  | run
  /-- A write of Run 0 with Reset 0 (R144, R147). -/
  | stop (order : List Port)
  /-- A write to PAGE_LO, PAGE_HI or PART_STAT (R143). -/
  | registerWrite (reg : WindowReg) (value : Word32)
  /-- The read of STARTING completes or fails (R145). -/
  | startReadComplete (result : StartRead) (moment : Moment)
  /-- An inbound BIND (R83 to R85). -/
  | bind (port : Port) (queue : QueueId) (source : Word24) (lane : Lane)
  /-- An inbound UNBIND (R86). -/
  | unbind (port : Port) (queue : QueueId)
  /-- An inbound DEMAND (R87, R88). -/
  | demand (port : Port) (queue : QueueId) (units : Word16)
  /-- An inbound CLOSE (R56 to R59); `followFirst` says that what the removal starts (an arbiter run, an entry to STANDBY)
  is taken before the charge of an overrun (R51, R64). -/
  | close (port : Port) (tag : Tag) (used : Word16) (followFirst : Bool) (sched : List Port)
  /-- An inbound LEVEL with its level byte as received (R33). -/
  | level (port : Port) (level : Byte)
  /-- An inbound message whose bytes the link interface discards (R68). -/
  | inboundDiscard (bytes : List Byte)
  /-- The free transmitter takes the head of the output queue (R73). -/
  | transmitMessage (order : List Port)
  /-- The part's own timer makes a boundary (R121, R122, R123). -/
  | boundary (moment : Moment)
  /-- A pulse on the SYNC line ends (R123, R124). -/
  | syncPulse (moment : Moment) (len : Nat)
  /-- A mark on the SYNC line ends (R123, R124). -/
  | syncMark (moment : Moment) (len : Nat)
  /-- A LOCKED follower finds the loss of lock (R125). -/
  | lossOfLock (moment : Moment)
  /-- The share engine of a port takes the port close (R19). -/
  | portClose (port : Port) (exams : List Exam)
  /-- Stage 4's examination of a LIVE entry whose age has reached the lifetime (R61). -/
  | grantExpiry (port : Port) (tag : Tag) (sched : List Port)
  /-- Stage 4's examination of a LAPSED entry whose age has reached the lifetime (R61). -/
  | lapsedEntryRemoval (port : Port) (tag : Tag)
  /-- The port's state change at a boundary (R41). -/
  | portStateChange (port : Port)
  /-- The port's allocation begins (R6). -/
  | allocationStart (port : Port)
  /-- The port's allocation completes (R14, R15). -/
  | allocationComplete (port : Port)
  /-- The conduct unit takes a boundary (R100). -/
  | conductBoundary (order : List Account)
  /-- The conduct unit judges the recovery of one account at a boundary (R104). -/
  | autoRecovery (account : Account)
  /-- The starvation scan takes a boundary (R111). -/
  | sweep
  /-- The plan unit takes a boundary (R137, R138). -/
  | planApplication (order : List Port) (sched : List Port) (accounts : List Account)
  /-- A read of the host half completes with these bytes (R150); `abandoned` marks a read that a later boundary abandoned. -/
  | hostHalfReadComplete (abandoned : Bool) (bytes : List Byte)
  /-- The read that ends a plan fetch completes or fails (R132, R133). -/
  | planFetchComplete (result : PlanRead)
  /-- A journal record's write completes (R153). -/
  | journalWriteComplete
  /-- A part-half write completes (R151, R158). -/
  | partHalfWriteComplete
  /-- A signal write completes (R158). -/
  | signalWriteComplete
  /-- The memory side counts a boundary towards the next usage statement (R160). -/
  | statementDue
  /-- A write of a usage statement completes (R161). -/
  | usageWriteComplete
  /-- An access to the control page, the journal or the usage table fails (R148). -/
  | memoryAccessFailed (access : Access)
  /-- A read of a plan fetch other than its last completes (R165). -/
  | planReadComplete (bytes : List Byte)
deriving DecidableEq, Repr

end Sys2Proof
end

