-- ==== Sys2Proof/WellFormed.lean ====
section
/-! DEFINITION. Which operands a command can have: reads of host memory return as many bytes as they ask for, signals
have the length their kind asks for, and an order of ports or accounts names each of them once. -/

namespace Sys2Proof

/-- The list names every one of the `n` things exactly once. -/
def isOrder {n : Nat} (l : List (Fin n)) : Bool :=
  decide (l.length = n) && decide l.Nodup

/-- The operands of the command are ones its event can bring. -/
def Instr.wellFormed : Instr → Bool
  | .powerOnReset => true
  | .controlReset _ => true
  | .run => true
  | .stop order => isOrder order
  | .registerWrite _ _ => true
  | .startReadComplete .failed _ => true
  | .startReadComplete (.page h p) _ => decide (h.length = 24) && decide (p.length = 36)
  | .bind _ _ _ _ => true
  | .unbind _ _ => true
  | .demand _ _ _ => true
  | .close _ _ _ _ _ => true
  | .level _ _ => true
  | .inboundDiscard _ => true
  | .transmitMessage order => isOrder order
  | .boundary _ => true
  | .syncPulse _ len => decide (len < Config.markMin)
  | .syncMark _ len => decide (Config.markMin ≤ len)
  | .lossOfLock _ => true
  | .portClose _ exams => decide (exams.map Exam.tag).Nodup
  | .grantExpiry _ _ _ => true
  | .lapsedEntryRemoval _ _ => true
  | .portStateChange _ => true
  | .allocationStart _ => true
  | .allocationComplete _ => true
  | .conductBoundary order => isOrder order
  | .autoRecovery _ => true
  | .sweep => true
  | .planApplication order _ accounts => isOrder order && isOrder accounts
  | .hostHalfReadComplete _ bytes => decide (bytes.length = 24)
  | .planFetchComplete .failed => true
  | .planFetchComplete (.data b) => decide (b.length = 144) || decide (b.length = 4)
  | .journalWriteComplete => true
  | .partHalfWriteComplete => true
  | .signalWriteComplete => true
  | .statementDue => true
  | .usageWriteComplete => true
  | .memoryAccessFailed _ => true
  | .planReadComplete b => decide (0 < b.length) && decide (b.length ≤ 4608)

end Sys2Proof
end

