-- ==== Sys2Proof/Decode.lean ====
section
/-! DEFINITION. The command a word spells by the table's bits. spec/opcode_table.json gives no row any bits (its rows are
operations and events, and "fields" is empty in each), so no word spells a command. -/

namespace Sys2Proof

/-- No row of spec/opcode_table.json gives bits, so every word is refused. -/
def decodeTableWord (_nbits _w : Nat) : Option Instr := none

end Sys2Proof
end

