-- ==== Sys2Proof/Machine/State.lean ====
section
/-! DEFINITION. The state of the CJ4480, every block's fields as the spec names them, the reasons a step can stop, and the
state after a power-on reset. -/

namespace Sys2Proof.Machine

/-! ### States and codes of the blocks -/

/-- Part states (R143). -/
inductive PartMode where
  | parked | starting | running | stopping
deriving DecidableEq, Repr

/-- States of the memory side (R148). -/
inductive MemMode where
  | serving | faulted
deriving DecidableEq, Repr

/-- Fault regions (R143). -/
inductive Region where
  | none | controlPage | journal | usageTable
deriving DecidableEq, Repr

/-- Start refusal reasons (R145). -/
inductive StartRefusal where
  | none | baseInvalid | readFailed | badJournal | badUsageBase | journalCount
deriving DecidableEq, Repr

/-- Sync roles (R118). -/
inductive SyncRole where
  | alone | leader | follower
deriving DecidableEq, Repr

/-- Sync states (R118). -/
inductive SyncState where
  | alone | leading | seeking | locked
deriving DecidableEq, Repr

/-- The two signals of the SYNC line (R122). -/
inductive SyncSignal where
  | pulse | mark
deriving DecidableEq, Repr

/-- The changes a SYNC_CHANGE announces (R126). -/
inductive SyncChange where
  | locked | lost
deriving DecidableEq, Repr

/-- Port states (R40). -/
inductive PortMode where
  | standby | allocating | granting | draining
deriving DecidableEq, Repr

/-- Conduct states (R96). -/
inductive Conduct where
  | good | warned | restricted | cutOff
deriving DecidableEq, Repr

/-- Ramp curves (R30). -/
inductive Curve where
  | linear | steep
deriving DecidableEq, Repr

/-- A rule's lane treatment (R81). -/
inductive Treatment where
  | asBound | urgent | bulk
deriving DecidableEq, Repr

/-- Plan refusal reasons (R134, R133). -/
inductive PlanFault where
  | torn | count | index | duplicateCell | capacityZero | fetchFailed
deriving DecidableEq, Repr

/-- Reasons of a REFUSE (R72). -/
inductive RefuseReason where
  | unbound | unclassified | queueBusy | portClosed | cutOff | noShare
deriving DecidableEq, Repr

/-- States of an outstanding entry (R46). -/
inductive EntryState where
  | live | lapsed
deriving DecidableEq, Repr

/-- States of the starvation scan (R109). -/
inductive ScanState where
  | idle | sweeping | halted
deriving DecidableEq, Repr

/-! ### Messages, notices and reports -/

/-- Outbound messages (R72). -/
inductive OutMsg where
  | grant (port : Port) (tag : Tag) (queue : QueueId) (units : Nat)
  | revoke (port : Port) (tag : Tag)
  | refuse (port : Port) (queue : QueueId) (reason : RefuseReason)
deriving DecidableEq, Repr

/-- Notices (R156). `deferredApplied`'s unit is a port, or none for the part (R140). -/
inductive Notice where
  | planApplied (gen : Word32) (epoch : Epoch) (tag : Word16) (clamps : Nat) (deferred : Tab 4 Bool) (partDeferred : Bool)
  | planRefused (gen : Word32) (epoch : Epoch) (tag : Word16) (reason : PlanFault)
  | deferredApplied (gen : Word32) (epoch : Epoch) (unit : Option Port)
  | conductChange (account : Account) (old new : Conduct) (score : Nat) (epoch : Epoch)
  | starvationFinding (port : Port) (account : Account) (count floor net : Nat) (epoch : Epoch)
  | syncChange (change : SyncChange) (epoch previous : Epoch)
  | portState (port : Port) (left entered : PortMode) (epoch : Epoch)
  | memoryResumed (region : Region) (epoch : Epoch)
deriving DecidableEq, Repr

/-- An epoch report (R156). -/
structure Report where
  port       : Port
  mode       : PortMode
  accepted   : Level
  firstEpoch : Epoch
  covered    : Nat
  effective  : Nat
  allocated  : Nat
  issuedNet  : Nat
  used       : Nat
  idle       : Nat
  overrun    : Nat
  expiries   : Nat
  late       : Nat
  stray      : Nat
  refused    : Nat
deriving DecidableEq, Repr

/-! ### Plans -/

/-- A port record of a plan (R128). -/
structure PortRecord where
  inService : Bool
  curve     : Curve
  depth     : Nat
  life      : Nat
  cnom      : Nat
  quantum   : Nat
  derate1   : Nat
  derate2   : Nat
  derate3   : Nat
deriving DecidableEq, Repr

/-- An account record of a plan (R128). -/
structure AccountRecord where
  urgentPermitted : Bool
  autoRecovery    : Bool
  reinstate       : Bool
deriving DecidableEq, Repr

/-- A share entry of a plan (R128). -/
structure Share where
  account : Account
  port    : Port
  weight  : Nat
  floor   : Nat
  ceiling : Nat
  burst   : Nat
  rise    : Nat
  fall    : Nat
deriving DecidableEq, Repr

/-- A classification rule of a plan (R81). -/
structure Rule where
  value     : Word24
  mask      : Word24
  ports     : Tab 4 Bool
  account   : Account
  treatment : Treatment
deriving DecidableEq, Repr

/-- A plan (R128), with the clamp count of R135. -/
structure Plan where
  gen      : Word32
  tag      : Word16
  lengthUs : Nat
  role     : SyncRole
  interval : Nat
  scanS    : Nat
  ports    : Tab 4 PortRecord
  accounts : Tab 48 AccountRecord
  shares   : List Share
  rules    : List Rule
  clamps   : Nat
deriving DecidableEq, Repr

/-- The empty plan (R142). -/
def emptyPlan : Plan where
  gen := 0
  tag := 0
  lengthUs := 1000
  role := .alone
  interval := 1000
  scanS := 0
  ports := Tab.fill 4
    { inService := false, curve := .linear, depth := 2, life := 4, cnom := 1, quantum := 64,
      derate1 := 256, derate2 := 256, derate3 := 256 }
  accounts := Tab.fill 48 { urgentPermitted := false, autoRecovery := false, reinstate := false }
  shares := []
  rules := []
  clamps := 0

/-! ### One port: share engine, grant arbiter and queue table -/

/-- A cell's ramp state (R27). -/
structure Ramp where
  start  : Nat
  target : Nat
  length : Nat
  step   : Nat
  weight : Nat
deriving DecidableEq, Repr

/-- A cell's allocation record (R1), with its last settled figures (R112). -/
structure Cell where
  allowance    : Nat
  issued       : Nat
  credit       : Nat
  claim        : Nat
  epochFloor   : Nat
  demand       : Nat
  ramp         : Ramp
  starved      : Nat
  reported     : Bool
  cumAllocated : Word64
  cumIssued    : Word64
  cumUsed      : Word64
  cumOverrun   : Word64
  cumExpiries  : Word32
  lastFloor    : Nat
  lastNet      : Nat
deriving DecidableEq, Repr

/-- What the allocation copies of one cell at its start (R4, R7). -/
structure AllocInput where
  takesPart : Bool
  floor     : Nat
  ceiling   : Nat
  credit    : Nat
  weight    : Nat
  demand    : Nat
  conduct   : Conduct
deriving DecidableEq, Repr

/-- The allocation in flight (R2): the epoch it was begun for, the copies it works on and the marked accounts (R17). -/
structure Allocation where
  epoch    : Epoch
  capacity : Nat
  inputs   : Tab 48 AllocInput
  marked   : List Account
deriving DecidableEq, Repr

/-- The share engine's running sums for the epoch report (R2). -/
structure Totals where
  effective : Nat
  allocated : Nat
  idle      : Nat
deriving DecidableEq, Repr

/-- The level filter (R33 to R35). -/
structure Filter where
  raw      : Level
  history  : List Level
  accepted : Level
deriving DecidableEq, Repr

/-- An entry of the outstanding grant table (R46). -/
structure Entry where
  tag     : Tag
  queue   : QueueId
  account : Account
  units   : Nat
  issued  : Epoch
  age     : Nat
  state   : EntryState
deriving DecidableEq, Repr

/-- The arbiter's epoch counts (R60). -/
structure Counts where
  used     : Nat
  overrun  : Nat
  expiries : Nat
  late     : Nat
  stray    : Nat
deriving DecidableEq, Repr

/-- A queue entry (R79). -/
structure Queue where
  bound     : Bool
  source    : Word24
  requested : Lane
  account   : Account
  lane      : Lane
  tally     : Nat
  waiting   : Bool
deriving DecidableEq, Repr

/-- A port's standby-class values (R129, R139). -/
structure StandbyValues where
  cnom    : Nat
  quantum : Nat
  life    : Nat
deriving DecidableEq, Repr

/-- A port's filled deferred slot (R130). -/
structure PortDeferred where
  values : StandbyValues
  gen    : Word32
deriving DecidableEq, Repr

/-- All that is present once for each port. `closeOwed` and `changeOwed` are the boundaries the share engine and the
arbiter have still to take, oldest first, each by the epoch number it began (R121); `allocDue` says that an epoch's
allocation has not begun yet (R6). -/
structure PortBlock where
  mode        : PortMode
  openEpoch   : Epoch
  table       : List Entry
  tagCounter  : Tag
  urgentLists : Tab 48 (List QueueId)
  bulkLists   : Tab 48 (List QueueId)
  urgentPtr   : Account
  bulkPtr     : Account
  counts      : Counts
  cells       : Tab 48 Cell
  capacity    : Nat
  served      : Bool
  totals      : Totals
  filter      : Filter
  inFlight    : Option Allocation
  queues      : Tab 128 Queue
  refused     : Nat
  values      : StandbyValues
  deferred    : Option PortDeferred
  closeOwed   : List Epoch
  changeOwed  : List Epoch
  allocDue    : Bool
deriving DecidableEq, Repr

/-! ### The blocks present once -/

/-- The link interface (R67): output queue, link discard count, the receiver's partial message, and the message the
transmitter took last, as its bytes on the link (R73, R77). -/
structure Link where
  output   : List OutMsg
  discards : Word32
  partialRx : List Byte
  sending  : Option (List Byte)
deriving DecidableEq, Repr

/-- A conduct record (R95). The state is the band of the score (R96) and is computed from it. -/
structure ConductRec where
  score    : Nat
  quiet    : Nat
  fault    : Bool
  activity : Bool
  demand   : Bool
deriving DecidableEq, Repr

/-- The conduct unit, with the boundaries it has still to take. -/
structure ConductUnit where
  recs : Tab 48 ConductRec
  owed : List Epoch
deriving DecidableEq, Repr

/-- The outstanding finding: its cell and, once written, its journal position (R109, R113). -/
structure Finding where
  cell     : CellIx
  position : Option Word32
deriving DecidableEq, Repr

/-- The starvation scan (R109), with the boundaries it has still to take. -/
structure Scan where
  state   : ScanState
  cursor  : CellIx
  finding : Option Finding
  owed    : List Epoch
deriving DecidableEq, Repr

/-- A length and a role (R118, R129). -/
structure Timing where
  lengthUs : Nat
  role     : SyncRole
deriving DecidableEq, Repr

/-- The epoch timer (R118). `due` is the moment at which its own next boundary falls (R119, R125), `started` the moment
of its last start (R123), `driving` the signal a leader drove at its last boundary (R122). -/
structure Timer where
  running  : Bool
  epoch    : Epoch
  last     : Option Moment
  due      : Moment
  started  : Moment
  timing   : Timing
  sync     : SyncState
  pending  : Option Timing
  driving  : Option SyncSignal
deriving DecidableEq, Repr

/-- The generation the plan unit is trying to obtain, with the plan address shown with it (R131). -/
structure Wanted where
  gen  : Word32
  addr : Word64
deriving DecidableEq, Repr

/-- A plan fetch in flight, with the bytes its completed reads returned (R132, R165). -/
structure Fetch where
  gen  : Word32
  addr : Word64
  data : List Byte
deriving DecidableEq, Repr

/-- The part's filled deferred slot (R130). -/
structure PartDeferred where
  timing : Timing
  gen    : Word32
deriving DecidableEq, Repr

/-- A boundary the plan unit has still to take: the epoch it began, the hold flag as last read when it was made, and
whether the plan now staged was staged by then (R137). -/
structure PlanDue where
  epoch : Epoch
  hold  : Bool
  ripe  : Bool
deriving DecidableEq, Repr

/-- The plan unit (R130), with the boundaries it has still to take. -/
structure PlanUnit where
  inForce      : Plan
  appliedEpoch : Epoch
  staged       : Option Plan
  wanted       : Option Wanted
  fetch        : Option Fetch
  fetched      : Word32
  refused      : Option Word32
  partDeferred : Option PartDeferred
  hold         : Bool
  owed         : List PlanDue
deriving DecidableEq, Repr

/-- A port's pending report slot (R152, R155). -/
structure Slot where
  held    : Option Report
  waiting : Option Report
deriving DecidableEq, Repr

/-- A write to host memory: its address and its bytes. -/
structure HostWrite where
  addr : Word64
  data : List Byte
deriving DecidableEq, Repr

/-- Which record the journal write in flight carries (R153). -/
inductive JournalItem where
  | notice (n : Notice)
  | first (port : Port) (r : Report)
  | continuation (port : Port) (r : Report)
deriving DecidableEq, Repr

/-- The journal write in flight. -/
structure JournalWrite where
  item  : JournalItem
  count : Word32
  write : HostWrite
deriving DecidableEq, Repr

/-- Occasions of a writing pass (R157); only parking's part-half write is the final one (R147). A boundary makes a
part-half write of its own unless the previous one was in flight when it fell (R151). -/
inductive Occasion where
  | boundary (writes : Bool)
  | entry | resumption | parking
deriving DecidableEq, Repr

/-- How far a writing pass has come: about to write again the report whose write failed, if there is one (R153), writing
notices, or about to take the reports from port number `next` on (R157). -/
inductive PassStage where
  | again
  | notices
  | reports (next : Nat)
deriving DecidableEq, Repr

/-- A writing pass under way. -/
structure Pass where
  occasion : Occasion
  stage    : PassStage
deriving DecidableEq, Repr

/-- A part-half write in flight (R151, R158). -/
structure PartHalfWrite where
  write      : HostWrite
  signalling : Bool
  produced   : Word32
  final      : Bool
deriving DecidableEq, Repr

/-- A signal write in flight; `final` says that it follows the final part-half write (R147, R158). -/
structure SignalWrite where
  write : HostWrite
  final : Bool
deriving DecidableEq, Repr

/-- The writes of a usage statement, in order (R161). -/
inductive UsageStep where
  | opening
  | cell (i : CellIx)
  | account (a : Account)
  | closing
deriving DecidableEq, Repr

/-- A usage statement being written: its epoch and the write in flight (R161). -/
structure Statement where
  epoch : Epoch
  step  : UsageStep
  write : HostWrite
deriving DecidableEq, Repr

/-- A read of the host half in flight (R149, R150): whether it stands as the resumption read, and whether it is that of a
boundary which makes a part-half write of its own (R151). -/
structure HostRead where
  resumption : Bool
  writes     : Bool
deriving DecidableEq, Repr

/-- The memory side (R148, R152, R158, R160, R161) with the part-static values in force (R146). `rewrite` is the port whose
report is to be written again after a failed write (R153), `writesOwed` the part-half writes that wait for the one in
flight, oldest first, each with the mark of the final one (R147, R151). -/
structure MemSide where
  mode         : MemMode
  region       : Region
  journalBase  : Word64
  capacity     : Nat
  usageBase    : Word64
  signalAddr   : Word64
  signalValue  : Word32
  signalMask   : Word32
  produced     : Word32
  consumed     : Word32
  notices      : List Notice
  slots        : Tab 4 Slot
  lapsed       : Word32
  armed        : Bool
  noted        : Word32
  signalDue    : Bool
  stmtCount    : Nat
  stmtNumber   : Word32
  stmtOwed     : List Epoch
  statement    : Option Statement
  read         : Option HostRead
  abandoned    : Nat
  pass         : Option Pass
  passQueue    : List Occasion
  rewrite      : Option Port
  journalWrite : Option JournalWrite
  partHalf     : Option PartHalfWrite
  writesOwed   : List Bool
  signalWrites : List SignalWrite
deriving DecidableEq, Repr

/-- The register window and the part state (R143, R144). `startRead` says that the read of STARTING is in flight,
`withdrawn` that the start has been withdrawn, `parking` that parking is under way (R147). -/
structure Window where
  pageLo    : Word32
  pageHi    : Word32
  run       : Bool
  mode      : PartMode
  refusal   : StartRefusal
  startRead : Bool
  withdrawn : Bool
  parking   : Bool
deriving DecidableEq, Repr

/-- The whole part, and the commands that wait for it, first in, first out. -/
structure State where
  link    : Link
  ports   : Tab 4 PortBlock
  conduct : ConductUnit
  scan    : Scan
  timer   : Timer
  plans   : PlanUnit
  mem     : MemSide
  win     : Window
  pending : List Instr
deriving DecidableEq, Repr

/-! ### How a step can stop -/

/-- Reasons a step stops with a fault. There is none: the spec gives every command an effect in every state, so nothing
raises a fault (log entry 1). -/
inductive Fault
deriving DecidableEq, Repr

/-- Reasons a command has no meaning in the model. -/
inductive Refusal where
  /-- Raised by an arm of `exec` whose command has no meaning yet; safe, since the machine stops. No arm raises it now. -/
  | notModelled (mnemonic : String)
deriving DecidableEq, Repr

/-! ### The state after a power-on reset -/

/-- A cell's record after either reset (R1, R27, R112). -/
def Cell.reset : Cell where
  allowance := 0
  issued := 0
  credit := 0
  claim := 0
  epochFloor := 0
  demand := 0
  ramp := { start := 0, target := 0, length := 0, step := 0, weight := 0 }
  starved := 0
  reported := false
  cumAllocated := 0
  cumIssued := 0
  cumUsed := 0
  cumOverrun := 0
  cumExpiries := 0
  lastFloor := 0
  lastNet := 0

/-- A queue entry after either reset (R79). -/
def Queue.reset : Queue where
  bound := false
  source := 0
  requested := .bulk
  account := 0
  lane := .bulk
  tally := 0
  waiting := false

/-- A port after either reset (R2, R33 to R35, R40, R46, R47, R49, R50, R60, R80, R139). -/
def PortBlock.reset : PortBlock where
  mode := .standby
  openEpoch := 0
  table := []
  tagCounter := 255
  urgentLists := Tab.fill 48 []
  bulkLists := Tab.fill 48 []
  urgentPtr := 47
  bulkPtr := 47
  counts := { used := 0, overrun := 0, expiries := 0, late := 0, stray := 0 }
  cells := Tab.fill 48 Cell.reset
  capacity := 0
  served := false
  totals := { effective := 0, allocated := 0, idle := 0 }
  filter := { raw := 0, history := [], accepted := 0 }
  inFlight := none
  queues := Tab.fill 128 Queue.reset
  refused := 0
  values := { cnom := 1, quantum := 64, life := 4 }
  deferred := none
  closeOwed := []
  changeOwed := []
  allocDue := false

/-- The link interface after either reset (R67, R77). -/
def Link.reset : Link where
  output := []
  discards := 0
  partialRx := []
  sending := none

/-- A conduct record after either reset (R95). -/
def ConductRec.reset : ConductRec where
  score := 0
  quiet := 0
  fault := false
  activity := false
  demand := false

/-- The scan after either reset (R109). -/
def Scan.reset : Scan where
  state := .idle
  cursor := 0
  finding := none
  owed := []

/-- The timer after either reset (R118, R120). -/
def Timer.reset : Timer where
  running := false
  epoch := 0
  last := none
  due := 0
  started := 0
  timing := { lengthUs := 1000, role := .alone }
  sync := .alone
  pending := none
  driving := none

/-- The plan unit after either reset (R130, R142). -/
def PlanUnit.reset : PlanUnit where
  inForce := emptyPlan
  appliedEpoch := 0
  staged := none
  wanted := none
  fetch := none
  fetched := 0
  refused := none
  partDeferred := none
  hold := false
  owed := []

/-- The memory side after either reset (R143, R152, R160, R161). The spec gives the part-static values and the signal mask
in force no value before the first start: zero (log entry 3). -/
def MemSide.reset : MemSide where
  mode := .serving
  region := .none
  journalBase := 0
  capacity := 0
  usageBase := 0
  signalAddr := 0
  signalValue := 0
  signalMask := 0
  produced := 0
  consumed := 0
  notices := []
  slots := Tab.fill 4 { held := none, waiting := none }
  lapsed := 0
  armed := false
  noted := 0
  signalDue := false
  stmtCount := 0
  stmtNumber := 0
  stmtOwed := []
  statement := none
  read := none
  abandoned := 0
  pass := none
  passQueue := []
  rewrite := none
  journalWrite := none
  partHalf := none
  writesOwed := []
  signalWrites := []

/-- The register window after a power-on reset (R143). -/
def Window.reset : Window where
  pageLo := 0
  pageHi := 0
  run := false
  mode := .parked
  refusal := .none
  startRead := false
  withdrawn := false
  parking := false

/-- The part after a power-on reset, with no command waiting. -/
def State.reset : State where
  link := Link.reset
  ports := Tab.fill 4 PortBlock.reset
  conduct := { recs := Tab.fill 48 ConductRec.reset, owed := [] }
  scan := Scan.reset
  timer := Timer.reset
  plans := PlanUnit.reset
  mem := MemSide.reset
  win := Window.reset
  pending := []

end Sys2Proof.Machine
end

