-- ==== Sys2Proof/Machine/Ops.lean ====
section
/-! DEFINITION. The operations every block shares: counts that saturate, one port's or one cell's record, service lists,
posting a notice, placing a message, looking a cell up in the plan in force, and reading a conduct state. -/

namespace Sys2Proof.Machine

/-- A sum of two counts that saturates at 4,294,967,295 (R60, R80, R155). -/
def satAdd (a b : Nat) : Nat := min (a + b) Config.maxCount32

/-! ### Ports and cells -/

/-- One port's block changed by `f`. -/
def State.modPort (s : State) (p : Port) (f : PortBlock → PortBlock) : State :=
  { s with ports := s.ports.modify p f }

/-- One cell's allocation record changed by `f`. -/
def PortBlock.modCell (b : PortBlock) (a : Account) (f : Cell → Cell) : PortBlock :=
  { b with cells := b.cells.modify a f }

/-- A cell's remaining allowance: allowance less issued net (R1). -/
def Cell.remaining (c : Cell) : Nat := c.allowance - c.issued

/-- The cell index of an account on a port (R109). -/
def cellIx (p : Port) (a : Account) : CellIx :=
  ⟨p.val * 48 + a.val, by omega⟩

/-- The port of a cell (R109). -/
def cellPort (c : CellIx) : Port := ⟨c.val / 48, by omega⟩

/-- The account of a cell (R109). -/
def cellAccount (c : CellIx) : Account := ⟨c.val % 48, by omega⟩

/-- The record of a cell. -/
def State.cellAt (s : State) (c : CellIx) : Cell :=
  (s.ports.get (cellPort c)).cells.get (cellAccount c)

/-! ### Service lists (R49) -/

/-- The service list of an account and a lane. -/
def PortBlock.list (b : PortBlock) (l : Lane) (a : Account) : List QueueId :=
  match l with
  | .urgent => b.urgentLists.get a
  | .bulk => b.bulkLists.get a

/-- The port with the service list of an account and a lane replaced. -/
def PortBlock.setList (b : PortBlock) (l : Lane) (a : Account) (q : List QueueId) : PortBlock :=
  match l with
  | .urgent => { b with urgentLists := b.urgentLists.set a q }
  | .bulk => { b with bulkLists := b.bulkLists.set a q }

/-- The queue joins the tail of the service list. -/
def PortBlock.joinList (b : PortBlock) (l : Lane) (a : Account) (q : QueueId) : PortBlock :=
  b.setList l a (b.list l a ++ [q])

/-- The queue leaves the service list. -/
def PortBlock.leaveList (b : PortBlock) (l : Lane) (a : Account) (q : QueueId) : PortBlock :=
  b.setList l a ((b.list l a).filter (· ≠ q))

/-- One queue's entry changed by `f`. -/
def PortBlock.modQueue (b : PortBlock) (q : QueueId) (f : Queue → Queue) : PortBlock :=
  { b with queues := b.queues.modify q f }

/-- A queue's tally cleared and its waiting flag with it; the binding is kept (R90). -/
def Queue.cleared (q : Queue) : Queue := { q with tally := 0, waiting := false }

/-! ### Notices and outbound messages -/

/-- Posting a notice: it joins the tail of the notice queue, or the lapsed notice count rises when the queue is full
(R154). -/
def State.post (s : State) (n : Notice) : State :=
  if s.mem.notices.length < Config.noticeDepth then
    { s with mem := { s.mem with notices := s.mem.notices ++ [n] } }
  else
    { s with mem := { s.mem with lapsed := s.mem.lapsed + 1 } }

/-- Posting notices one after another. -/
def State.postAll (s : State) (ns : List Notice) : State := ns.foldl State.post s

/-- The output queue has room for a message (R73). -/
def State.hasRoom (s : State) : Bool := decide (s.link.output.length < Config.outputDepth)

/-- Placing a message at the tail of the output queue; a message that finds it full is not sent (R73, R75). -/
def State.place (s : State) (m : OutMsg) : State :=
  if s.hasRoom then { s with link := { s.link with output := s.link.output ++ [m] } } else s

/-- Placing messages one after another. -/
def State.placeAll (s : State) (ms : List OutMsg) : State := ms.foldl State.place s

/-! ### Plan in force and conduct -/

/-- The share entry of a cell, if the plan holds one (R4, R128). -/
def Plan.share (pl : Plan) (p : Port) (a : Account) : Option Share :=
  pl.shares.find? fun e => decide (e.port = p) && decide (e.account = a)

/-- The band of a score (R96). -/
def band (score : Nat) : Conduct :=
  if score ≤ 95 then .good
  else if score ≤ 127 then .warned
  else if score ≤ 255 then .restricted
  else .cutOff

/-- An account's conduct state (R96). -/
def ConductRec.state (r : ConductRec) : Conduct := band r.score

/-- An account's conduct state as it stands. -/
def State.conductOf (s : State) (a : Account) : Conduct := (s.conduct.recs.get a).state

/-- One account's conduct record changed by `f`. -/
def State.modConduct (s : State) (a : Account) (f : ConductRec → ConductRec) : State :=
  { s with conduct := { s.conduct with recs := s.conduct.recs.modify a f } }

/-- The port record of the plan in force (R128). -/
def State.portRecord (s : State) (p : Port) : PortRecord := s.plans.inForce.ports.get p

/-- Every port is in STANDBY. -/
def State.allStandby (s : State) : Bool := s.ports.cells.all fun b => decide (b.mode = .standby)

/-- The part is in RUNNING or STOPPING, the states in which the timer runs and memory is accessed (10.1). -/
def State.active (s : State) : Bool := decide (s.win.mode = .running) || decide (s.win.mode = .stopping)

end Sys2Proof.Machine
end

