-- ==== Sys2Proof/Machine/Operands.lean ====
section
/-! DEFINITION. How a command's operands are read: an order of ports or accounts, an order in which the messages of
several ports are placed, the length of a signal on the SYNC line, and a write to RUN_CTL. -/

namespace Sys2Proof.Machine

/-- The order a command names, each thing once, with whatever it does not name after it in increasing number. A list that
names each thing once is its own order. -/
def fullOrder {n : Nat} (l : List (Fin n)) : List (Fin n) :=
  l.dedup ++ (List.finRange n).filter (· ∉ l)

/-- The messages of the four ports in one sequence: each port's keep their order, and the schedule says whose comes next;
when it is used up, what is left follows port by port (R74). -/
def mergePorts {α : Type} : List Port → Tab 4 (List α) → List α
  | [], t => t.cells.flatten
  | p :: ps, t =>
    match t.get p with
    | [] => mergePorts ps t
    | m :: ms => m :: mergePorts ps (t.set p ms)

/-- What a follower takes a signal of this length as (R123); none: it is disregarded. -/
def signalOf (len : Nat) : Option SyncSignal :=
  if len < Config.pulseMin then none
  else if len < Config.markMin then some .pulse
  else some .mark

/-- The command that a 32-bit write to RUN_CTL makes: bit 0 is Run, bit 1 Reset, the rest is ignored (13.2, R143, R144).
The order of the ports belongs to STOP. -/
def runCtlCommand (value : Word32) (order : List Port) : Instr :=
  if value.getLsbD 1 then .controlReset (value.getLsbD 0)
  else if value.getLsbD 0 then .run
  else .stop order

end Sys2Proof.Machine
end

