-- ==== Sys2Proof/Machine/Flags.lean ====
section
/-! DEFINITION. The codes of 13.1 and the status words built of them: PART_STAT, RUN_CTL as read, and the deferred flags
of the part half. -/

namespace Sys2Proof.Machine

/-! ### Codes (13.1) -/

def PartMode.code : PartMode → Nat
  | .parked => 0 | .starting => 1 | .running => 2 | .stopping => 3
def MemMode.code : MemMode → Nat
  | .serving => 0 | .faulted => 1
def Region.code : Region → Nat
  | .none => 0 | .controlPage => 1 | .journal => 2 | .usageTable => 3
def StartRefusal.code : StartRefusal → Nat
  | .none => 0 | .baseInvalid => 1 | .readFailed => 2 | .badJournal => 3 | .badUsageBase => 4 | .journalCount => 5
def SyncState.code : SyncState → Nat
  | .alone => 0 | .leading => 1 | .seeking => 2 | .locked => 3
def PortMode.code : PortMode → Nat
  | .standby => 0 | .allocating => 1 | .granting => 2 | .draining => 3
def Conduct.code : Conduct → Nat
  | .good => 0 | .warned => 1 | .restricted => 2 | .cutOff => 3
def PlanFault.code : PlanFault → Nat
  | .torn => 1 | .count => 2 | .index => 3 | .duplicateCell => 4 | .capacityZero => 5 | .fetchFailed => 6
def SyncChange.code : SyncChange → Nat
  | .locked => 1 | .lost => 2
def RefuseReason.code : RefuseReason → Nat
  | .unbound => 1 | .unclassified => 2 | .queueBusy => 3 | .portClosed => 4 | .cutOff => 5 | .noShare => 6
def laneCode : Lane → Nat
  | .urgent => 0 | .bulk => 1

/-- The journal record kind of an EPOCH_REPORT (13.1). -/
def reportKind : Nat := 1

/-- The journal record kind of a notice (13.1). -/
def Notice.kind : Notice → Nat
  | .planApplied .. => 2
  | .planRefused .. => 3
  | .deferredApplied .. => 4
  | .conductChange .. => 5
  | .starvationFinding .. => 6
  | .syncChange .. => 7
  | .portState .. => 8
  | .memoryResumed .. => 9

/-- A bit as a number. -/
def bit (b : Bool) : Nat := if b then 1 else 0

/-- Four ports' flags as bits 0 to 3 and the part's as bit 4 (13.1). -/
def maskBits (ports : Tab 4 Bool) (part : Bool) : Nat :=
  bit (ports.get 0) + 2 * bit (ports.get 1) + 4 * bit (ports.get 2) + 8 * bit (ports.get 3) + 16 * bit part

/-- The deferred flags of the part half: one bit for each slot that holds values, the part's also while pending timing
waits for the timer to adopt it (R127, R151). -/
def State.deferredFlags (s : State) : Nat :=
  maskBits (s.ports.map fun b => b.deferred.isSome) (s.plans.partDeferred.isSome || s.timer.pending.isSome)

/-- PART_STAT as it reads (R143, 13.2). -/
def State.partStat (s : State) : Word32 :=
  BitVec.ofNat 32
    (s.win.mode.code + 4 * s.mem.mode.code + 8 * s.mem.region.code + 32 * s.win.refusal.code
      + 65536 * (s.timer.epoch.toNat % 65536))

/-- RUN_CTL as it reads: bit 0 is Run, Reset reads 0 (R143). -/
def State.runCtl (s : State) : Word32 := BitVec.ofNat 32 (bit s.win.run)

/-- The address of the control page, PAGE_HI:PAGE_LO (R145). -/
def State.pageAddress (s : State) : Word64 := s.win.pageHi ++ s.win.pageLo

/-- The kind of a completed record is in the signal mask in force: bit n stands for kind n (R158, R164). -/
def State.signalled (s : State) (kind : Nat) : Bool := s.mem.signalMask.getLsbD kind

end Sys2Proof.Machine
end

