-- ==== Sys2Proof/Machine/Formats.lean ====
section
/-! DEFINITION. The layouts of 13_formats.md that the part writes and reads: little-endian fields, journal records, the
part half, usage rows, the control page's two halves, and grant-link messages with their check (R69). -/

namespace Sys2Proof.Machine

/-! ### Little-endian fields (13, R164) -/

/-- The `n` bytes of a value, least significant first. -/
def leBytes : Nat → Nat → List Byte
  | 0, _ => []
  | n + 1, v => BitVec.ofNat 8 v :: leBytes n (v / 256)

/-- The value of bytes, least significant first. -/
def leValue : List Byte → Nat
  | [] => 0
  | b :: bs => b.toNat + 256 * leValue bs

/-- The value of the field of `size` bytes at offset `off`. -/
def field (bytes : List Byte) (off size : Nat) : Nat := leValue ((bytes.drop off).take size)

/-- The low 24 bits of the 4-byte field at `off` (R164). -/
def field24 (bytes : List Byte) (off : Nat) : Nat := field bytes off 3

/-- Reserved bytes, written 0 (R164). -/
def zeros (n : Nat) : List Byte := List.replicate n 0

/-- Bytes brought to length `n` with zeros. -/
def padTo (n : Nat) (bytes : List Byte) : List Byte := bytes ++ zeros (n - bytes.length)

/-! ### Journal records (13.5) -/

/-- A record: its header, with the low 16 bits of its count, and its body of 28 bytes. -/
def recordBytes (kind : Nat) (continuation : Bool) (count : Word32) (body : List Byte) : List Byte :=
  leBytes 1 kind ++ leBytes 1 (bit continuation) ++ leBytes 2 count.toNat ++ padTo 28 body

/-- The body of a notice's record (R166). -/
def Notice.body : Notice → List Byte
  | .planApplied g e t c d pd =>
    leBytes 4 g.toNat ++ leBytes 4 e.toNat ++ leBytes 2 t.toNat ++ leBytes 2 c ++ leBytes 1 (maskBits d pd)
  | .planRefused g e t r =>
    leBytes 4 g.toNat ++ leBytes 4 e.toNat ++ leBytes 2 t.toNat ++ leBytes 1 r.code
  | .deferredApplied g e u =>
    leBytes 4 g.toNat ++ leBytes 4 e.toNat ++ leBytes 1 (match u with | some p => p.val | none => 4)
  | .conductChange a old new score e =>
    leBytes 1 a.val ++ leBytes 1 old.code ++ leBytes 1 new.code ++ zeros 1 ++ leBytes 2 score ++ zeros 2
      ++ leBytes 4 e.toNat
  | .starvationFinding p a count floor net e =>
    leBytes 1 p.val ++ leBytes 1 a.val ++ leBytes 1 count ++ zeros 1 ++ leBytes 4 floor ++ leBytes 4 net
      ++ leBytes 4 e.toNat
  | .syncChange c e prev =>
    leBytes 1 c.code ++ zeros 3 ++ leBytes 4 e.toNat ++ leBytes 4 prev.toNat
  | .portState p left entered e =>
    leBytes 1 p.val ++ leBytes 1 left.code ++ leBytes 1 entered.code ++ zeros 1 ++ leBytes 4 e.toNat
  | .memoryResumed r e =>
    leBytes 1 r.code ++ zeros 3 ++ leBytes 4 e.toNat

/-- The body of an EPOCH_REPORT's first record (R166). -/
def Report.firstBody (r : Report) : List Byte :=
  leBytes 1 r.port.val ++ leBytes 1 r.mode.code ++ leBytes 1 r.accepted.val ++ zeros 1
    ++ leBytes 4 r.firstEpoch.toNat ++ leBytes 2 r.covered ++ zeros 2
    ++ leBytes 4 r.effective ++ leBytes 4 r.allocated ++ leBytes 4 r.issuedNet ++ leBytes 4 r.used

/-- The body of an EPOCH_REPORT's continuation (R166). -/
def Report.contBody (r : Report) : List Byte :=
  leBytes 4 r.idle ++ leBytes 4 r.overrun ++ leBytes 4 r.expiries ++ leBytes 4 r.late ++ leBytes 4 r.stray
    ++ leBytes 4 r.refused ++ leBytes 1 r.port.val ++ zeros 3

/-- The bytes of the record that takes this count (R166). -/
def JournalItem.bytes (count : Word32) : JournalItem → List Byte
  | .notice n => recordBytes n.kind false count n.body
  | .first _ r => recordBytes reportKind false count r.firstBody
  | .continuation _ r => recordBytes reportKind true count r.contBody

/-! ### Control page (13.3) -/

/-- The part half, 64 bytes, with each field as it stands and the part state it is to carry (R151). -/
def State.partHalfBytes (s : State) (mode : PartMode) : List Byte :=
  leBytes 1 mode.code ++ leBytes 1 MemMode.serving.code ++ leBytes 1 s.timer.sync.code ++ leBytes 1 s.deferredFlags
    ++ (s.ports.cells.map fun b => BitVec.ofNat 8 b.mode.code)
    ++ leBytes 4 s.timer.epoch.toNat
    ++ leBytes 4 s.plans.inForce.gen.toNat ++ leBytes 2 s.plans.inForce.tag.toNat ++ zeros 2
    ++ leBytes 4 s.plans.appliedEpoch.toNat
    ++ leBytes 4 s.plans.fetched.toNat
    ++ leBytes 4 (match s.plans.staged with | some pl => pl.gen.toNat | none => 0)
    ++ leBytes 4 s.mem.produced.toNat ++ leBytes 4 s.mem.lapsed.toNat ++ leBytes 4 s.link.discards.toNat
    ++ zeros 20

/-- The host half as read (R150). -/
structure HostHalf where
  planAddr : Word64
  planGen  : Word32
  hold     : Bool
  mask     : Word32
  consumed : Word32
deriving DecidableEq, Repr

/-- The fields of the 24 bytes of the host half (13.3, R164). -/
def readHostHalf (b : List Byte) : HostHalf where
  planAddr := BitVec.ofNat 64 (field b 0 8)
  planGen := BitVec.ofNat 32 (field b 8 4)
  hold := decide (field b 12 1 % 2 = 1)
  mask := BitVec.ofNat 32 (field b 16 4)
  consumed := BitVec.ofNat 32 (field b 20 4)

/-- The part-static fields as read (R145). -/
structure PartStatic where
  journalBase : Word64
  capacity    : Nat
  usageBase   : Word64
  signalAddr  : Word64
  signalValue : Word32
deriving DecidableEq, Repr

/-- The fields of the 36 bytes of the part-static area, offset 0x040 on (13.3). -/
def readPartStatic (b : List Byte) : PartStatic where
  journalBase := BitVec.ofNat 64 (field b 0 8)
  capacity := field b 8 4
  usageBase := BitVec.ofNat 64 (field b 16 8)
  signalAddr := BitVec.ofNat 64 (field b 24 8)
  signalValue := BitVec.ofNat 32 (field b 32 4)

/-! ### Usage table (13.6) -/

/-- The header: statement number, epoch number and reserved bytes. -/
def usageHeader (number : Word32) (epoch : Epoch) : List Byte :=
  leBytes 4 number.toNat ++ leBytes 4 epoch.toNat ++ zeros 56

/-- A cell row (R161). -/
def Cell.row (c : Cell) : List Byte :=
  leBytes 8 c.cumAllocated.toNat ++ leBytes 8 c.cumIssued.toNat ++ leBytes 8 c.cumUsed.toNat
    ++ leBytes 8 c.cumOverrun.toNat ++ leBytes 4 c.cumExpiries.toNat ++ leBytes 4 c.allowance
    ++ leBytes 4 c.credit ++ leBytes 2 c.ramp.weight ++ leBytes 1 c.starved ++ zeros 17

/-- An account row (R161). -/
def ConductRec.row (r : ConductRec) : List Byte :=
  leBytes 2 r.score ++ leBytes 1 r.state.code ++ leBytes 1 r.quiet ++ zeros 12

/-! ### Grant-link messages (13.7) -/

/-- One bit through the check register (R69, steps 1 to 3). -/
def crcBit (reg : Word16) (b : Bool) : Word16 :=
  if reg.msb ^^ b then (reg <<< 1) ^^^ 0x1021#16 else reg <<< 1

/-- One byte through the check register, most significant bit first (R69). -/
def crcByte (reg : Word16) (b : Byte) : Word16 :=
  [7, 6, 5, 4, 3, 2, 1, 0].foldl (fun r i => crcBit r (b.getLsbD i)) reg

/-- The check over a message's bytes (R69). -/
def crc16 (bytes : List Byte) : Word16 := bytes.foldl crcByte 0xFFFF#16

/-- A message's fields followed by their check, low byte first (R69). -/
def withCheck (fields : List Byte) : List Byte := fields ++ leBytes 2 (crc16 fields).toNat

/-- An outbound message as it is sent (13.7). -/
def OutMsg.wire : OutMsg → List Byte
  | .grant p t q u => withCheck (leBytes 1 0x11 ++ leBytes 1 p.val ++ [t] ++ leBytes 1 q.val ++ leBytes 2 u)
  | .revoke p t => withCheck (leBytes 1 0x12 ++ leBytes 1 p.val ++ [t] ++ zeros 1)
  | .refuse p q r => withCheck (leBytes 1 0x13 ++ leBytes 1 p.val ++ leBytes 1 q.val ++ leBytes 1 r.code)

/-- An inbound message that passes R68, with the fields its block is handed (R70). -/
inductive InMsg where
  | bind (port : Port) (queue : QueueId) (source : Word24) (lane : Lane)
  | unbind (port : Port) (queue : QueueId)
  | demand (port : Port) (queue : QueueId) (units : Word16)
  | close (port : Port) (tag : Tag) (used : Word16)
  | level (port : Port) (level : Byte)
deriving DecidableEq, Repr

/-- An inbound message as the switch sends it (13.7). -/
def InMsg.wire : InMsg → List Byte
  | .bind p q src l =>
    withCheck (leBytes 1 0x01 ++ leBytes 1 p.val ++ leBytes 1 q.val ++ leBytes 1 (laneCode l) ++ leBytes 4 src.toNat)
  | .unbind p q => withCheck (leBytes 1 0x02 ++ leBytes 1 p.val ++ leBytes 1 q.val ++ zeros 1)
  | .demand p q u =>
    withCheck (leBytes 1 0x03 ++ leBytes 1 p.val ++ leBytes 1 q.val ++ zeros 1 ++ leBytes 2 u.toNat)
  | .close p t u => withCheck (leBytes 1 0x04 ++ leBytes 1 p.val ++ [t] ++ zeros 1 ++ leBytes 2 u.toNat)
  | .level p l => withCheck (leBytes 1 0x05 ++ leBytes 1 p.val ++ [l] ++ zeros 1)

/-- A port byte, unless it names a port above P3. -/
def portField (b : Nat) : Option Port := if h : b < 4 then some ⟨b, h⟩ else none

/-- A queue byte, unless it names a queue above 127. -/
def queueField (b : Nat) : Option QueueId := if h : b < 128 then some ⟨b, h⟩ else none

/-- A lane byte, unless it names no lane. -/
def laneField (b : Nat) : Option Lane := if b = 0 then some .urgent else if b = 1 then some .bulk else none

/-- The inbound message in the fields before the check; none where R68 discards it for its kind, its length (13.7, less
the 2 bytes of the check), or a field out of range. -/
def inboundFields (b : List Byte) : Option InMsg :=
  match field b 0 1 with
  | 1 =>
    if b.length = 8 then do
      let p ← portField (field b 1 1)
      let q ← queueField (field b 2 1)
      let l ← laneField (field b 3 1)
      return .bind p q (BitVec.ofNat 24 (field24 b 4)) l
    else none
  | 2 =>
    if b.length = 4 then do
      let p ← portField (field b 1 1)
      let q ← queueField (field b 2 1)
      return .unbind p q
    else none
  | 3 =>
    if b.length = 6 then do
      let p ← portField (field b 1 1)
      let q ← queueField (field b 2 1)
      return .demand p q (BitVec.ofNat 16 (field b 4 2))
    else none
  | 4 =>
    if b.length = 6 then do
      let p ← portField (field b 1 1)
      return .close p (BitVec.ofNat 8 (field b 2 1)) (BitVec.ofNat 16 (field b 4 2))
    else none
  | 5 =>
    if b.length = 4 then do
      let p ← portField (field b 1 1)
      return .level p (BitVec.ofNat 8 (field b 2 1))
    else none
  | _ => none

/-- The check of R69 holds: the last two bytes carry, low byte first, the check over the bytes before them. -/
def checkPasses (b : List Byte) : Bool :=
  decide (2 ≤ b.length) && decide (leBytes 2 (crc16 (b.take (b.length - 2))).toNat = b.drop (b.length - 2))

/-- What the link interface makes of an inbound message's bytes: the message it hands on, or none where it discards them
(R68). -/
def judgeInbound (b : List Byte) : Option InMsg :=
  if checkPasses b then inboundFields (b.take (b.length - 2)) else none

end Sys2Proof.Machine
end

