-- ==== Sys2Proof/Machine/Memory.lean ====
section
/-! DEFINITION. The memory side's shared operations: room in the journal, the writing pass and the part-half write that
ends it, report handover, entry to PARKED, entry to FAULTED, and the usage statement's writes. -/

namespace Sys2Proof.Machine

/-! ### Reports (R155) -/

/-- A new report merged into a held one (R155). -/
def Report.merge (held new : Report) : Report where
  port := held.port
  mode := new.mode
  accepted := new.accepted
  firstEpoch := held.firstEpoch
  covered := min (held.covered + new.covered) Config.maxCovered
  effective := satAdd held.effective new.effective
  allocated := satAdd held.allocated new.allocated
  issuedNet := satAdd held.issuedNet new.issuedNet
  used := satAdd held.used new.used
  idle := satAdd held.idle new.idle
  overrun := satAdd held.overrun new.overrun
  expiries := satAdd held.expiries new.expiries
  late := satAdd held.late new.late
  stray := satAdd held.stray new.stray
  refused := satAdd held.refused new.refused

/-- A report merged into what may be held, or placed where nothing is. -/
def mergeInto (held : Option Report) (new : Report) : Option Report :=
  match held with
  | none => some new
  | some h => some (h.merge new)

/-- The journal write in flight carries a record of this port's report. -/
def MemSide.writingReport (m : MemSide) (p : Port) : Bool :=
  match m.journalWrite with
  | some w =>
    match w.item with
    | .notice _ => false
    | .first q _ => decide (q = p)
    | .continuation q _ => decide (q = p)
  | none => false

/-- A port hands its report over: it is placed, merged into the held report, or held as the waiting report while the held
one is being written (R155). -/
def State.handOver (s : State) (r : Report) : State :=
  let f (sl : Slot) : Slot :=
    if s.mem.writingReport r.port then { sl with waiting := mergeInto sl.waiting r }
    else { sl with held := mergeInto sl.held r }
  { s with mem := { s.mem with slots := s.mem.slots.modify r.port f } }

/-- A report whose write ended without both its records complete: its waiting report is merged into it (R155). -/
def Slot.unwritten (sl : Slot) : Slot :=
  match sl.waiting with
  | none => sl
  | some w => { held := mergeInto sl.held w, waiting := none }

/-! ### The journal writer (R153, R157) -/

/-- Records of room: capacity less the records not yet consumed (R153). -/
def MemSide.room (m : MemSide) : Nat := m.capacity - (m.produced - m.consumed).toNat

/-- The address of the slot that takes a count (R153). -/
def MemSide.slotAddress (m : MemSide) (count : Word32) : Word64 :=
  m.journalBase + BitVec.ofNat 64 (32 * (count.toNat % m.capacity))

/-- The first report pending from port number `k` on, if two records of room are free (R157). -/
def MemSide.nextReport (m : MemSide) (k : Nat) : Option JournalItem :=
  match (List.finRange 4).find? fun p => decide (k ≤ p.val) && (m.slots.get p).held.isSome with
  | none => none
  | some p => if 2 ≤ m.room then (m.slots.get p).held.map (JournalItem.first p) else none

/-- The record that comes after what is to be written again: the notice at the head of the queue, or the first pending
report (R157). -/
def MemSide.nextNotice (m : MemSide) : Option JournalItem :=
  match m.notices with
  | n :: _ => if 1 ≤ m.room then some (.notice n) else none
  | [] => m.nextReport 0

/-- The report whose write failed, with its port: after resumption it is written again before anything else, so that it
takes the same count and the same slot (R153, R166; log entry 36). -/
def MemSide.failedReport (m : MemSide) : Option (Port × Report) :=
  m.rewrite.bind fun p => (m.slots.get p).held.map fun r => (p, r)

/-- The record a pass at this stage writes next; none: the pass ends (R157). -/
def MemSide.nextItem (m : MemSide) : PassStage → Option JournalItem
  | .again =>
    match m.failedReport with
    | some x => if 2 ≤ m.room then some (.first x.1 x.2) else none
    | none => m.nextNotice
  | .notices => m.nextNotice
  | .reports k => m.nextReport k

/-- The stage a pass is in while it writes a record that it took at stage `st`: a report written again leaves it before
the notices. -/
def MemSide.stageOf (m : MemSide) (st : PassStage) : JournalItem → PassStage
  | .notice _ => .notices
  | .first p _ => if st = .again ∧ m.failedReport.isSome = true then .again else .reports p.val
  | .continuation p _ => .reports p.val

/-- The write of a record is issued with this count (R153). -/
def State.issueRecord (s : State) (item : JournalItem) (count : Word32) : State :=
  { s with mem := { s.mem with
      journalWrite := some
        { item := item, count := count, write := { addr := s.mem.slotAddress count, data := item.bytes count } } } }

/-- The part-half write is issued (R151). With the signal-due indication set it is signalling, and the indication is
cleared; with signal address 0 nothing further follows (R158). -/
def State.issuePartHalf (s : State) (final : Bool) : State :=
  { s with mem := { s.mem with
      partHalf := some
        { write := { addr := s.pageAddress + 0x800#64, data := s.partHalfBytes (if final then .parked else s.win.mode) },
          signalling := s.mem.signalDue && decide (s.mem.signalAddr ≠ 0),
          produced := s.mem.produced,
          final := final }
      signalDue := false } }

/-- The final part-half write is owed, in flight, or followed by its signal write in flight: no other part-half write
comes after it (R147). -/
def MemSide.finalDue (m : MemSide) : Bool :=
  m.writesOwed.contains true || m.partHalf.any PartHalfWrite.final || m.signalWrites.any SignalWrite.final

/-- A part-half write is due: it is issued, or it waits for the one in flight to complete (R147, R151; log entry 20). -/
def State.duePartHalf (s : State) (final : Bool) : State :=
  if s.mem.finalDue then s
  else if s.mem.partHalf.isNone then s.issuePartHalf final
  else { s with mem := { s.mem with writesOwed := s.mem.writesOwed ++ [final] } }

/-- The occasion makes a part-half write (R151). -/
def Occasion.writes : Occasion → Bool
  | .boundary w => w
  | .entry => true
  | .resumption => true
  | .parking => true

/-- A pass has ended: the part-half write of its occasion is due, if the occasion makes one (R151, R157). -/
def State.endPass (s : State) (o : Occasion) : State :=
  let s := { s with mem := { s.mem with pass := none } }
  if o.writes then s.duePartHalf (decide (o = .parking)) else s

/-- The journal writer goes on: the pass under way issues its next record or ends, and the next occasion's pass follows.
Every pass takes at most two of `fuel`. -/
def pumpPasses : Nat → State → State
  | 0, s => s
  | fuel + 1, s =>
    match s.mem.pass with
    | some pass =>
      match s.mem.nextItem pass.stage with
      | some item =>
        let s := { s with mem := { s.mem with pass := some { pass with stage := s.mem.stageOf pass.stage item } } }
        s.issueRecord item s.mem.produced
      | none => pumpPasses fuel (s.endPass pass.occasion)
    | none =>
      match s.mem.passQueue with
      | [] => s
      | o :: os =>
        pumpPasses fuel
          { s with mem := { s.mem with pass := some { occasion := o, stage := .again }, passQueue := os } }

/-- The journal writer goes on as far as it can. -/
def State.pump (s : State) : State := pumpPasses (2 * s.mem.passQueue.length + 2) s

/-- A writing pass is due: it begins at once, or once the pass under way has ended (R157, R121). -/
def State.startPass (s : State) (o : Occasion) : State :=
  let s := { s with mem := { s.mem with passQueue := s.mem.passQueue ++ [o] } }
  if s.mem.pass.isNone then s.pump else s

/-! ### PARKED (R147, R120, R130) -/

/-- The memory side with every access ended and no pass, read or statement under way. -/
def MemSide.quiet (m : MemSide) : MemSide :=
  { m with
    statement := none, read := none, abandoned := 0, pass := none, passQueue := [], journalWrite := none,
    partHalf := none, writesOwed := [], signalWrites := [] }

/-- Entry to PARKED: Run is cleared, the timer stops, a follower's sync state becomes SEEKING, the plan unit drops its
staged plan and its fetch, and what is still in flight is abandoned. A boundary that the share engines, the arbiters, the
plan unit and the scan have not taken yet has nothing to do in them in PARKED; one that the conduct unit has not taken
stays owed (log entry 6). -/
def State.park (s : State) : State :=
  { s with
    win := { s.win with mode := .parked, run := false, parking := false }
    timer := { s.timer with
      running := false
      sync := if s.timer.timing.role = .follower then .seeking else s.timer.sync
      driving := none }
    plans := { s.plans with staged := none, wanted := none, fetch := none, refused := none, owed := [] }
    scan := { s.scan with owed := [] }
    ports := s.ports.map fun b => { b with closeOwed := [], changeOwed := [], allocDue := false }
    mem := s.mem.quiet }

/-- Parking begins: the last port has reached STANDBY in STOPPING. A SERVING memory side makes its parking pass and the
final part-half write first; a FAULTED one writes nothing (R147). -/
def State.beginParking (s : State) : State :=
  if s.mem.mode = .faulted then s.park
  else { s with win := { s.win with parking := true } }.startPass .parking

/-- Parking begins if the part is STOPPING, every port is in STANDBY and parking is not under way (R147). -/
def State.parkIfDone (s : State) : State :=
  if s.win.mode = .stopping ∧ s.allStandby = true ∧ s.win.parking = false then s.beginParking else s

/-! ### FAULTED (R148) -/

/-- The port whose report the journal write in flight carries. -/
def MemSide.reportInFlight (m : MemSide) : Option Port :=
  match m.journalWrite with
  | some w =>
    match w.item with
    | .notice _ => none
    | .first p _ => some p
    | .continuation p _ => some p
  | none => none

/-- The report being written stays in its slot, with its waiting report merged into it, and is to be written again (R153,
R155). -/
def MemSide.unwriteReport (m : MemSide) : MemSide :=
  match m.reportInFlight with
  | none => m
  | some p => { m with slots := m.slots.modify p Slot.unwritten, rewrite := some p }

/-- A part-half write in flight that is signalling sets the indication again when it does not complete (R148, R158). -/
def MemSide.keepSignal (m : MemSide) : MemSide :=
  match m.partHalf with
  | none => m
  | some w => { m with signalDue := m.signalDue || w.signalling }

/-- Entry to FAULTED with a region: every access in flight is abandoned, the plan fetch with them (R133, R148), and parking
under way ends in PARKED at once, with no final write made (R147). R147 says this of the parking pass; that it is so too once
that pass has ended, where the final write still waits behind one that fails or is abandoned, is the model's choice: R147
has it issued then, and R148 allows no access (DESIGN CHOICE, log entry 43). -/
def State.enterFaulted (s : State) (r : Region) : State :=
  let s := { s with
    mem := { s.mem.unwriteReport.keepSignal.quiet with mode := .faulted, region := r }
    plans := { s.plans with fetch := none, wanted := none } }
  if s.win.parking then s.park else s

/-! ### Usage statements (R161) -/

/-- Where a statement's write goes in the usage table (13.6). -/
def UsageStep.offset : UsageStep → Nat
  | .opening => 0
  | .cell i => 64 + 64 * i.val
  | .account a => 12352 + 16 * a.val
  | .closing => 0

/-- The write that follows (R161). -/
def UsageStep.next : UsageStep → Option UsageStep
  | .opening => some (.cell 0)
  | .cell i => if h : i.val + 1 < 192 then some (.cell ⟨i.val + 1, h⟩) else some (.account 0)
  | .account a => if h : a.val + 1 < 48 then some (.account ⟨a.val + 1, h⟩) else some .closing
  | .closing => none

/-- What a statement's write carries, as it stands (R161). -/
def State.usageBytes (s : State) (epoch : Epoch) : UsageStep → List Byte
  | .opening => usageHeader s.mem.stmtNumber epoch
  | .cell i => (s.cellAt i).row
  | .account a => (s.conduct.recs.get a).row
  | .closing => usageHeader s.mem.stmtNumber epoch

/-- A statement's write is issued. -/
def State.issueUsage (s : State) (epoch : Epoch) (step : UsageStep) : State :=
  { s with mem := { s.mem with
      statement := some
        { epoch := epoch, step := step,
          write := { addr := s.mem.usageBase + BitVec.ofNat 64 step.offset, data := s.usageBytes epoch step } } } }

/-- The next odd value of the statement number: by 1 from an even one, by 2 from an odd one (R161). -/
def nextOdd (n : Word32) : Word32 := if n.getLsbD 0 then n + 2 else n + 1

end Sys2Proof.Machine
end

