-- ==== Sys2Proof/Machine/Share.lean ====
section
/-! DEFINITION. The share engine of one port: the allocation's two stages, the ramps, the level filter, the stages of the
port close that work on the cells, and the settlement that forms an epoch report (01 and 02 of the spec). -/

namespace Sys2Proof.Machine

/-! ### Stage 1: guaranteed claims (R8, R9) -/

/-- A cell's claim: min(d, f + k, c), and 0 for a cell that does not take part (R4, R8). -/
def AllocInput.claim (i : AllocInput) : Nat :=
  if i.takesPart then min i.demand (min (i.floor + i.credit) i.ceiling) else 0

/-- A cell that still wants units, with a measure of what it has coming: in the order of the largest remainder, the lower
account number first among equals (R9, R12). -/
def remainderFirst (x y : Account × Nat) : Bool :=
  decide (y.2 < x.2) || (decide (x.2 = y.2) && decide (x.1 ≤ y.1))

/-- The accounts that receive one unit each of a leftover, in order of largest remainder (R9, R12). -/
def leftoverTo (rems : List (Account × Nat)) (leftover : Nat) : List Account :=
  ((rems.insertionSort fun x y => remainderFirst x y = true).take leftover).map Prod.fst

/-- One more unit for each of these accounts. -/
def addUnits (t : Tab 48 Nat) (l : List Account) : Tab 48 Nat :=
  t.mapIdx fun a u => if a ∈ l then u + 1 else u

/-- The claims scaled down to capacity C, G being their sum, and the leftover handed out (R9). -/
def scaleClaims (capacity total : Nat) (inputs : Tab 48 AllocInput) (claims : Tab 48 Nat) : Tab 48 Nat :=
  let base := claims.map fun g => g * capacity / total
  let rems := ((List.finRange 48).filter fun a => (inputs.get a).takesPart).map fun a =>
    (a, claims.get a * capacity % total)
  addUnits base (leftoverTo rems (capacity - base.cells.sum))

/-! ### Stage 2: excess by weight (R10 to R12) -/

/-- A cell of the set W: its weight and its residual want (R10). -/
structure Wanting where
  account : Account
  weight  : Nat
  want    : Nat
deriving DecidableEq, Repr

/-- The set W at the start of stage 2 (R10). -/
def wantingCells (inputs : Tab 48 AllocInput) (a : Tab 48 Nat) : List Wanting :=
  (List.finRange 48).filterMap fun i =>
    let x := inputs.get i
    let r := min x.demand x.ceiling - a.get i
    if x.takesPart = true ∧ (x.conduct = .good ∨ x.conduct = .warned) ∧ 0 < x.weight ∧ 0 < r then
      some { account := i, weight := x.weight, want := r }
    else none

/-- The sum of the weights, S (R11). -/
def weightSum (w : List Wanting) : Nat := (w.map Wanting.weight).sum

/-- A cell's share of the excess X: floor(X × w / S) (R11). -/
def Wanting.share (x total : Nat) (e : Wanting) : Nat := x * e.weight / total

/-- Units added to the allowances of these accounts. -/
def giveUnits (a : Tab 48 Nat) (gifts : List (Account × Nat)) : Tab 48 Nat :=
  gifts.foldl (fun t g => t.modify g.1 (· + g.2)) a

/-- The final round: every cell receives its share, and the leftover goes out in order of largest remainder (R12). -/
def finalRound (x : Nat) (w : List Wanting) (a : Tab 48 Nat) : Tab 48 Nat :=
  let s := weightSum w
  let given := w.map fun e => (e.account, e.share x s)
  let rems := w.map fun e => (e.account, x * e.weight % s)
  addUnits (giveUnits a given) (leftoverTo rems (x - (given.map Prod.snd).sum))

/-- The rounds of stage 2, at most as many as `rounds` (R11, R12). -/
def stageTwo : Nat → Nat → List Wanting → Tab 48 Nat → Tab 48 Nat
  | 0, _, _, a => a
  | rounds + 1, x, w, a =>
    if x = 0 ∨ w = [] then a
    else
      let s := weightSum w
      let satisfied := w.filter fun e => decide (e.want ≤ e.share x s)
      if satisfied = [] then finalRound x w a
      else
        stageTwo rounds (x - (satisfied.map Wanting.want).sum) (w.filter fun e => decide (e.share x s < e.want))
          (giveUnits a (satisfied.map fun e => (e.account, e.want)))

/-- The allowances the allocation computes from its copies (R8 to R13). -/
def allocate (capacity : Nat) (inputs : Tab 48 AllocInput) : Tab 48 Nat :=
  let claims := inputs.map AllocInput.claim
  let total := claims.cells.sum
  if capacity < total then scaleClaims capacity total inputs claims
  else stageTwo 48 (capacity - total) (wantingCells inputs claims) claims

/-- The result delivered: the marked accounts' allowances are set to 0 (R17). -/
def Allocation.result (al : Allocation) : Tab 48 Nat :=
  (allocate al.capacity al.inputs).mapIdx fun a u => if a ∈ al.marked then 0 else u

/-! ### Capacity, snapshot and ramps at the allocation's start -/

/-- The derate factor of a level in 256ths; D[0] is 256 (R3). -/
def PortRecord.derate (r : PortRecord) : Level → Nat
  | 0 => 256
  | 1 => r.derate1
  | 2 => r.derate2
  | 3 => r.derate3

/-- The port's effective capacity: floor(Cnom × D[L] / 256) (R3). -/
def PortBlock.effectiveCapacity (b : PortBlock) (r : PortRecord) : Nat :=
  b.values.cnom * r.derate b.filter.accepted / 256

/-- The demand snapshot of an account: the tallies of its bound queues, saturating (R5). -/
def PortBlock.snapshot (b : PortBlock) (a : Account) : Nat :=
  min Config.maxUnits
    ((b.queues.cells.filter fun q => q.bound && decide (q.account = a)).map Queue.tally).sum

/-- The STEEP curve's factors at positions 0 to 16, in 256ths (R30). -/
def steepTable : List Nat := [0, 1, 2, 4, 6, 9, 13, 18, 25, 34, 46, 62, 83, 111, 148, 196, 256]

/-- The curve factor at position m, in 256ths (R30). -/
def Curve.factor : Curve → Nat → Nat
  | .linear, m => 16 * m
  | .steep, m => steepTable.getD m 256

/-- The ramp is under way (R27). -/
def Ramp.ramping (r : Ramp) : Bool := decide (r.step < r.length)

/-- The weight of a ramp at curve factor F (R29, step 4). -/
def Ramp.weightAt (r : Ramp) (f : Nat) : Nat :=
  if r.start < r.target then r.start + (r.target - r.start) * f / 256
  else r.start - (r.start - r.target) * f / 256

/-- One ramp step; a cell that is not ramping takes none (R29). -/
def Ramp.advance (c : Curve) (r : Ramp) : Ramp :=
  if r.ramping then
    { r with step := r.step + 1, weight := r.weightAt (c.factor (16 * (r.step + 1) / r.length)) }
  else r

/-- A ramp started at a plan application toward a target, with the rise and fall lengths of the share entry (R28). -/
def Ramp.begin (w0 target rise fall : Nat) : Ramp :=
  let r := if w0 < target then rise else if target < w0 then fall else 0
  { start := w0, target := target, length := r, step := 0, weight := if r = 0 then target else w0 }

/-- The cell takes its ramp step, if it holds a share entry (R29). -/
def Cell.rampStep (c : Cell) (share : Option Share) (curve : Curve) : Cell :=
  if share.isSome then { c with ramp := c.ramp.advance curve } else c

/-- What the allocation copies of a cell (R4). -/
def Cell.allocInput (c : Cell) (share : Option Share) (conduct : Conduct) (demand : Nat) : AllocInput :=
  match share with
  | none =>
    { takesPart := false, floor := 0, ceiling := 0, credit := c.credit, weight := c.ramp.weight, demand := demand,
      conduct := conduct }
  | some e =>
    { takesPart := decide (conduct ≠ .cutOff), floor := e.floor, ceiling := e.ceiling, credit := c.credit,
      weight := c.ramp.weight, demand := demand, conduct := conduct }

/-- What the allocation's start records in a cell: the snapshot, the claim and the epoch floor, and allowance 0 for a cell
that does not take part (R4, R5, R8). -/
def Cell.recordStart (c : Cell) (i : AllocInput) : Cell :=
  { c with
    demand := i.demand
    claim := i.claim
    epochFloor := if i.takesPart then i.floor else 0
    allowance := if i.takesPart then c.allowance else 0 }

/-- The allocation begins on the port (R3 to R7, R29): `shares` are the plan in force's entries for the port's cells and
`conduct` the accounts' states as they stand. -/
def PortBlock.startAllocation (b : PortBlock) (r : PortRecord) (shares : Account → Option Share)
    (conduct : Account → Conduct) : PortBlock :=
  let stepped := b.cells.mapIdx fun a c => c.rampStep (shares a) r.curve
  let inputs := stepped.mapIdx fun a c => c.allocInput (shares a) (conduct a) (b.snapshot a)
  let capacity := b.effectiveCapacity r
  { b with
    cells := stepped.mapIdx fun a c => c.recordStart (inputs.get a)
    capacity := capacity
    inFlight := some { epoch := b.openEpoch, capacity := capacity, inputs := inputs, marked := [] }
    allocDue := false }

/-- The allocation's result is delivered (R14). -/
def PortBlock.deliver (b : PortBlock) (al : Allocation) : PortBlock :=
  let result := al.result
  let sum := result.cells.sum
  { b with
    cells := b.cells.mapIdx fun a c => { c with allowance := result.get a }
    served := true
    totals :=
      { effective := b.totals.effective + al.capacity, allocated := b.totals.allocated + sum,
        idle := b.totals.idle + (al.capacity - sum) }
    mode := .granting
    inFlight := none }

/-! ### The level filter (R33 to R35, R39) -/

/-- The level a LEVEL's byte carries: above 3 it is 3 (R33). -/
def levelOfByte (b : Byte) : Level := if h : b.toNat < 4 then ⟨b.toNat, h⟩ else 3

/-- The history after a sample: the oldest is dropped when it would hold 5 (R34). -/
def pushSample (history : List Level) (l : Level) : List Level :=
  let h := history ++ [l]
  h.drop (h.length - Config.historyDepth)

/-- The level that the last `depth` samples agree on (R35). -/
def agreedLevel (depth : Nat) (history : List Level) : Option Level :=
  let last := history.drop (history.length - depth)
  if depth ≤ history.length then
    match last with
    | [] => none
    | l :: rest => if rest.all (· = l) then some l else none
  else none

/-- Stage 5 of the close: the raw level is sampled and a level may be accepted (R34, R35). -/
def Filter.sample (f : Filter) (depth : Nat) : Filter :=
  let h := pushSample f.history f.raw
  { f with history := h, accepted := (agreedLevel depth h).getD f.accepted }

/-- The filter on entry to STANDBY: the raw level is kept (R39). -/
def Filter.emptied (f : Filter) : Filter := { f with history := [], accepted := 0 }

/-! ### The port close on the cells (R20 to R22) -/

/-- Stage 1: settlement of a cell. The settled figures are kept for the later stages and the scan (R20, R112). -/
def Cell.settle (c : Cell) : Cell :=
  { c with
    cumAllocated := c.cumAllocated + BitVec.ofNat 64 c.allowance
    cumIssued := c.cumIssued + BitVec.ofNat 64 c.issued
    lastFloor := c.epochFloor
    lastNet := c.issued
    allowance := 0
    issued := 0 }

/-- The new burst credit k' before it is brought into 0 to b (R21's table). -/
def creditTable (state : Conduct) (served : Bool) (n f g k b : Nat) : Nat :=
  if state = .cutOff then k
  else if served = false then k
  else if n < f then (if state = .good then min b (k + (f - n)) else k)
  else k - (min n g - f)

/-- Stage 2: the burst credit of a settled cell (R21). -/
def Cell.updateCredit (c : Cell) (share : Option Share) (state : Conduct) (served : Bool) : Cell :=
  match share with
  | none => { c with credit := 0 }
  | some e => { c with credit := min e.burst (creditTable state served c.lastNet c.epochFloor c.claim c.credit e.burst) }

/-- A settled cell was starved in the ending epoch (R22): the account is judged as it stands, also where it has left CUT_OFF
since (log entry 34). -/
def Cell.wasStarved (c : Cell) (share : Option Share) (state : Conduct) (served : Bool) : Bool :=
  served && share.isSome && decide (state ≠ .cutOff) && decide (0 < c.demand)
    && decide (c.lastNet < min c.epochFloor c.demand)

/-- The starved count at 0 and the reported flag clear (R22, R25). -/
def Cell.unstarved (c : Cell) : Cell := { c with starved := 0, reported := false }

/-- Stage 3: the starved count of a settled cell (R22). -/
def Cell.updateStarved (c : Cell) (share : Option Share) (state : Conduct) (served : Bool) : Cell :=
  if c.wasStarved share state served then { c with starved := min (c.starved + 1) Config.maxStarved }
  else c.unstarved

/-- Stages 1 to 3 of the close on one cell. -/
def Cell.closeStages (c : Cell) (share : Option Share) (state : Conduct) (served : Bool) : Cell :=
  (c.settle.updateCredit share state served).updateStarved share state served

/-! ### Epoch reports (R23, R25, R60, R80) -/

/-- The sum of a figure over the port's cells. -/
def PortBlock.sumCells (b : PortBlock) (f : Cell → Nat) : Nat := (b.cells.cells.map f).sum

/-- The report of an epoch: `settled` is the port as it stood at settlement, `b` as it stands when the report is formed
(R23, R25, R156). -/
def formReport (p : Port) (settled b : PortBlock) : Report where
  port := p
  mode := b.mode
  accepted := b.filter.accepted
  firstEpoch := settled.openEpoch
  covered := 1
  effective := min Config.maxCount32 b.totals.effective
  allocated := min Config.maxCount32 (settled.sumCells Cell.allowance)
  issuedNet := min Config.maxCount32 (settled.sumCells Cell.issued)
  used := b.counts.used
  idle := min Config.maxCount32 (b.totals.effective - settled.sumCells Cell.allowance)
  overrun := b.counts.overrun
  expiries := b.counts.expiries
  late := b.counts.late
  stray := b.counts.stray
  refused := b.refused

/-- What handing a report over clears: the served flag, the epoch totals, the epoch counts and the refused DEMAND count
(R19, R25, R60, R80). -/
def PortBlock.afterReport (b : PortBlock) : PortBlock :=
  { b with
    served := false
    totals := { effective := 0, allocated := 0, idle := 0 }
    counts := { used := 0, overrun := 0, expiries := 0, late := 0, stray := 0 }
    refused := 0 }

/-! ### Plans and the records (R24, R28) -/

/-- A cell at a plan application: `old` and `new` are its share entries in the two plans (R24, R28). The allowance that an
absent cell loses here is not in the cumulative allocated of a close taken later (log entry 32). -/
def Cell.applyPlan (c : Cell) (old new : Option Share) : Cell :=
  match new with
  | none =>
    { c with
      allowance := c.issued, credit := 0, starved := 0, reported := false,
      ramp := { start := 0, target := 0, length := 0, step := 0, weight := 0 } }
  | some e =>
    let w0 := if old.isSome then c.ramp.weight else 0
    { c with
      credit := if old.isSome then min c.credit e.burst else 0
      starved := if old.isSome then c.starved else 0
      ramp := Ramp.begin w0 e.weight e.rise e.fall }

end Sys2Proof.Machine
end

