-- ==== Sys2Proof/Machine/Conduct.lean ====
section
/-! DEFINITION. The conduct unit: charges, cut-off with its effect on every port, the boundary, recovery and
reinstatement (06_conduct_accounting.md), and the commands CONDUCT_BOUNDARY and AUTO_RECOVERY. -/

namespace Sys2Proof.Machine

/-! ### Cut-off (R63, R102) -/

/-- The entry is a LIVE one of the account. -/
def Entry.liveOf (e : Entry) (a : Account) : Bool := decide (e.state = .live) && decide (e.account = a)

/-- The entry lapsed, with age 0 (R46). -/
def Entry.lapse (e : Entry) : Entry := { e with state := .lapsed, age := 0 }

/-- The REVOKEs of an account's LIVE entries on a port, in the order of their tags (R63). -/
def PortBlock.revokes (b : PortBlock) (p : Port) (a : Account) : List OutMsg :=
  if b.mode = .standby then []
  else (((b.table.filter (·.liveOf a)).map Entry.tag).insertionSort (· ≤ ·)).map (OutMsg.revoke p)

/-- The share engine's part of a cut-off on a cell: credit 0, and allowance equal to issued net where no allocation is in
flight (R18). -/
def Cell.cutOff (c : Cell) (inFlight : Bool) : Cell :=
  { c with credit := 0, allowance := if inFlight then c.allowance else c.issued }

/-- The account joins the marked accounts of an allocation in flight (R17). -/
def Allocation.mark (al : Allocation) (a : Account) : Allocation :=
  { al with marked := if a ∈ al.marked then al.marked else al.marked ++ [a] }

/-- A port's part of a cut-off: the cell, the LIVE entries, the tallies and the service lists of the account
(R102, steps 3 to 5). -/
def PortBlock.cutOff (b : PortBlock) (a : Account) : PortBlock :=
  { b with
    cells := b.cells.modify a fun c => c.cutOff b.inFlight.isSome
    inFlight := b.inFlight.map (·.mark a)
    table := if b.mode = .standby then b.table else b.table.map fun e => if e.liveOf a then e.lapse else e
    queues := b.queues.map fun q => if q.bound = true ∧ q.account = a then q.cleared else q
    urgentLists := b.urgentLists.set a []
    bulkLists := b.bulkLists.set a [] }

/-- The conduct record's part of a cut-off: score 256, quiet count 0 and demand seen clear (R102, step 1). -/
def ConductRec.cutOff (r : ConductRec) : ConductRec :=
  { r with score := Config.cutOffScore, quiet := 0, demand := false }

/-- The account enters CUT_OFF, in one event: its record, CONDUCT_CHANGE, every port, and the REVOKEs where the output
queue has room (R102). The ports' REVOKEs are placed in the order the schedule gives (R74). -/
def State.enterCutOff (s : State) (a : Account) (sched : List Port) : State :=
  let revokes := s.ports.mapIdx fun p b => b.revokes p a
  let s1 := (s.modConduct a ConductRec.cutOff).post
    (.conductChange a (s.conductOf a) .cutOff Config.cutOffScore s.timer.epoch)
  { s1 with ports := s1.ports.map fun b : PortBlock => b.cutOff a }.placeAll (mergePorts sched revokes)

/-! ### Charges (R98) -/

/-- A charge for an account: the score rises and stops at 256, fault seen is set, a change of state is announced, and a
score of 256 cuts the account off in the same event. An account already in CUT_OFF keeps its score (R98). -/
def State.charge (s : State) (a : Account) (amount : Nat) (sched : List Port) : State :=
  let s0 := s.modConduct a fun r => { r with fault := true }
  let old := s.conductOf a
  let score := min Config.cutOffScore ((s.conduct.recs.get a).score + amount)
  if old = .cutOff then s0
  else if band score = .cutOff then s0.enterCutOff a sched
  else
    let s1 := s0.modConduct a fun r => { r with score := score }
    if band score = old then s1
    else s1.post (.conductChange a old (band score) score s.timer.epoch)

/-! ### Leaving CUT_OFF (R104 to R106) -/

/-- The record of an account that recovers: score 0, state GOOD, quiet count 0 (R104). -/
def ConductRec.recover (r : ConductRec) : ConductRec := { r with score := 0, quiet := 0 }

/-- The record of an account that is reinstated: the flags are cleared too (R105). -/
def ConductRec.reinstate (_ : ConductRec) : ConductRec := ConductRec.reset

/-- An account that leaves CUT_OFF starts again with starved count 0 and the reported flag clear in its cell on every port
(R106, R115; log entry 34). -/
def State.beginAnew (s : State) (left : Account → Bool) : State :=
  { s with ports := s.ports.map fun b =>
      { b with cells := b.cells.mapIdx fun a c => if left a then c.unstarved else c } }

/-! ### The boundary (R100, R103, R104) -/

/-- The quiet count of an account in CUT_OFF after a boundary (R103). -/
def ConductRec.nextQuiet (r : ConductRec) : Nat :=
  if r.demand then r.quiet else min (r.quiet + 1) Config.quietLimit

/-- The account recovers at a boundary: CUT_OFF, auto-recovery set, and the updated quiet count 32 (R104). -/
def ConductRec.recovers (r : ConductRec) (auto : Bool) : Bool :=
  decide (r.state = .cutOff) && auto && decide (r.nextQuiet = Config.quietLimit)

/-- The three flags cleared (R100). -/
def ConductRec.clearFlags (r : ConductRec) : ConductRec :=
  { r with fault := false, activity := false, demand := false }

/-- A record after the conduct unit has taken a boundary (R100, R103, R104). -/
def ConductRec.atBoundary (r : ConductRec) (auto : Bool) : ConductRec :=
  if r.state = .cutOff then
    if r.recovers auto then r.recover.clearFlags else { r with quiet := r.nextQuiet }.clearFlags
  else if r.activity = true ∧ r.fault = false then { r with score := r.score - 1 }.clearFlags
  else r.clearFlags

/-- The CONDUCT_CHANGE that a record's change posts, if its state changed (R107). -/
def changeNotice (a : Account) (old new : ConductRec) (e : Epoch) : Option Notice :=
  if old.state = new.state then none else some (.conductChange a old.state new.state new.score e)

/-- The auto-recovery flag of an account in the plan in force (R104). -/
def State.autoRecovery (s : State) (a : Account) : Bool := (s.plans.inForce.accounts.get a).autoRecovery

/-- CONDUCT_BOUNDARY: the conduct unit takes the boundary that began epoch `e` for every account (R100, R103, R104, R106);
the CONDUCT_CHANGEs are posted in the order in which the accounts are taken. It takes none in PARKED or STARTING (R108). -/
def execConductBoundary (order : List Account) (s : State) : Host.Outcome State Fault Refusal :=
  match s.conduct.owed with
  | [] => .next s
  | e :: rest =>
    let recs := s.conduct.recs.mapIdx fun a r => r.atBoundary (s.autoRecovery a)
    if s.active then
      .next (({ s with conduct := { recs := recs, owed := rest } }.beginAnew fun a =>
        (s.conduct.recs.get a).recovers (s.autoRecovery a)).postAll
          ((fullOrder order).filterMap fun a => changeNotice a (s.conduct.recs.get a) (recs.get a) e))
    else .next s

/-- AUTO_RECOVERY: the conduct unit, owing a boundary, takes it for one account that recovers at it: its score becomes 0,
its state GOOD, its quiet count 0, and CONDUCT_CHANGE is posted (R104, R106, R108). -/
def execAutoRecovery (a : Account) (s : State) : Host.Outcome State Fault Refusal :=
  match s.conduct.owed with
  | [] => .next s
  | e :: _ =>
    if s.active = true ∧ (s.conduct.recs.get a).recovers (s.autoRecovery a) = true then
      .next (((s.modConduct a fun r => r.recover.clearFlags).beginAnew fun x => decide (x = a)).post
        (.conductChange a .cutOff .good 0 e))
    else .next s

end Sys2Proof.Machine
end

