-- ==== Sys2Proof/Machine/Timer.lean ====
section
/-! DEFINITION. The epoch timer: making a boundary, adopting pending timing, starting, and the commands BOUNDARY,
SYNC_PULSE, SYNC_MARK and LOSS_OF_LOCK (08_epoch_timing_and_synchronisation.md). -/

namespace Sys2Proof.Machine

/-! ### Lengths and numbers -/

/-- An epoch length in ns. -/
def Timing.ns (t : Timing) : Nat := 1000 * t.lengthUs

/-- Half an epoch length in ns; E is a multiple of 10 µs (R119). -/
def Timing.halfNs (t : Timing) : Nat := 500 * t.lengthUs

/-- The number a mark gives the new epoch: the smallest multiple of 256 above the number before, or 0 (R123). -/
def realigned (n : Epoch) : Epoch := ((n >>> 8) + 1#32) <<< 8

/-- The signal a leader drives at the boundary that begins this epoch (R122). -/
def signalFor (e : Epoch) : SyncSignal := if e.toNat % 256 = 0 then .mark else .pulse

/-- The sync state a newly adopted role gives (R127). -/
def adoptedSync (old new : SyncRole) (sync : SyncState) : SyncState :=
  match new with
  | .alone => .alone
  | .leader => .leading
  | .follower => if old = .follower then sync else .seeking

/-- The sync state with which a role starts (R120, R118). -/
def startSync : SyncRole → SyncState
  | .alone => .alone
  | .leader => .leading
  | .follower => .seeking

/-- Time since the last boundary. -/
def Timer.since (t : Timer) (now : Moment) : Nat := now - t.last.getD 0

/-! ### Making a boundary (R121, R127) -/

/-- The timer makes a boundary at `now` that begins epoch `e`. Its next own boundary falls at `due`, and E later where it
adopts pending timing at this boundary, with the new E. -/
def Timer.makeBoundary (t : Timer) (now : Moment) (e : Epoch) (due : Moment) : Timer :=
  let t : Timer := { t with
    epoch := e
    last := some now
    due := due
    driving := if t.timing.role = .leader then some (signalFor e) else none }
  match t.pending with
  | none => t
  | some n =>
    { t with
      timing := n, pending := none, sync := adoptedSync t.timing.role n.role t.sync, due := now + n.ns }

/-- A SERVING memory side at a boundary: it starts its read of the host half. One still in flight is abandoned, and the new
one takes its place as the resumption read where it was that (R149, R150). The boundary makes a part-half write of its own
unless the previous one is in flight (R151; log entry 20). -/
def MemSide.readAtBoundary (m : MemSide) : MemSide :=
  if m.mode = .serving then
    { m with
      abandoned := if m.read.isSome then m.abandoned + 1 else m.abandoned
      read := some { resumption := m.read.any HostRead.resumption, writes := m.partHalf.isNone } }
  else m

/-- The boundary reaches every block (R121). -/
def State.spreadBoundary (s : State) (e : Epoch) : State :=
  { s with
    ports := s.ports.map fun b => { b with closeOwed := b.closeOwed ++ [e], changeOwed := b.changeOwed ++ [e] }
    conduct := { s.conduct with owed := s.conduct.owed ++ [e] }
    scan := { s.scan with owed := s.scan.owed ++ [e] }
    plans := { s.plans with
      owed := s.plans.owed ++ [{ epoch := e, hold := s.plans.hold, ripe := s.plans.staged.isSome }] }
    mem := { s.mem.readAtBoundary with stmtOwed := s.mem.stmtOwed ++ [e] } }

/-- The boundary before, whose read is abandoned at this one, makes its part-half write with no journal write before it,
since it makes no pass (R151, R157; log entry 35). -/
def State.writeAbandoned (s : State) (read : Option HostRead) : State :=
  if s.mem.mode = .serving ∧ read.any HostRead.writes = true then s.duePartHalf false else s

/-- A boundary is made at `now` that begins epoch `e`. -/
def State.makeBoundary (s : State) (now : Moment) (e : Epoch) (due : Moment) : State :=
  ({ s with timer := s.timer.makeBoundary now e due }.spreadBoundary e).writeAbandoned s.mem.read

/-- The sync state set before the boundary's adoption. -/
def State.setSync (s : State) (y : SyncState) : State := { s with timer := { s.timer with sync := y } }

/-- Pending timing handed over by the plan unit. Naming the length and role in force leaves nothing to adopt (R127). -/
def Timer.handOver (t : Timer) (n : Timing) : Timer :=
  { t with pending := if n = t.timing then none else some n }

/-- The timer starts at entry to RUNNING (R120). -/
def Timer.start (t : Timer) (now : Moment) : Timer :=
  let timing := t.pending.getD t.timing
  { t with
    running := true, last := some now, started := now, due := now + timing.ns, timing := timing, pending := none,
    sync := startSync timing.role, driving := none }

/-! ### What the commands judge -/

/-- The part's own timer makes a boundary at this moment: it runs, makes boundaries of its own, and the moment is the due
one to within 0.1 µs (R119, R121). -/
def Timer.ownBoundary (t : Timer) (now : Moment) : Bool :=
  t.running && decide (t.sync ≠ .locked) && decide (t.due ≤ now + Config.timerTolerance)
    && decide (now ≤ t.due + Config.timerTolerance)

/-- A follower whose timer runs takes a signal that ends at `now`, began after the timer started and has length `len`
(R123). One that was under way when the part became a follower at a boundary is taken whole (log entry 37). -/
def Timer.takesSignal (t : Timer) (now : Moment) (len : Nat) (y : SyncSignal) : Bool :=
  t.running && decide (t.timing.role = .follower) && decide (t.started + len ≤ now) && decide (signalOf len = some y)

/-- A signal taken in LOCKED falls in the window of R124. One taken later than that, where the loss is not yet found, is
disregarded, a mark too (log entry 40). The time since the last boundary alone decides, as R124's table has it, also for a
leader whose epochs are shorter than E/2 (log entry 41). -/
def Timer.inWindow (t : Timer) (now : Moment) : Bool :=
  decide (t.timing.halfNs ≤ t.since now) && decide (t.since now ≤ 3 * t.timing.halfNs)

/-- The loss of lock is found at this moment: LOCKED, and 3E/2 has passed since the last boundary, to within 0.1 µs
(R125). -/
def Timer.findsLoss (t : Timer) (now : Moment) : Bool :=
  t.running && decide (t.sync = .locked) && decide (3 * t.timing.halfNs ≤ t.since now)
    && decide (t.since now ≤ 3 * t.timing.halfNs + Config.timerTolerance)

/-! ### The commands -/

/-- BOUNDARY (R121 to R123): the epoch number rises by 1, and the next own boundary falls E later. -/
def execBoundary (now : Moment) (s : State) : Host.Outcome State Fault Refusal :=
  if s.timer.ownBoundary now then
    .next (s.makeBoundary now (s.timer.epoch + 1) (now + s.timer.timing.ns))
  else .next s

/-- SYNC_PULSE (R123, R124): in LOCKED and within the window it makes a boundary; otherwise it is disregarded. -/
def execSyncPulse (now : Moment) (len : Nat) (s : State) : Host.Outcome State Fault Refusal :=
  if s.timer.takesSignal now len .pulse && decide (s.timer.sync = .locked) && s.timer.inWindow now then
    .next (s.makeBoundary now (s.timer.epoch + 1) (now + s.timer.timing.ns))
  else .next s

/-- SYNC_MARK (R123, R124, R126): in SEEKING, and in LOCKED within the window, it makes a boundary that realigns the epoch
number. SYNC_CHANGE LOCKED is posted on a relock, and in LOCKED where the number did not rise by exactly 1. -/
def execSyncMark (now : Moment) (len : Nat) (s : State) : Host.Outcome State Fault Refusal :=
  let old := s.timer.epoch
  let new := realigned old
  if s.timer.takesSignal now len .mark then
    match s.timer.sync with
    | .seeking =>
      .next (((s.setSync .locked).makeBoundary now new (now + s.timer.timing.ns)).post
        (.syncChange .locked new old))
    | .locked =>
      if s.timer.inWindow now then
        let s1 := s.makeBoundary now new (now + s.timer.timing.ns)
        .next (if new = old + 1 then s1 else s1.post (.syncChange .locked new old))
      else .next s
    | .alone => .next s
    | .leading => .next s
  else .next s

/-- LOSS_OF_LOCK (R125): the follower makes a boundary itself, its sync state becomes SEEKING, its next own boundary falls
2E after the previous last boundary, and SYNC_CHANGE LOST is posted. -/
def execLossOfLock (now : Moment) (s : State) : Host.Outcome State Fault Refusal :=
  let old := s.timer.epoch
  if s.timer.findsLoss now then
    .next (((s.setSync .seeking).makeBoundary now (old + 1) (s.timer.last.getD 0 + 2 * s.timer.timing.ns)).post
      (.syncChange .lost (old + 1) old))
  else .next s

end Sys2Proof.Machine
end

