-- ==== Sys2Proof/Machine/Standby.lean ====
section
/-! DEFINITION. Entry to STANDBY and to DRAINING (R42, R43): the settlement, the deferred slots and the PORT_STATE
notices. -/

namespace Sys2Proof.Machine

/-- Every service list empty. -/
def PortBlock.emptyLists (b : PortBlock) : PortBlock :=
  { b with urgentLists := Tab.fill 48 [], bulkLists := Tab.fill 48 [] }

/-- Steps 1 and 2 of the entry to STANDBY on the port itself: tallies and lists cleared, the open epoch's accounting
settled, starved counts and flags cleared, and the level filter emptied (R43, R25, R39). -/
def PortBlock.rest (b : PortBlock) : PortBlock :=
  { b.emptyLists with
    mode := .standby
    queues := b.queues.map Queue.cleared
    cells := b.cells.map fun c => c.settle.unstarved
    filter := b.filter.emptied }

/-- A port's deferred slot takes effect (R140). -/
def PortBlock.takeDeferred (b : PortBlock) : PortBlock :=
  match b.deferred with
  | none => b
  | some d => { b with values := d.values, deferred := none }

/-- DEFERRED_APPLIED of a port's slot, if it held values (R140). -/
def PortBlock.deferredNotices (b : PortBlock) (p : Port) (e : Epoch) : List Notice :=
  match b.deferred with
  | none => []
  | some d => [.deferredApplied d.gen e (some p)]

/-- The part's deferred slot takes effect once every port is in STANDBY (R140). -/
def State.takePartDeferred (s : State) : State :=
  match s.plans.partDeferred with
  | none => s
  | some d =>
    if s.allStandby then
      ({ s with
          timer := s.timer.handOver d.timing
          plans := { s.plans with partDeferred := none } }).post (.deferredApplied d.gen s.timer.epoch none)
    else s

/-- The port enters STANDBY (R43): tallies cleared and the open epoch settled, its report handed over, PORT_STATE posted,
the port's and then the part's deferred slot taken, and parking begun where this was the last port of a STOPPING part. -/
def State.enterStandby (s : State) (p : Port) : State :=
  let b := s.ports.get p
  let r := b.rest
  let s1 := s.modPort p fun _ => r.afterReport.takeDeferred
  let s2 := s1.handOver (formReport p b r)
  let s3 := s2.post (.portState p b.mode .standby s.timer.epoch)
  let s4 := s3.postAll (b.deferredNotices p s.timer.epoch)
  s4.takePartDeferred.parkIfDone

/-- A DRAINING port whose table is empty enters STANDBY (R43). -/
def State.restIfDrained (s : State) (p : Port) : State :=
  if (s.ports.get p).mode = .draining ∧ (s.ports.get p).table = [] then s.enterStandby p else s

/-- A GRANTING or ALLOCATING port enters DRAINING and posts PORT_STATE; with an empty table it goes on to STANDBY at once
(R42 to R44). -/
def State.enterDraining (s : State) (p : Port) : State :=
  let b := s.ports.get p
  if b.mode = .granting ∨ b.mode = .allocating then
    ((s.modPort p fun b => { b with mode := .draining }).post
      (.portState p b.mode .draining s.timer.epoch)).restIfDrained p
  else s

end Sys2Proof.Machine
end

