-- ==== Sys2Proof/Machine/Arbiter.lean ====
section
/-! DEFINITION. The grant arbiter: choosing an account, issuing a grant, a run, and the commands CLOSE, TRANSMIT_MESSAGE,
GRANT_EXPIRY and LAPSED_ENTRY_REMOVAL (03_port_states_and_the_grant_arbiter.md, 04_grant_link.md). -/

namespace Sys2Proof.Machine

/-! ### The table (R46 to R48) -/

/-- The entry with this tag (R48). -/
def PortBlock.entry (b : PortBlock) (t : Tag) : Option Entry := b.table.find? fun e => decide (e.tag = t)

/-- The table without the entry of this tag. -/
def PortBlock.removeEntry (b : PortBlock) (t : Tag) : PortBlock :=
  { b with table := b.table.filter fun e => decide (e.tag ≠ t) }

/-- The entry of this tag changed by `f`. -/
def PortBlock.modEntry (b : PortBlock) (t : Tag) (f : Entry → Entry) : PortBlock :=
  { b with table := b.table.map fun e => if e.tag = t then f e else e }

/-- A LIVE entry names the queue (R48). -/
def PortBlock.liveFor (b : PortBlock) (q : QueueId) : Bool :=
  b.table.any fun e => decide (e.state = .live) && decide (e.queue = q)

/-- The next tag: the first value after the counter, wrapping from 255 to 0, that no entry carries (R47). -/
def PortBlock.nextTag (b : PortBlock) : Tag :=
  (((List.range 256).map fun i => b.tagCounter + 1 + BitVec.ofNat 8 i).find?
    fun t => (b.entry t).isNone).getD (b.tagCounter + 1)

/-! ### Choosing the account (R53) -/

/-- The accounts in rotation order, beginning after the pointer (R53). -/
def rotation (ptr : Account) : List Account :=
  (List.range 48).map fun i => Fin.ofNat 48 (ptr.val + 1 + i)

/-- The lane's rotation pointer (R50). -/
def PortBlock.ptr (b : PortBlock) : Lane → Account
  | .urgent => b.urgentPtr
  | .bulk => b.bulkPtr

/-- The lane's rotation pointer set (R54, step 5). -/
def PortBlock.setPtr (b : PortBlock) (l : Lane) (a : Account) : PortBlock :=
  match l with
  | .urgent => { b with urgentPtr := a }
  | .bulk => { b with bulkPtr := a }

/-- The account may be served on the lane: not in CUT_OFF, remaining allowance above 0, and its list not empty (R53). -/
def State.eligible (s : State) (p : Port) (l : Lane) (a : Account) : Bool :=
  decide (s.conductOf a ≠ .cutOff) && decide (0 < ((s.ports.get p).cells.get a).remaining)
    && !((s.ports.get p).list l a).isEmpty

/-- One lane's search (R53). -/
def State.search (s : State) (p : Port) (l : Lane) : Option Account :=
  (rotation ((s.ports.get p).ptr l)).find? fun a => s.eligible p l a

/-- The lane and the account to serve: the URGENT search, then the BULK search (R53). -/
def State.choose (s : State) (p : Port) : Option (Lane × Account) :=
  match s.search p .urgent with
  | some a => some (.urgent, a)
  | none =>
    match s.search p .bulk with
    | some a => some (.bulk, a)
    | none => none

/-! ### Issuing a grant (R54) -/

/-- The size of a grant: the smallest of tally, remaining allowance and quantum (R54). -/
def PortBlock.grantSize (b : PortBlock) (a : Account) (q : QueueId) : Nat :=
  min (b.queues.get q).tally (min (b.cells.get a).remaining b.values.quantum)

/-- A grant's effect on the port, to the queue at the head of the list whose rest is `rest` (R54, steps 1 to 3, 5, 6). -/
def PortBlock.grantTo (b : PortBlock) (l : Lane) (a : Account) (q : QueueId) (rest : List QueueId) : PortBlock :=
  let size := b.grantSize a q
  let left := (b.queues.get q).tally - size
  let b1 : PortBlock := { b with
    tagCounter := b.nextTag
    table := b.table ++
      [{ tag := b.nextTag, queue := q, account := a, units := size, issued := b.openEpoch, age := 0, state := .live }] }
  ((((b1.modQueue q fun x => { x with tally := left, waiting := decide (0 < left) }).modCell a fun c =>
    { c with issued := c.issued + size }).setPtr l a).setList l a (if 0 < left then rest ++ [q] else rest))

/-- The grant is issued to the head of the chosen list; its GRANT is placed and activity seen is marked (R54). -/
def State.issueGrant (s : State) (p : Port) (l : Lane) (a : Account) : State :=
  let b := s.ports.get p
  match b.list l a with
  | [] => s
  | q :: rest =>
    ((s.modPort p fun b => b.grantTo l a q rest).place (.grant p b.nextTag q (b.grantSize a q))).modConduct a
      fun r => { r with activity := true }

/-- A grant can be issued on the port, and this is whom it serves (R52). -/
def State.nextGrant (s : State) (p : Port) : Option (Lane × Account) :=
  if (s.ports.get p).mode = .granting ∧ (s.ports.get p).table.length < Config.tableSlots ∧ s.hasRoom = true then
    s.choose p
  else none

/-- Grants one after another until none can be issued, at most `fuel` of them (R51). -/
def grantRun : Nat → Port → State → State
  | 0, _, s => s
  | fuel + 1, p, s =>
    match s.nextGrant p with
    | none => s
    | some (l, a) => grantRun fuel p (s.issueGrant p l a)

/-- An arbiter run. Every grant takes one of the table's 32 slots, so 32 grants are the most a run can issue (R51, R52). -/
def State.arbiterRun (s : State) (p : Port) : State := grantRun Config.tableSlots p s

/-! ### Closes (R56 to R59) -/

/-- A return restores allowance where the grant was issued in the open epoch (R56). -/
def PortBlock.takeReturn (b : PortBlock) (e : Entry) (used : Nat) : PortBlock :=
  if e.issued = b.openEpoch then b.modCell e.account fun c => { c with issued := c.issued - (e.units - used) } else b

/-- The used units of a close are counted (R56, R58). -/
def PortBlock.countUsed (b : PortBlock) (a : Account) (used : Nat) : PortBlock :=
  { b.modCell a fun c => { c with cumUsed := c.cumUsed + BitVec.ofNat 64 used } with
    counts := { b.counts with used := satAdd b.counts.used used } }

/-- The overrun units of a close are counted (R57). -/
def PortBlock.countOverrun (b : PortBlock) (a : Account) (units : Nat) : PortBlock :=
  { b.modCell a fun c => { c with cumOverrun := c.cumOverrun + BitVec.ofNat 64 units } with
    counts := { b.counts with overrun := satAdd b.counts.overrun units } }

/-- A CLOSE of a LIVE entry, on the port (R56, R57). -/
def PortBlock.closeLive (b : PortBlock) (e : Entry) (used : Nat) : PortBlock :=
  let b1 := (b.removeEntry e.tag).countUsed e.account used
  if used ≤ e.units then b1.takeReturn e used else b1.countOverrun e.account (used - e.units)

/-- A CLOSE of a LAPSED entry, on the port: a late close (R58). -/
def PortBlock.closeLapsed (b : PortBlock) (e : Entry) (used : Nat) : PortBlock :=
  let b1 := (b.removeEntry e.tag).countUsed e.account used
  { b1 with counts := { b1.counts with late := satAdd b1.counts.late 1 } }

/-- A CLOSE that matches no entry: a stray close (R59). -/
def PortBlock.closeStray (b : PortBlock) : PortBlock :=
  { b with counts := { b.counts with stray := satAdd b.counts.stray 1 } }

/-- What a removal by a CLOSE starts: a run in GRANTING, and in DRAINING the entry to STANDBY of an empty table
(R43, R51). -/
def State.afterRemoval (s : State) (p : Port) : State :=
  match (s.ports.get p).mode with
  | .granting => s.arbiterRun p
  | .draining => s.restIfDrained p
  | .standby => s
  | .allocating => s

/-- CLOSE (R56 to R59). -/
def execClose (p : Port) (t : Tag) (used : Word16) (followFirst : Bool) (sched : List Port) (s : State) :
    Host.Outcome State Fault Refusal :=
  match (s.ports.get p).entry t with
  | none => .next (s.modPort p PortBlock.closeStray)
  | some e =>
    match e.state with
    | .lapsed => .next ((s.modPort p fun b => b.closeLapsed e used.toNat).afterRemoval p)
    | .live =>
      let s1 := s.modPort p fun b => b.closeLive e used.toNat
      if used.toNat ≤ e.units then .next (s1.afterRemoval p)
      else if followFirst then .next ((s1.afterRemoval p).charge e.account Config.overrunCharge sched)
      else .next ((s1.charge e.account Config.overrunCharge sched).afterRemoval p)

/-! ### Aging, expiry and removal (R61) -/

/-- Every entry's age rises by 1 (R61). -/
def PortBlock.ageTable (b : PortBlock) : PortBlock := { b with table := b.table.map fun e => { e with age := e.age + 1 } }

/-- A LIVE entry's expiry on the port: it lapses, and the expiry is counted (R61). -/
def PortBlock.expire (b : PortBlock) (e : Entry) : PortBlock :=
  let b1 := (b.modEntry e.tag Entry.lapse).modCell e.account fun c => { c with cumExpiries := c.cumExpiries + 1 }
  { b1 with counts := { b1.counts with expiries := satAdd b1.counts.expiries 1 } }

/-- The entry is in this state and its age has reached the lifetime in force (R61). -/
def PortBlock.reached (b : PortBlock) (e : Entry) (st : EntryState) : Bool :=
  decide (e.state = st) && decide (b.values.life ≤ e.age)

/-- A LIVE entry whose age has reached the lifetime expires, and its account is charged (R61). -/
def State.expireEntry (s : State) (p : Port) (t : Tag) (sched : List Port) : State :=
  match (s.ports.get p).entry t with
  | none => s
  | some e =>
    if (s.ports.get p).reached e .live then
      (s.modPort p fun b => b.expire e).charge e.account Config.expiryCharge sched
    else s

/-- A LAPSED entry whose age has reached the lifetime is removed (R61). -/
def State.removeLapsed (s : State) (p : Port) (t : Tag) : State :=
  match (s.ports.get p).entry t with
  | none => s
  | some e => if (s.ports.get p).reached e .lapsed then s.modPort p fun b => b.removeEntry t else s

/-- Stage 4's examination of one entry: it expires, is removed, or keeps its age (R61). -/
def State.examine (s : State) (p : Port) (x : Exam) : State :=
  match (s.ports.get p).entry x.tag with
  | none => s
  | some e =>
    match e.state with
    | .live => s.expireEntry p x.tag x.sched
    | .lapsed => s.removeLapsed p x.tag

/-- The examinations of a table: those the command names, then the entries it does not name in the table's order. -/
def fullExams (l : List Exam) (table : List Entry) : List Exam :=
  l ++ (table.filter fun e => decide (e.tag ∉ l.map Exam.tag)).map fun e => { tag := e.tag, sched := [] }

/-- Stage 4 of a port close: ages rise, and each entry is examined (R61). -/
def State.ageAndExamine (s : State) (p : Port) (exams : List Exam) : State :=
  (fullExams exams (s.ports.get p).table).foldl (fun s x => s.examine p x) (s.modPort p PortBlock.ageTable)

/-- GRANT_EXPIRY: stage 4's examination of one LIVE entry whose age has reached the lifetime (R61, R63). -/
def execGrantExpiry (p : Port) (t : Tag) (sched : List Port) (s : State) : Host.Outcome State Fault Refusal :=
  .next (s.expireEntry p t sched)

/-- LAPSED_ENTRY_REMOVAL: stage 4's examination of one LAPSED entry whose age has reached the lifetime; a DRAINING port it
leaves with an empty table enters STANDBY (R61, R43). -/
def execLapsedEntryRemoval (p : Port) (t : Tag) (s : State) : Host.Outcome State Fault Refusal :=
  .next ((s.removeLapsed p t).restIfDrained p)

/-! ### The output queue (R73) -/

/-- The runs of space freed in the output queue: every GRANTING arbiter's, in the order in which they are taken (R51,
R55). -/
def State.runAll (s : State) (order : List Port) : State :=
  order.foldl (fun s p => if (s.ports.get p).mode = .granting then s.arbiterRun p else s) s

/-- TRANSMIT_MESSAGE: the free transmitter takes the head of the output queue, and the arbiter of every GRANTING port runs
(R73, R51, R55). -/
def execTransmitMessage (order : List Port) (s : State) : Host.Outcome State Fault Refusal :=
  match s.link.output with
  | [] => .next s
  | m :: rest =>
    .next ({ s with link := { s.link with output := rest, sending := some m.wire } }.runAll (fullOrder order))

end Sys2Proof.Machine
end

