-- ==== Sys2Proof/Machine/Epoch.lean ====
section
/-! DEFINITION. What one port does at a boundary and in its epoch: the commands PORT_CLOSE (R19 to R23),
PORT_STATE_CHANGE (R41), ALLOCATION_START (R6) and ALLOCATION_COMPLETE (R14 to R17). -/

namespace Sys2Proof.Machine

/-! ### PORT_CLOSE -/

/-- Stages 1 to 3 of the close on a port: settlement of every cell, burst credit and starved count, and the open epoch
advanced to the one the boundary began (R20 to R22, R40). -/
def PortBlock.closeStages (b : PortBlock) (e : Epoch) (shares : Account → Option Share) (conduct : Account → Conduct) :
    PortBlock :=
  { b with
    cells := b.cells.mapIdx fun a c => c.closeStages (shares a) (conduct a) b.served
    openEpoch := e }

/-- Stage 5 of the close (R34). -/
def PortBlock.sampleLevel (b : PortBlock) (depth : Nat) : PortBlock := { b with filter := b.filter.sample depth }

/-- The end of a close on the port: what the report clears, a GRANTING port back in ALLOCATING, and the next epoch's
allocation due (R19, R41, R6). -/
def PortBlock.afterClose (b : PortBlock) (rest : List Epoch) : PortBlock :=
  { b.afterReport with
    mode := if b.mode = .granting then .allocating else b.mode
    closeOwed := rest
    allocDue := true }

/-- The port takes a close now: it owes one, is not in STANDBY, and no allocation is in flight (R19, R16), be it one begun
for an epoch from before the port passed through STANDBY (R45; log entry 33). -/
def PortBlock.closeReady (b : PortBlock) : Bool :=
  decide (b.mode ≠ .standby) && b.inFlight.isNone && !b.closeOwed.isEmpty

/-- PORT_CLOSE: the stages of R19 in their order, the report handed over as the port stands at stage 6, and the entry to
STANDBY of a DRAINING port whose table stage 4 emptied (R43). -/
def execPortClose (p : Port) (exams : List Exam) (s : State) : Host.Outcome State Fault Refusal :=
  let b := s.ports.get p
  match b.closeOwed with
  | [] => .next s
  | e :: rest =>
    if b.closeReady then
      let s1 := s.modPort p fun b => b.closeStages e (s.plans.inForce.share p) s.conductOf
      let s4 := s1.ageAndExamine p exams
      let s5 := s4.modPort p fun b => b.sampleLevel (s.portRecord p).depth
      let s6 := s5.handOver (formReport p b (s5.ports.get p))
      .next ((s6.modPort p fun b => b.afterClose rest).restIfDrained p)
    else .next s

/-! ### PORT_STATE_CHANGE -/

/-- The arbiter can take its next boundary: the plan unit has taken it, and the port's close of it has been taken where
the port takes one (R41). Boundaries are taken in order, so a block that owes fewer has taken it. -/
def State.changeReady (s : State) (p : Port) : Bool :=
  let b := s.ports.get p
  !b.changeOwed.isEmpty && decide (s.plans.owed.length < b.changeOwed.length)
    && (decide (b.closeOwed.length < b.changeOwed.length) || decide (b.mode = .standby))

/-- The boundary taken by the arbiter; a port in STANDBY takes no close of it (R19, R41). -/
def PortBlock.takeChange (b : PortBlock) (rest : List Epoch) : PortBlock :=
  { b with
    changeOwed := rest
    closeOwed := if b.mode = .standby ∧ rest.length < b.closeOwed.length then b.closeOwed.tail else b.closeOwed }

/-- The plan in force has the port in service and the part is RUNNING, both as they stand when the port takes the boundary
(R41), also for a boundary made in STOPPING (log entry 42). -/
def State.inService (s : State) (p : Port) : Bool := (s.portRecord p).inService && decide (s.win.mode = .running)

/-- PORT_STATE_CHANGE (R41): the port's state at the boundary decides, and a departure from STANDBY posts PORT_STATE
(R44). Whether the part is RUNNING is judged now, when the port takes the boundary, be it one made in STOPPING before a
return to RUNNING (R66, R144; log entry 42). -/
def execPortStateChange (p : Port) (s : State) : Host.Outcome State Fault Refusal :=
  let b := s.ports.get p
  match b.changeOwed with
  | [] => .next s
  | e :: rest =>
    if s.changeReady p then
      let s1 := s.modPort p fun b => b.takeChange rest
      match b.mode with
      | .standby =>
        if s.inService p then
          .next ((s1.modPort p fun b => { b with mode := .allocating, openEpoch := e, allocDue := true }).post
            (.portState p .standby .allocating s.timer.epoch))
        else .next s1
      | .granting => .next (s1.modPort p fun b => { b with mode := .allocating })
      | .allocating => .next s1
      | .draining =>
        if s.inService p then .next (s1.modPort p fun b => { b with mode := .allocating }) else .next s1
    else .next s

/-! ### ALLOCATION_START and ALLOCATION_COMPLETE -/

/-- The conditions of R6 have all come about for the newest boundary, the port is ALLOCATING, and no allocation is in
flight on it (R6, R2, R16). -/
def State.startReady (s : State) (p : Port) : Bool :=
  let b := s.ports.get p
  decide (b.mode = .allocating) && b.allocDue && b.inFlight.isNone && b.closeOwed.isEmpty && b.changeOwed.isEmpty
    && s.plans.owed.isEmpty && s.conduct.owed.isEmpty

/-- ALLOCATION_START (R3 to R7, R29). -/
def execAllocationStart (p : Port) (s : State) : Host.Outcome State Fault Refusal :=
  if s.startReady p then
    .next (s.modPort p fun b => b.startAllocation (s.portRecord p) (s.plans.inForce.share p) s.conductOf)
  else .next s

/-- The result of the allocation in flight is delivered (R14): the port is still ALLOCATING, the allocation was begun for
its open epoch, and no port close waits for it. -/
def PortBlock.delivers (b : PortBlock) (al : Allocation) : Bool :=
  decide (b.mode = .allocating) && decide (al.epoch = b.openEpoch) && b.closeOwed.isEmpty

/-- ALLOCATION_COMPLETE (R14 to R17): the result is delivered and the arbiter runs, or it is discarded. -/
def execAllocationComplete (p : Port) (s : State) : Host.Outcome State Fault Refusal :=
  let b := s.ports.get p
  match b.inFlight with
  | none => .next s
  | some al =>
    if b.delivers al then .next ((s.modPort p fun b => b.deliver al).arbiterRun p)
    else .next (s.modPort p fun b => { b with inFlight := none })

end Sys2Proof.Machine
end

