-- ==== Sys2Proof/Machine/Plans.lean ====
section
/-! DEFINITION. The plan record as read (13.4), its checks (R134) and its clamps (R135). -/

namespace Sys2Proof.Machine

/-! ### Where the parts of a plan lie (R165) -/

/-- The share entry count of the fixed part. -/
def planEntryCount (b : List Byte) : Nat := field b 136 2

/-- The rule count of the fixed part. -/
def planRuleCount (b : List Byte) : Nat := field b 138 2

/-- The lead generation. -/
def planLead (b : List Byte) : Word32 := BitVec.ofNat 32 (field b 0 4)

/-- The plan tag. -/
def planTag (b : List Byte) : Word16 := BitVec.ofNat 16 (field b 4 2)

/-- The offset of the tail generation: 144 + 24n + 16m. -/
def planTailOffset (b : List Byte) : Nat := 144 + 24 * planEntryCount b + 16 * planRuleCount b

/-- The length of the fetch's next read, given the bytes read so far: the fixed part, the share entries, the rules, and
the tail generation last (R165). -/
def nextReadLength (b : List Byte) : Nat :=
  if b.length < 144 then 144
  else if b.length < 144 + 24 * planEntryCount b then 24 * planEntryCount b
  else if b.length < planTailOffset b then 16 * planRuleCount b
  else 4

/-- The counts are in range (R134, order 2). -/
def countsInRange (b : List Byte) : Bool :=
  decide (planEntryCount b ≤ 192) && decide (planRuleCount b ≤ 24)

/-! ### The fields of a plan (13.4, R164, R165) -/

/-- The bytes of port record `p`. -/
def portRecordAt (b : List Byte) (p : Nat) : List Byte := (b.drop (24 + 16 * p)).take 16

/-- The bytes of share entry `i`. -/
def shareAt (b : List Byte) (i : Nat) : List Byte := (b.drop (144 + 24 * i)).take 24

/-- The bytes of rule `i`. -/
def ruleAt (b : List Byte) (i : Nat) : List Byte := (b.drop (144 + 24 * planEntryCount b + 16 * i)).take 16

/-- A sync role's code (13.1). -/
def roleOfCode : Nat → SyncRole
  | 0 => .alone
  | 1 => .leader
  | _ => .follower

/-- A lane treatment's code (13.1). -/
def treatmentOfCode : Nat → Treatment
  | 0 => .asBound
  | 1 => .urgent
  | _ => .bulk

/-- A port record as read. -/
def readPortRecord (r : List Byte) : PortRecord where
  inService := decide (field r 0 1 % 2 = 1)
  curve := if field r 1 1 = 0 then .linear else .steep
  depth := field r 2 1
  life := field r 3 1
  cnom := field24 r 4
  quantum := field r 8 2
  derate1 := field r 10 2
  derate2 := field r 12 2
  derate3 := field r 14 2

/-- An account record as read. -/
def readAccountRecord (r : Nat) : AccountRecord where
  urgentPermitted := r.testBit 0
  autoRecovery := r.testBit 1
  reinstate := r.testBit 2

/-- A share entry as read. -/
def readShare (r : List Byte) : Share where
  account := Fin.ofNat 48 (field r 0 1)
  port := Fin.ofNat 4 (field r 1 1)
  weight := field r 2 2
  floor := field24 r 4
  ceiling := field24 r 8
  burst := field24 r 12
  rise := field r 16 1
  fall := field r 17 1

/-- A rule as read. -/
def readRule (r : List Byte) : Rule where
  value := BitVec.ofNat 24 (field24 r 0)
  mask := BitVec.ofNat 24 (field24 r 4)
  ports := Tab.ofFn fun p => (field r 8 1).testBit p.val
  account := Fin.ofNat 48 (field r 9 1)
  treatment := treatmentOfCode (field r 10 1)

/-- The plan in the bytes of a whole fetch, before R135. -/
def readPlan (b : List Byte) : Plan where
  gen := planLead b
  tag := planTag b
  lengthUs := field b 8 2
  role := roleOfCode (field b 10 1)
  interval := field b 12 2
  scanS := field b 14 1
  ports := Tab.ofFn fun p => readPortRecord (portRecordAt b p.val)
  accounts := Tab.ofFn fun a => readAccountRecord (field b (88 + a.val) 1)
  shares := (List.range (planEntryCount b)).map fun i => readShare (shareAt b i)
  rules := (List.range (planRuleCount b)).map fun i => readRule (ruleAt b i)
  clamps := 0

/-! ### Structural faults (R134) -/

/-- INDEX: a code out of its table anywhere in the plan (R134, R164). -/
def indexFault (b : List Byte) : Bool :=
  decide (2 < field b 10 1)
    || (List.range 4).any (fun p => decide (1 < field (portRecordAt b p) 1 1))
    || (List.range (planEntryCount b)).any (fun i =>
        decide (47 < field (shareAt b i) 0 1) || decide (3 < field (shareAt b i) 1 1))
    || (List.range (planRuleCount b)).any (fun i =>
        decide (15 < field (ruleAt b i) 8 1) || decide (47 < field (ruleAt b i) 9 1)
          || decide (2 < field (ruleAt b i) 10 1))

/-- DUPLICATE_CELL: two share entries name the same account and port (R134, R165). -/
def duplicateCell (pl : Plan) : Bool :=
  decide ¬ (pl.shares.map fun e => (e.account, e.port)).Nodup

/-- CAPACITY_ZERO: a port in service with Cnom 0 (R134). -/
def capacityZero (pl : Plan) : Bool :=
  pl.ports.cells.any fun r => r.inService && decide (r.cnom = 0)

/-- The first of the faults seen once the tail has been read (R134, orders 3 to 6); none: the plan passes. -/
def planFault (b : List Byte) (tail : Word32) : Option PlanFault :=
  if tail ≠ planLead b then some .torn
  else if indexFault b then some .index
  else if duplicateCell (readPlan b) then some .duplicateCell
  else if capacityZero (readPlan b) then some .capacityZero
  else none

/-! ### Values brought into range (R135) -/

/-- A value brought into lo to hi. -/
def clampTo (lo hi v : Nat) : Nat := max lo (min hi v)

/-- 1 where bringing a value into range changes it, else 0 (R135). -/
def clampCount (lo hi v : Nat) : Nat := bit (decide (clampTo lo hi v ≠ v))

/-- The epoch length used: clamped to 20 to 5000 µs, then rounded down to a multiple of 10 (R119, R135). -/
def usedLength (v : Nat) : Nat := clampTo 20 5000 v / 10 * 10

/-- A share entry brought into range. -/
def Share.clamped (e : Share) : Share :=
  { e with ceiling := max e.floor e.ceiling, weight := min 4095 e.weight }

/-- How many values of a share entry that changes. -/
def Share.clampCount (e : Share) : Nat := bit (decide (e.ceiling < e.floor)) + bit (decide (4095 < e.weight))

/-- A port record brought into range. -/
def PortRecord.clamped (r : PortRecord) : PortRecord :=
  { r with
    depth := clampTo 1 4 r.depth
    life := clampTo 1 15 r.life
    cnom := max 1 r.cnom
    quantum := clampTo 1 4096 r.quantum
    derate1 := min 256 r.derate1
    derate2 := min 256 r.derate2
    derate3 := min 256 r.derate3 }

/-- How many values of a port record that changes. -/
def PortRecord.clampCount (r : PortRecord) : Nat :=
  Machine.clampCount 1 4 r.depth + Machine.clampCount 1 15 r.life + bit (decide (r.cnom = 0))
    + Machine.clampCount 1 4096 r.quantum
    + bit (decide (256 < r.derate1)) + bit (decide (256 < r.derate2)) + bit (decide (256 < r.derate3))

/-- The clamp count of a plan: each value changed once, the rounding of the epoch length not (R135). -/
def Plan.clampTotal (pl : Plan) : Nat :=
  min 65535
    ((pl.shares.map Share.clampCount).sum + (pl.ports.cells.map PortRecord.clampCount).sum
      + bit (decide (63 < pl.scanS)) + clampCount 1 1024 pl.interval + clampCount 20 5000 pl.lengthUs)

/-- A plan brought into range, with its clamp count (R135). -/
def Plan.clamped (pl : Plan) : Plan :=
  { pl with
    lengthUs := usedLength pl.lengthUs
    interval := clampTo 1 1024 pl.interval
    scanS := min 63 pl.scanS
    ports := pl.ports.map PortRecord.clamped
    shares := pl.shares.map Share.clamped
    clamps := pl.clampTotal }

end Sys2Proof.Machine
end

