-- ==== Sys2Proof/Machine/Queues.lean ====
section
/-! DEFINITION. The queue table and classifier: classification, reclassification of a queue, and the commands BIND,
UNBIND, DEMAND, LEVEL and INBOUND_DISCARD (04_grant_link.md, 05_queue_table_and_classification.md). -/

namespace Sys2Proof.Machine

/-! ### Classification (R81, R82) -/

/-- A source matches a rule on a port (R81). -/
def Rule.matchesSource (r : Rule) (p : Port) (src : Word24) : Bool :=
  r.ports.get p && decide (src &&& r.mask = r.value &&& r.mask)

/-- The first rule that matches a source on a port (R81). -/
def Plan.classify (pl : Plan) (p : Port) (src : Word24) : Option Rule :=
  pl.rules.find? fun r => r.matchesSource p src

/-- A rule's treatment applied to the requested lane (R82, first step). -/
def Treatment.apply : Treatment → Lane → Lane
  | .asBound, l => l
  | .urgent, _ => .urgent
  | .bulk, _ => .bulk

/-- The effective lane: BULK unless the account is permitted URGENT (R82). -/
def Plan.effectiveLane (pl : Plan) (r : Rule) (requested : Lane) : Lane :=
  if (pl.accounts.get r.account).urgentPermitted then r.treatment.apply requested else .bulk

/-! ### Refusals (R72, R75) -/

/-- A REFUSE placed where the output queue has room (R75). -/
def State.refuse (s : State) (p : Port) (q : QueueId) (r : RefuseReason) : State := s.place (.refuse p q r)

/-- A refused DEMAND: counted, and its REFUSE placed where there is room (R80, R87). -/
def State.refuseDemand (s : State) (p : Port) (q : QueueId) (r : RefuseReason) : State :=
  (s.modPort p fun b => { b with refused := satAdd b.refused 1 }).refuse p q r

/-! ### BIND and UNBIND (R83 to R86) -/

/-- The entry of a queue bound under a rule (R83). -/
def boundQueue (pl : Plan) (r : Rule) (src : Word24) (lane : Lane) : Queue where
  bound := true
  source := src
  requested := lane
  account := r.account
  lane := pl.effectiveLane r lane
  tally := 0
  waiting := false

/-- A BIND taken for an unbound queue: bound under the first rule that matches, or refused UNCLASSIFIED (R83). -/
def State.bindUnbound (s : State) (p : Port) (q : QueueId) (src : Word24) (lane : Lane) : State :=
  match s.plans.inForce.classify p src with
  | none => s.refuse p q .unclassified
  | some r => s.modPort p fun b => b.modQueue q fun _ => boundQueue s.plans.inForce r src lane

/-- The queue leaves its service list if it stands in one, its tally is discarded, and it becomes unbound (R86). -/
def PortBlock.unbindQueue (b : PortBlock) (q : QueueId) : PortBlock :=
  let x := b.queues.get q
  (if x.waiting then b.leaveList x.lane x.account q else b).modQueue q fun x => { x.cleared with bound := false }

/-- BIND (R83 to R85). -/
def execBind (p : Port) (q : QueueId) (src : Word24) (lane : Lane) (s : State) : Host.Outcome State Fault Refusal :=
  let b := s.ports.get p
  let x := b.queues.get q
  if x.bound = false then .next (s.bindUnbound p q src lane)
  else if x.source = src ∧ x.requested = lane then .next s
  else if x.tally = 0 ∧ b.liveFor q = false then
    .next ((s.modPort p fun b => b.unbindQueue q).bindUnbound p q src lane)
  else .next (s.refuse p q .queueBusy)

/-- UNBIND (R86). -/
def execUnbind (p : Port) (q : QueueId) (s : State) : Host.Outcome State Fault Refusal :=
  if ((s.ports.get p).queues.get q).bound then .next (s.modPort p fun b => b.unbindQueue q) else .next s

/-! ### DEMAND (R87 to R89) -/

/-- Demand seen for an account: the flag is set, and the quiet count of a cut-off account becomes 0 (R89, R103). -/
def ConductRec.seeDemand (r : ConductRec) : ConductRec :=
  { r with demand := true, quiet := if r.state = .cutOff then 0 else r.quiet }

/-- The tally raised, saturating, and the queue at the tail of its list where it was in none (R88). -/
def PortBlock.acceptDemand (b : PortBlock) (q : QueueId) (units : Nat) : PortBlock :=
  let x := b.queues.get q
  let tally := min Config.maxUnits (x.tally + units)
  if x.waiting = false ∧ 0 < tally then
    (b.modQueue q fun x => { x with tally := tally, waiting := true }).joinList x.lane x.account q
  else b.modQueue q fun x => { x with tally := tally }

/-- The reason for which a DEMAND for a bound queue is refused, in the order of R87; none: it is accepted. -/
def State.demandRefusal (s : State) (p : Port) (q : QueueId) : Option RefuseReason :=
  let b := s.ports.get p
  let a := (b.queues.get q).account
  if b.mode = .standby ∨ b.mode = .draining then some .portClosed
  else if s.conductOf a = .cutOff then some .cutOff
  else if (s.plans.inForce.share p a).isNone then some .noShare
  else none

/-- DEMAND (R87 to R89): an accepted one is handed to the arbiter, which runs in GRANTING (R51). -/
def execDemand (p : Port) (q : QueueId) (units : Word16) (s : State) : Host.Outcome State Fault Refusal :=
  let x := (s.ports.get p).queues.get q
  if x.bound = false then .next (s.refuseDemand p q .unbound)
  else
    let s1 := s.modConduct x.account ConductRec.seeDemand
    match s.demandRefusal p q with
    | some r => .next (s1.refuseDemand p q r)
    | none =>
      let s2 := s1.modPort p fun b => b.acceptDemand q units.toNat
      if (s.ports.get p).mode = .granting then .next (s2.arbiterRun p) else .next s2

/-! ### LEVEL and discarded messages (R33, R68) -/

/-- LEVEL: the raw level is replaced, a level above 3 taken as 3 (R33). -/
def execLevel (p : Port) (level : Byte) (s : State) : Host.Outcome State Fault Refusal :=
  .next (s.modPort p fun b => { b with filter := { b.filter with raw := levelOfByte level } })

/-- INBOUND_DISCARD: a message that R68 discards raises the link discard count, which wraps. A message that passes is none
of these: it is the BIND, UNBIND, DEMAND, CLOSE or LEVEL it carries. -/
def execInboundDiscard (bytes : List Byte) (s : State) : Host.Outcome State Fault Refusal :=
  if (judgeInbound bytes).isNone then .next { s with link := { s.link with discards := s.link.discards + 1 } }
  else .next s

/-! ### Reclassification (R91 to R93) -/

/-- Where a bound queue stands after reclassification under a new plan, and whether a REFUSE UNCLASSIFIED goes with it
(R92, R93). -/
def PortBlock.reclassify (b : PortBlock) (pl : Plan) (conduct : Account → Conduct) (p : Port) (q : QueueId) :
    PortBlock × List OutMsg :=
  let x := b.queues.get q
  if x.bound = false then (b, [])
  else
    match pl.classify p x.source with
    | none => (b.unbindQueue q, [.refuse p q .unclassified])
    | some r =>
      let lane := pl.effectiveLane r x.requested
      if r.account = x.account ∧ lane = x.lane then (b, [])
      else
        let left := if x.waiting then b.leaveList x.lane x.account q else b
        let moved := left.modQueue q fun x => { x with account := r.account, lane := lane }
        if x.tally = 0 then (moved, [])
        else if conduct r.account = .cutOff then (moved.modQueue q Queue.cleared, [])
        else ((moved.modQueue q fun x => { x with waiting := true }).joinList lane r.account q, [])

/-- Every bound queue of a port reclassified, in increasing queue number, with the REFUSEs in that order (R91). -/
def PortBlock.reclassifyAll (b : PortBlock) (pl : Plan) (conduct : Account → Conduct) (p : Port) :
    PortBlock × List OutMsg :=
  (List.finRange 128).foldl
    (fun acc q =>
      let r := acc.1.reclassify pl conduct p q
      (r.1, acc.2 ++ r.2))
    (b, [])

end Sys2Proof.Machine
end

