-- ==== Sys2Proof/Machine/ScanUnit.lean ====
section
/-! DEFINITION. The starvation scan: its state under a new threshold, its resumption, and the command SWEEP
(07_starvation_scan.md). -/

namespace Sys2Proof.Machine

/-- The cell after this one, wrapping from 191 to 0 (R111, R114). -/
def nextCell (c : CellIx) : CellIx := Fin.ofNat 192 (c.val + 1)

/-- The scan state under the threshold of a plan applied (R110). -/
def Scan.takeThreshold (sc : Scan) (threshold : Nat) : Scan :=
  match sc.state with
  | .idle => if threshold = 0 then sc else { sc with state := .sweeping }
  | .sweeping => if threshold = 0 then { sc with state := .idle } else sc
  | .halted => if threshold = 0 then { sc with state := .idle, finding := none } else sc

/-- The scan leaves HALTED for the cell after its finding (R114, R116). -/
def Scan.resume (sc : Scan) (f : Finding) : Scan :=
  { sc with state := .sweeping, cursor := nextCell f.cell, finding := none }

/-- At a start of the part, a HALTED scan whose finding has a journal position goes on (R116). -/
def Scan.restart (sc : Scan) : Scan :=
  match sc.finding with
  | none => sc
  | some f => if sc.state = .halted ∧ f.position.isSome then sc.resume f else sc

/-- At a completed read of the host half, a HALTED scan whose finding has been consumed goes on: the records not yet
consumed are fewer than those written from the finding onward (R114). -/
def Scan.checkConsumed (sc : Scan) (produced consumed : Word32) : Scan :=
  match sc.finding with
  | none => sc
  | some f =>
    match f.position with
    | none => sc
    | some q => if sc.state = .halted ∧ (produced - consumed) < (produced - q) then sc.resume f else sc

/-- The writer gives the count of the finding's record (R113). -/
def Scan.takePosition (sc : Scan) (count : Word32) : Scan :=
  { sc with finding := sc.finding.map fun f => { f with position := some count } }

/-- The cells in the order a sweep examines them (R111). -/
def sweepOrder (cursor : CellIx) : List CellIx := (List.range 192).map fun i => Fin.ofNat 192 (cursor.val + i)

/-- The cell yields a finding (R111). -/
def State.yields (s : State) (c : CellIx) : Bool :=
  decide (s.plans.inForce.scanS ≤ (s.cellAt c).starved) && !(s.cellAt c).reported

/-- The STARVATION_FINDING of a cell (R112). -/
def State.findingOf (s : State) (c : CellIx) (e : Epoch) : Notice :=
  .starvationFinding (cellPort c) (cellAccount c) (s.cellAt c).starved (s.cellAt c).lastFloor (s.cellAt c).lastNet e

/-- The finding is offered to the notice queue: posted, and the scan halts; or refused, and the scan stays at the cell. A
refused finding is not counted as lapsed (R112). -/
def State.offerFinding (s : State) (c : CellIx) (e : Epoch) : State :=
  if s.mem.notices.length < Config.noticeDepth then
    let s1 := (s.post (s.findingOf c e)).modPort (cellPort c) fun b =>
      b.modCell (cellAccount c) fun x => { x with reported := true }
    { s1 with scan := { s1.scan with
        state := .halted, cursor := c, finding := some { cell := c, position := none } } }
  else { s with scan := { s.scan with cursor := c } }

/-- SWEEP: the scan takes a boundary (R111, R112). -/
def execSweep (s : State) : Host.Outcome State Fault Refusal :=
  match s.scan.owed with
  | [] => .next s
  | e :: rest =>
    let s1 := { s with scan := { s.scan with owed := rest } }
    if s.scan.state = .sweeping then
      match (sweepOrder s.scan.cursor).find? fun c => s.yields c with
      | none => .next s1
      | some c => .next (s1.offerFinding c e)
    else .next s1

end Sys2Proof.Machine
end

