-- ==== Sys2Proof/Machine/PlanUnit.lean ====
section
/-! DEFINITION. The plan unit: noticing a generation, fetching, refusing and staging a plan, applying it, and the commands
PLAN_READ_COMPLETE, PLAN_FETCH_COMPLETE and PLAN_APPLICATION (09_plans.md). -/

namespace Sys2Proof.Machine

/-! ### Fetching (R131 to R133) -/

/-- A plan address that no fetch reads from: 0 or not a multiple of 8 (R133). -/
def badPlanAddress (a : Word64) : Bool := decide (a.toNat = 0) || decide (a.toNat % 8 ≠ 0)

/-- A plan is refused: its generation becomes the refused generation, and PLAN_REFUSED is posted (R136). -/
def State.refusePlan (s : State) (gen : Word32) (tag : Word16) (reason : PlanFault) : State :=
  { s with plans := { s.plans with refused := some gen } }.post (.planRefused gen s.timer.epoch tag reason)

/-- A fetch of the wanted generation starts. From an address no fetch reads from it completes at once, refused
FETCH_FAILED (R131, R133). -/
def State.startFetch (s : State) (w : Wanted) : State :=
  if badPlanAddress w.addr then
    { s with plans := { s.plans with fetched := w.gen, wanted := none } }.refusePlan w.gen 0 .fetchFailed
  else { s with plans := { s.plans with fetch := some { gen := w.gen, addr := w.addr, data := [] } } }

/-- The generation shown is one the plan unit does nothing for: 0, or applied, staged, wanted or refused (R131). -/
def PlanUnit.knows (u : PlanUnit) (gen : Word32) : Bool :=
  decide (gen = 0) || decide (gen = u.inForce.gen) || decide (u.staged.map Plan.gen = some gen)
    || decide (u.wanted.map Wanted.gen = some gen) || decide (u.refused = some gen)

/-- The plan unit's part of a completed read of the host half: the hold flag, and a generation it does not know (R131). -/
def State.showPlan (s : State) (h : HostHalf) : State :=
  let s1 := { s with plans := { s.plans with hold := h.hold } }
  if s.plans.knows h.planGen then s1
  else
    let w : Wanted := { gen := h.planGen, addr := h.planAddr }
    let s2 := { s1 with plans := { s1.plans with wanted := some w } }
    if s.plans.fetch.isNone then s2.startFetch w else s2

/-- A plan is staged. No boundary made before can apply it (R137; log entry 39). -/
def PlanUnit.stage (u : PlanUnit) (pl : Plan) : PlanUnit :=
  { u with staged := some pl, owed := u.owed.map fun d => { d with ripe := false } }

/-- How a completed fetch came out: a plan fault with the plan tag, or a plan that passed (R134, R136). -/
inductive FetchEnd where
  | refused (tag : Word16) (reason : PlanFault)
  | passed (plan : Plan)
deriving DecidableEq, Repr

/-- A fetch completes (R132): its data is discarded where its generation is no longer wanted, and the wanted one's fetch
starts; otherwise its plan is refused or staged. -/
def State.finishFetch (s : State) (f : Fetch) (r : FetchEnd) : State :=
  let s1 := { s with plans := { s.plans with fetch := none, fetched := f.gen } }
  if s.plans.wanted.map Wanted.gen = some f.gen then
    let s2 := { s1 with plans := { s1.plans with wanted := none } }
    match r with
    | .refused tag reason => s2.refusePlan f.gen tag reason
    | .passed pl => { s2 with plans := s2.plans.stage pl }
  else
    match s.plans.wanted with
    | none => s1
    | some w => s1.startFetch w

/-- What the first read of a fetch shows: TORN before the counts are used, then COUNT (R134, R165). -/
def firstReadFault (gen : Word32) (bytes : List Byte) : Option PlanFault :=
  if planLead bytes ≠ gen then some .torn
  else if countsInRange bytes then none
  else some .count

/-- The fetch is at its tail: every byte before the tail generation has been read (R165). -/
def Fetch.atTail (f : Fetch) : Bool := decide (144 ≤ f.data.length) && decide (planTailOffset f.data ≤ f.data.length)

/-- How the read that returned `bytes` ends the fetch; none: it does not (R132, R134). -/
def Fetch.endWith (f : Fetch) (bytes : List Byte) : Option FetchEnd :=
  if bytes.length ≠ nextReadLength f.data then none
  else if f.data = [] then (firstReadFault f.gen bytes).map fun x => .refused (planTag bytes) x
  else if f.atTail then
    match planFault f.data (BitVec.ofNat 32 (field bytes 0 4)) with
    | some x => some (.refused (planTag f.data) x)
    | none => some (.passed (readPlan f.data).clamped)
  else none

/-- The plan tag of a fetch that fails: 0 where it was not read (R136). -/
def Fetch.tagRead (f : Fetch) : Word16 := if f.data = [] then 0 else planTag f.data

/-- PLAN_FETCH_COMPLETE (R132 to R136): the read that ends the fetch, or a failed read. -/
def execPlanFetchComplete (r : PlanRead) (s : State) : Host.Outcome State Fault Refusal :=
  match s.plans.fetch with
  | none => .next s
  | some f =>
    match r with
    | .failed => .next (s.finishFetch f (.refused f.tagRead .fetchFailed))
    | .data bytes =>
      match f.endWith bytes with
      | none => .next s
      | some e => .next (s.finishFetch f e)

/-- PLAN_READ_COMPLETE (R165, R162): a read that does not end the fetch; its bytes are kept, and the next read is issued. -/
def execPlanReadComplete (bytes : List Byte) (s : State) : Host.Outcome State Fault Refusal :=
  match s.plans.fetch with
  | none => .next s
  | some f =>
    if bytes.length = nextReadLength f.data ∧ f.endWith bytes = none then
      .next { s with plans := { s.plans with fetch := some { f with data := f.data ++ bytes } } }
    else .next s

/-! ### Application (R138 to R141) -/

/-- Step 2: every account in CUT_OFF whose reinstate flag is set in the plan in force is reinstated (R105, R106). -/
def State.reinstateAll (s : State) (order : List Account) (e : Epoch) : State :=
  let recs := s.conduct.recs.mapIdx fun a r =>
    if r.state = .cutOff ∧ (s.plans.inForce.accounts.get a).reinstate = true then r.reinstate else r
  ({ s with conduct := { s.conduct with recs := recs } }.beginAnew fun a =>
    decide ((s.conduct.recs.get a).state = Conduct.cutOff) && (s.plans.inForce.accounts.get a).reinstate).postAll
    ((fullOrder order).filterMap fun a => changeNotice a (s.conduct.recs.get a) (recs.get a) e)

/-- Step 3: every port's bound queues reclassified; the ports' REFUSEs are placed in the order the schedule gives (R91,
R74). -/
def State.reclassifyQueues (s : State) (sched : List Port) : State :=
  let r := s.ports.mapIdx fun p b => b.reclassifyAll s.plans.inForce s.conductOf p
  { s with ports := r.map Prod.fst }.placeAll (mergePorts sched (r.map Prod.snd))

/-- Step 4: every cell takes the new plan's share entry (R24, R28). -/
def State.applyShares (s : State) (old : Plan) : State :=
  { s with ports := s.ports.mapIdx fun p b =>
      { b with cells := b.cells.mapIdx fun a c => c.applyPlan (old.share p a) (s.plans.inForce.share p a) } }

/-- Step 5: every port out of service that is GRANTING or ALLOCATING enters DRAINING, in the order of the command (R42). One
that goes on to STANDBY at once takes what its slot still holds of an earlier plan (R140), before step 6 places the new
plan's values (log entry 38). -/
def State.drainOutOfService (s : State) (order : List Port) : State :=
  (fullOrder order).foldl (fun s p => if (s.portRecord p).inService then s else s.enterDraining p) s

/-- The standby-class values of a port record (R129). -/
def PortRecord.values (r : PortRecord) : StandbyValues := { cnom := r.cnom, quantum := r.quantum, life := r.life }

/-- Step 6 for one port (R139). -/
def PortBlock.placeValues (b : PortBlock) (v : StandbyValues) (gen : Word32) : PortBlock :=
  if b.mode = .standby then { b with values := v, deferred := none }
  else if v = b.values then { b with deferred := none }
  else { b with deferred := some { values := v, gen := gen } }

/-- Step 6 (R139): the standby-class values of every port, and the part-static values once. -/
def State.placeDeferred (s : State) : State :=
  let pl := s.plans.inForce
  let n : Timing := { lengthUs := pl.lengthUs, role := pl.role }
  let s1 := { s with ports := s.ports.mapIdx fun p (b : PortBlock) => b.placeValues (pl.ports.get p).values pl.gen }
  if s.allStandby then
    { s1 with timer := s1.timer.handOver n, plans := { s1.plans with partDeferred := none } }
  else if n = s.timer.timing then { s1 with plans := { s1.plans with partDeferred := none } }
  else { s1 with plans := { s1.plans with partDeferred := some { timing := n, gen := pl.gen } } }

/-- Step 8's notice, with the slots that step 6 filled (R141): at step 6 a slot holds values exactly where it filled it. -/
def State.appliedNotice (s : State) (e : Epoch) : Notice :=
  .planApplied s.plans.inForce.gen e s.plans.inForce.tag s.plans.inForce.clamps
    (s.ports.map fun b => b.deferred.isSome) s.plans.partDeferred.isSome

/-- The staged plan is applied as the plan unit's processing of the boundary that began epoch `e`, in the steps of R138. -/
def State.applyPlan (s : State) (pl : Plan) (e : Epoch) (order : List Port) (sched : List Port)
    (accounts : List Account) : State :=
  let old := s.plans.inForce
  let s1 := { s with plans := { s.plans with inForce := pl, appliedEpoch := e, staged := none } }
  let s2 := s1.reinstateAll accounts e
  let s3 := s2.reclassifyQueues sched
  let s4 := s3.applyShares old
  let s5 := s4.drainOutOfService order
  let s6 := s5.placeDeferred
  let s7 := { s6 with scan := s6.scan.takeThreshold pl.scanS }
  s7.post (s7.appliedNotice e)

/-- PLAN_APPLICATION: the plan unit takes a boundary, and applies the staged plan if one was staged when the boundary was
made, the hold flag as last read then was clear, and the part is RUNNING (R137, R138; log entries 24 and 39). -/
def execPlanApplication (order : List Port) (sched : List Port) (accounts : List Account) (s : State) :
    Host.Outcome State Fault Refusal :=
  match s.plans.owed with
  | [] => .next s
  | d :: rest =>
    let s1 := { s with plans := { s.plans with owed := rest } }
    match s.plans.staged with
    | none => .next s1
    | some pl =>
      if d.ripe = true ∧ d.hold = false ∧ s.win.mode = .running then .next (s1.applyPlan pl d.epoch order sched accounts)
      else .next s1

end Sys2Proof.Machine
end

