-- ==== Sys2Proof/Machine/MemoryUnit.lean ====
section
/-! DEFINITION. The memory side's commands: HOST_HALF_READ_COMPLETE, JOURNAL_WRITE_COMPLETE, PART_HALF_WRITE_COMPLETE,
SIGNAL_WRITE_COMPLETE, STATEMENT_DUE, USAGE_WRITE_COMPLETE and MEMORY_ACCESS_FAILED (10 and 11 of the spec). -/

namespace Sys2Proof.Machine

/-! ### A read of the host half is taken (R150) -/

/-- The consumed count after a read, under the sanity test (R150). -/
def MemSide.takeConsumed (m : MemSide) (c : Word32) : MemSide :=
  if (m.produced - c).toNat ≤ m.capacity then { m with consumed := c } else m

/-- The signal is re-armed when the consumed count has reached the noted count (R159). -/
def MemSide.rearm (m : MemSide) : MemSide :=
  if m.armed = false ∧ (m.produced - m.consumed) ≤ (m.produced - m.noted) then { m with armed := true } else m

/-- A read of the host half is taken: the plan unit, the signal mask, the consumed count, the scan and the signal each act
on it (R150). -/
def State.takeHostHalf (s : State) (h : HostHalf) : State :=
  let s1 := s.showPlan h
  let m := ({ s1.mem with signalMask := h.mask }.takeConsumed h.consumed).rearm
  { s1 with mem := m, scan := s1.scan.checkConsumed m.produced m.consumed }

/-- The read in flight completes and is taken: a resumption posts MEMORY_RESUMED, and the pass of the occasion is due
(R149, R157). -/
def State.completeRead (s : State) (r : HostRead) (h : HostHalf) : State :=
  let s1 := { s with mem := { s.mem with read := none } }.takeHostHalf h
  let s2 := if r.resumption then s1.post (.memoryResumed s1.mem.region s1.timer.epoch) else s1
  s2.startPass (if r.resumption then .resumption else .boundary r.writes)

/-- HOST_HALF_READ_COMPLETE (R150, R149): the read in flight is taken. The data of an abandoned read is not taken. -/
def execHostHalfReadComplete (abandoned : Bool) (bytes : List Byte) (s : State) : Host.Outcome State Fault Refusal :=
  if abandoned then .next { s with mem := { s.mem with abandoned := s.mem.abandoned - 1 } }
  else
    match s.mem.read with
    | none => .next s
    | some r => .next (s.completeRead r (readHostHalf bytes))

/-! ### Journal writes (R153, R158) -/

/-- A record of this kind has completed: the signal-due indication is set where the mask in force names it (R158). -/
def State.recordDone (s : State) (kind : Nat) : State :=
  { s with mem := { s.mem with journalWrite := none, signalDue := s.mem.signalDue || s.signalled kind } }

/-- The notice is a STARVATION_FINDING. -/
def Notice.isFinding (n : Notice) : Bool := decide (n.kind = 6)

/-- The record at the head of the notice queue is the one posted for the scan's present outstanding finding: it is a
finding, the outstanding finding has no position yet, and no later finding waits in the queue (R113). -/
def State.writesPresentFinding (s : State) : Bool :=
  match s.mem.notices, s.scan.finding with
  | n :: rest, some f => n.isFinding && f.position.isNone && rest.all (fun m => !m.isFinding)
  | _, _ => false

/-- The write of a notice completes (R153, R113). -/
def State.noticeWritten (s : State) (n : Notice) (count : Word32) : State :=
  let s1 := if s.writesPresentFinding then { s with scan := s.scan.takePosition count } else s
  { s1 with mem := { s1.mem with notices := s1.mem.notices.tail, produced := s1.mem.produced + 1 } }.recordDone n.kind

/-- The first record of a report is written: its continuation follows with the next count, if that still has room; if not,
the report stays in its slot, to be written again from its first record, and the pass ends (log entry 10). -/
def State.firstWritten (s : State) (p : Port) (r : Report) (count : Word32) : State :=
  let s1 := { s with mem := { s.mem with journalWrite := none } }
  if 2 ≤ s.mem.room then s1.issueRecord (.continuation p r) (count + 1)
  else
    let s2 := { s1 with mem := { s1.mem with slots := s1.mem.slots.modify p Slot.unwritten } }
    (s2.endPass ((s.mem.pass.map Pass.occasion).getD (.boundary true))).pump

/-- The second record of a report is written: the produced count rises by 2, the waiting report takes the slot, and the
pass goes on to the next port, or to the notices after a report written again (R153, R155, R157). -/
def State.reportWritten (s : State) (p : Port) : State :=
  let m := { s.mem with
    produced := s.mem.produced + 2
    slots := s.mem.slots.modify p fun sl => { held := sl.waiting, waiting := none }
    rewrite := none
    pass := s.mem.pass.map fun x => { x with stage := if x.stage = .again then .notices else .reports (p.val + 1) } }
  { s with mem := m }.recordDone reportKind

/-- JOURNAL_WRITE_COMPLETE (R153): the record in flight is complete, and the pass goes on. -/
def execJournalWriteComplete (s : State) : Host.Outcome State Fault Refusal :=
  match s.mem.journalWrite with
  | none => .next s
  | some w =>
    match w.item with
    | .notice n => .next (s.noticeWritten n w.count).pump
    | .first p r => .next (s.firstWritten p r w.count)
    | .continuation p _ => .next (s.reportWritten p).pump

/-! ### Part-half and signal writes (R151, R158, R147) -/

/-- The signal write is issued, the signal disarmed and the carried produced count noted (R158). -/
def State.issueSignal (s : State) (w : PartHalfWrite) : State :=
  { s with mem := { s.mem with
      armed := false
      noted := w.produced
      signalWrites := s.mem.signalWrites ++
        [{ write := { addr := s.mem.signalAddr, data := leBytes 4 s.mem.signalValue.toNat }, final := w.final }] } }

/-- The oldest part-half write that waits is issued (R147, R151). -/
def State.issueOwed (s : State) : State :=
  match s.mem.writesOwed with
  | [] => s
  | final :: rest => { s with mem := { s.mem with writesOwed := rest } }.issuePartHalf final

/-- PART_HALF_WRITE_COMPLETE (R151, R158, R147): a signalling one makes the signal where it is armed, and otherwise sets
the indication again; the final one ends parking, unless a signal write follows it. -/
def execPartHalfWriteComplete (s : State) : Host.Outcome State Fault Refusal :=
  match s.mem.partHalf with
  | none => .next s
  | some w =>
    let s1 := { s with mem := { s.mem with partHalf := none } }
    if w.signalling = true ∧ s.mem.armed = true then
      if w.final then .next (s1.issueSignal w) else .next (s1.issueSignal w).issueOwed
    else
      let s2 := { s1 with mem := { s1.mem with signalDue := s1.mem.signalDue || w.signalling } }
      if w.final then .next s2.park else .next s2.issueOwed

/-- SIGNAL_WRITE_COMPLETE (R158, R147): the signal stays disarmed; the one that follows the final part-half write ends
parking. -/
def execSignalWriteComplete (s : State) : Host.Outcome State Fault Refusal :=
  match s.mem.signalWrites with
  | [] => .next s
  | w :: rest =>
    let s1 := { s with mem := { s.mem with signalWrites := rest } }
    if w.final then .next s1.park else .next s1

/-! ### Usage statements (R160, R161) -/

/-- A statement falls due: it is begun, or skipped where the memory side may not write or the previous statement is still
being written (R160). -/
def State.beginStatement (s : State) (e : Epoch) : State :=
  if s.mem.mode = .faulted ∨ s.mem.statement.isSome = true ∨ s.active = false then s
  else { s with mem := { s.mem with stmtNumber := nextOdd s.mem.stmtNumber } }.issueUsage e .opening

/-- STATEMENT_DUE (R160): the memory side counts a boundary, and where the count reaches the interval of the plan in force
a statement falls due and the count returns to 0. -/
def execStatementDue (s : State) : Host.Outcome State Fault Refusal :=
  match s.mem.stmtOwed with
  | [] => .next s
  | e :: rest =>
    if s.mem.stmtCount + 1 < s.plans.inForce.interval then
      .next { s with mem := { s.mem with stmtOwed := rest, stmtCount := s.mem.stmtCount + 1 } }
    else .next ({ s with mem := { s.mem with stmtOwed := rest, stmtCount := 0 } }.beginStatement e)

/-- USAGE_WRITE_COMPLETE (R161): the next write of the statement is issued, as the command's row of the table has it, each row
as it stands then; before the closing header the statement number is raised by 1. -/
def execUsageWriteComplete (s : State) : Host.Outcome State Fault Refusal :=
  match s.mem.statement with
  | none => .next s
  | some st =>
    match st.step.next with
    | none => .next { s with mem := { s.mem with statement := none } }
    | some .closing =>
      .next ({ s with mem := { s.mem with stmtNumber := s.mem.stmtNumber + 1 } }.issueUsage st.epoch .closing)
    | some step => .next (s.issueUsage st.epoch step)

/-! ### Failed accesses (R148) -/

/-- The region of an access; signal writes are counted in the region CONTROL_PAGE (R148). -/
def accessRegion : Access → Region
  | .hostHalfRead => .controlPage
  | .abandonedRead => .controlPage
  | .partHalfWrite => .controlPage
  | .signalWrite => .controlPage
  | .journalWrite => .journal
  | .usageWrite => .usageTable

/-- The access is in flight. -/
def MemSide.inFlight (m : MemSide) : Access → Bool
  | .hostHalfRead => m.read.isSome
  | .abandonedRead => decide (0 < m.abandoned)
  | .partHalfWrite => m.partHalf.isSome
  | .signalWrite => !m.signalWrites.isEmpty
  | .journalWrite => m.journalWrite.isSome
  | .usageWrite => m.statement.isSome

/-- MEMORY_ACCESS_FAILED (R148): the memory side enters FAULTED with the access's region. A second failure is taken in
FAULTED and changes nothing. What becomes of a final part-half write that still waits is log entry 43's. -/
def execMemoryAccessFailed (x : Access) (s : State) : Host.Outcome State Fault Refusal :=
  if s.active = true ∧ s.mem.mode = .serving ∧ s.mem.inFlight x = true then .next (s.enterFaulted (accessRegion x))
  else .next s

end Sys2Proof.Machine
end

