-- ==== Sys2Proof/Machine/Part.lean ====
section
/-! DEFINITION. The register window and the part state: the commands POWER_ON_RESET, CONTROL_RESET, RUN, STOP,
REGISTER_WRITE and START_READ_COMPLETE (10_control_page_and_registers.md). -/

namespace Sys2Proof.Machine

/-! ### Resets (R143) -/

/-- POWER_ON_RESET (R143): every block takes its after-reset value. -/
def execPowerOnReset (s : State) : Host.Outcome State Fault Refusal :=
  .next { State.reset with pending := s.pending }

/-- CONTROL_RESET (R143): as a power-on reset, but PAGE_LO and PAGE_HI are kept; the Run value of the same write does not
matter. -/
def execControlReset (_runValue : Bool) (s : State) : Host.Outcome State Fault Refusal :=
  .next { State.reset with
    win := { Window.reset with pageLo := s.win.pageLo, pageHi := s.win.pageHi }
    pending := s.pending }

/-! ### Starting (R144 to R146) -/

/-- The part returns to PARKED from STARTING with Run cleared (R144, R145). -/
def State.leaveStarting (s : State) (r : StartRefusal) : State :=
  { s with win := { s.win with
      mode := .parked, run := false, refusal := r, startRead := false, withdrawn := false } }

/-- The control page address is nonzero and a multiple of 4,096 (R145, check 1). -/
def State.pageValid (s : State) : Bool :=
  decide (s.pageAddress.toNat ≠ 0) && decide (s.pageAddress.toNat % 4096 = 0)

/-- Run written 1 in PARKED: the refusal reason and the memory side's fault are cleared, the part enters STARTING, and the
read of the control page is issued where its address is valid (R144, R145). -/
def State.beginStart (s : State) : State :=
  let s1 := { s with
    win := { s.win with mode := .starting, refusal := .none, withdrawn := false }
    mem := { s.mem with mode := .serving, region := .none } }
  if s.pageValid then { s1 with win := { s1.win with startRead := true } } else s1.leaveStarting .baseInvalid

/-- The first of checks 3 to 6 that fails; none: they pass (R145). -/
def startFault (st : PartStatic) (h : HostHalf) : Option StartRefusal :=
  if st.journalBase.toNat = 0 ∨ st.journalBase.toNat % 32 ≠ 0 then some .badJournal
  else if st.capacity ∉ [64, 128, 256, 512, 1024, 2048, 4096, 8192, 16384, 32768] then some .badJournal
  else if st.usageBase.toNat = 0 ∨ st.usageBase.toNat % 64 ≠ 0 then some .badUsageBase
  else if h.consumed ≠ 0 then some .journalCount
  else none

/-- The signal address in force: one that is not a multiple of 4 is treated as 0 (R145). -/
def usedSignalAddress (a : Word64) : Word64 := if a.toNat % 4 = 0 then a else 0

/-- Steps 1 to 3 of entry to RUNNING on the memory side (R146). -/
def MemSide.restart (m : MemSide) (st : PartStatic) : MemSide :=
  { m with
    journalBase := st.journalBase
    capacity := st.capacity
    usageBase := st.usageBase
    signalAddr := usedSignalAddress st.signalAddr
    signalValue := st.signalValue
    produced := 0
    consumed := 0
    rewrite := none
    armed := m.armed || decide (usedSignalAddress st.signalAddr ≠ 0) }

/-- The part enters RUNNING in the steps of R146. -/
def State.enterRunning (s : State) (st : PartStatic) (h : HostHalf) (now : Moment) : State :=
  let s1 := { s with
    win := { s.win with mode := .running, startRead := false, withdrawn := false }
    mem := s.mem.restart st }
  let s2 := s1.showPlan h
  let s3 := { s2 with
    mem := { s2.mem with signalMask := h.mask }
    scan := s2.scan.restart
    timer := s2.timer.start now }
  s3.startPass .entry

/-- START_READ_COMPLETE (R144 to R146): a withdrawn start returns to PARKED without validation; otherwise the read's
failure or a failed check refuses the start, or the part enters RUNNING. -/
def execStartReadComplete (r : StartRead) (now : Moment) (s : State) : Host.Outcome State Fault Refusal :=
  if s.win.mode = .starting ∧ s.win.startRead = true then
    if s.win.withdrawn then .next (s.leaveStarting s.win.refusal)
    else
      match r with
      | .failed => .next (s.leaveStarting .readFailed)
      | .page hb sb =>
        match startFault (readPartStatic sb) (readHostHalf hb) with
        | some x => .next (s.leaveStarting x)
        | none => .next (s.enterRunning (readPartStatic sb) (readHostHalf hb) now)
  else .next s

/-! ### RUN and STOP (R144, R147, R149) -/

/-- The Run value of a write to RUN_CTL is stored (R144). -/
def State.storeRun (s : State) (v : Bool) : State := { s with win := { s.win with run := v } }

/-- A FAULTED memory side returns to SERVING and reads the host half; the fault region stays (R149, R148). -/
def State.resumeMemory (s : State) : State :=
  if s.mem.mode = .faulted then
    { s with mem := { s.mem with mode := .serving, read := some { resumption := true, writes := false } } }
  else s

/-- RUN: Run written 1 (R144). -/
def execRun (s : State) : Host.Outcome State Fault Refusal :=
  let s1 := s.storeRun true
  match s.win.mode with
  | .parked => .next s1.beginStart
  | .starting => .next { s1 with win := { s1.win with withdrawn := false } }
  | .running => .next s1.resumeMemory
  | .stopping =>
    if s.win.parking then .next s1
    else .next { s1 with win := { s1.win with mode := .running } }.resumeMemory

/-- Every port not in STANDBY enters DRAINING, in the order of the command (R147, R42). -/
def State.drainAll (s : State) (order : List Port) : State :=
  (fullOrder order).foldl (fun s p => s.enterDraining p) s

/-- STOP: Run written 0 (R144, R147). -/
def execStop (order : List Port) (s : State) : Host.Outcome State Fault Refusal :=
  let s1 := s.storeRun false
  match s.win.mode with
  | .parked => .next s1
  | .starting =>
    if s.win.startRead then .next { s1 with win := { s1.win with withdrawn := true } }
    else .next (s1.leaveStarting s1.win.refusal)
  | .running => .next ({ s1 with win := { s1.win with mode := .stopping } }.drainAll order).parkIfDone
  | .stopping => .next s1

/-! ### Register writes (R143) -/

/-- REGISTER_WRITE (R143): PAGE_LO and PAGE_HI are stored in PARKED and ignored otherwise; PART_STAT is read only. -/
def execRegisterWrite (reg : WindowReg) (value : Word32) (s : State) : Host.Outcome State Fault Refusal :=
  if s.win.mode = .parked then
    match reg with
    | .pageLo => .next { s with win := { s.win with pageLo := value } }
    | .pageHi => .next { s with win := { s.win with pageHi := value } }
    | .partStat => .next s
  else .next s

/-- What a read of the window returns: at the four offsets of 13.2 the register there (R143). Of every other offset the spec
is silent: DESIGN CHOICE, the read changes nothing and its value is free (log entry 30). -/
def State.readWindow (s : State) (offset : Nat) : Word32 :=
  match offset with
  | 0 => s.win.pageLo
  | 4 => s.win.pageHi
  | 8 => s.runCtl
  | 12 => s.partStat
  | _ => Config.offRegister offset

end Sys2Proof.Machine
end

