-- ==== Sys2Proof/Machine/Dispatch.lean ====
section
/-! DEFINITION. One arm per command: the meaning of each. -/

namespace Sys2Proof.Machine

def exec (i : Instr) (s : State) : Host.Outcome State Fault Refusal :=
  match i with
  | .powerOnReset => Sys2Proof.Machine.execPowerOnReset s
  | .controlReset runValue => Sys2Proof.Machine.execControlReset runValue s
  | .run => Sys2Proof.Machine.execRun s
  | .stop order => Sys2Proof.Machine.execStop order s
  | .registerWrite reg value => Sys2Proof.Machine.execRegisterWrite reg value s
  | .startReadComplete result moment => Sys2Proof.Machine.execStartReadComplete result moment s
  | .bind port queue source lane => Sys2Proof.Machine.execBind port queue source lane s
  | .unbind port queue => Sys2Proof.Machine.execUnbind port queue s
  | .demand port queue units => Sys2Proof.Machine.execDemand port queue units s
  | .close port tag used followFirst sched => Sys2Proof.Machine.execClose port tag used followFirst sched s
  | .level port level => Sys2Proof.Machine.execLevel port level s
  | .inboundDiscard bytes => Sys2Proof.Machine.execInboundDiscard bytes s
  | .transmitMessage order => Sys2Proof.Machine.execTransmitMessage order s
  | .boundary moment => Sys2Proof.Machine.execBoundary moment s
  | .syncPulse moment len => Sys2Proof.Machine.execSyncPulse moment len s
  | .syncMark moment len => Sys2Proof.Machine.execSyncMark moment len s
  | .lossOfLock moment => Sys2Proof.Machine.execLossOfLock moment s
  | .portClose port exams => Sys2Proof.Machine.execPortClose port exams s
  | .grantExpiry port tag sched => Sys2Proof.Machine.execGrantExpiry port tag sched s
  | .lapsedEntryRemoval port tag => Sys2Proof.Machine.execLapsedEntryRemoval port tag s
  | .portStateChange port => Sys2Proof.Machine.execPortStateChange port s
  | .allocationStart port => Sys2Proof.Machine.execAllocationStart port s
  | .allocationComplete port => Sys2Proof.Machine.execAllocationComplete port s
  | .conductBoundary order => Sys2Proof.Machine.execConductBoundary order s
  | .autoRecovery account => Sys2Proof.Machine.execAutoRecovery account s
  | .sweep => Sys2Proof.Machine.execSweep s
  | .planApplication order sched accounts => Sys2Proof.Machine.execPlanApplication order sched accounts s
  | .hostHalfReadComplete abandoned bytes => Sys2Proof.Machine.execHostHalfReadComplete abandoned bytes s
  | .planFetchComplete result => Sys2Proof.Machine.execPlanFetchComplete result s
  | .journalWriteComplete => Sys2Proof.Machine.execJournalWriteComplete s
  | .partHalfWriteComplete => Sys2Proof.Machine.execPartHalfWriteComplete s
  | .signalWriteComplete => Sys2Proof.Machine.execSignalWriteComplete s
  | .statementDue => Sys2Proof.Machine.execStatementDue s
  | .usageWriteComplete => Sys2Proof.Machine.execUsageWriteComplete s
  | .memoryAccessFailed access => Sys2Proof.Machine.execMemoryAccessFailed access s
  | .planReadComplete bytes => Sys2Proof.Machine.execPlanReadComplete bytes s

end Sys2Proof.Machine
end

