-- ==== Sys2Proof/Safety.lean ====
section
/-! DEFINITION. What the claims speak of: reading one cell or one queue, the facts the spec says hold at all times, and what
a grant run leaves nothing to do with. -/

namespace Sys2Proof.Machine

/-! ### Reading the state -/

/-- The record of an account's cell on a port. -/
def State.cell (s : State) (p : Port) (a : Account) : Cell := (s.ports.get p).cells.get a

/-- A queue's entry. -/
def State.queue (s : State) (p : Port) (q : QueueId) : Queue := (s.ports.get p).queues.get q

/-- The output queue with a message placed where it has room (R73, R75). -/
def placed (output : List OutMsg) (m : OutMsg) : List OutMsg := if output.length < 64 then output ++ [m] else output

/-- Nothing is left for a run to grant on the port: no slot, no room, or no account that may be served (R51 to R53). -/
def State.nothingToGrant (s : State) (p : Port) : Prop :=
  32 ≤ (s.ports.get p).table.length ∨ 64 ≤ s.link.output.length ∨
    ∀ l a, s.conductOf a = .cutOff ∨ (s.cell p a).allowance ≤ (s.cell p a).issued ∨ (s.ports.get p).list l a = []

/-! ### Facts that hold at all times -/

/-- A step keeps a fact about the state. -/
def KeptByEveryStep (P : State → Prop) : Prop := ∀ s t, P s → step s = .next t → P t

/-- The output queue and the notice queue stay within their depths (R67, R152). -/
def State.queuesWithin (s : State) : Prop := s.link.output.length ≤ 64 ∧ s.mem.notices.length ≤ 32

/-- A port's outstanding grant table: at most 32 entries, no two with one tag, empty in STANDBY (R46). -/
def PortBlock.tableSound (b : PortBlock) : Prop :=
  b.table.length ≤ 32 ∧ (b.table.map Entry.tag).Nodup ∧ (b.mode = .standby → b.table = [])

/-- Every port's table is sound, and no LIVE entry belongs to an account in CUT_OFF (R46, R63). -/
def State.tablesSound (s : State) : Prop :=
  ∀ p, (s.ports.get p).tableSound ∧ ∀ e ∈ (s.ports.get p).table, e.state = .live → s.conductOf e.account ≠ .cutOff

/-- Every cell of the port has allowance 0 and issued net 0. -/
def PortBlock.settled (b : PortBlock) : Prop := ∀ a, (b.cells.get a).allowance = 0 ∧ (b.cells.get a).issued = 0

/-- A port's allocation records: issued net never above allowance, the allowances together never above the effective
capacity (R54, R13); and what makes that last: nothing allowed or issued in STANDBY, in ALLOCATING, and in a DRAINING port
that has closed and not yet changed state (R7, R20, R25), a GRANTING port or one with an allocation in flight owing as many
closes as state changes (R16, R41), and the allocation in flight working on the capacity the port holds (R3). -/
def PortBlock.accountsSound (b : PortBlock) : Prop :=
  (∀ a, (b.cells.get a).issued ≤ (b.cells.get a).allowance) ∧
  b.sumCells Cell.allowance ≤ b.capacity ∧
  (b.mode = .standby ∨ b.mode = .allocating → b.settled) ∧
  (b.mode = .draining → b.closeOwed.length < b.changeOwed.length → b.settled) ∧
  (b.mode = .granting → b.closeOwed.length = b.changeOwed.length) ∧
  (∀ al, b.inFlight = some al → b.closeOwed.length = b.changeOwed.length ∧ al.capacity = b.capacity)

/-- Every port's allocation records are sound. -/
def State.accountsSound (s : State) : Prop := ∀ p, (s.ports.get p).accountsSound

/-- A port's service lists hold each queue at most once, in its own account's list for its effective lane only, exactly
while its waiting flag is set; and that is exactly while its tally is above 0, which only a bound queue's is (R49, R79). -/
def PortBlock.listsSound (b : PortBlock) : Prop :=
  (∀ l a, (b.list l a).Nodup) ∧
  (∀ l a q, q ∈ b.list l a ↔
    (b.queues.get q).waiting = true ∧ (b.queues.get q).account = a ∧ (b.queues.get q).lane = l) ∧
  (∀ q, (b.queues.get q).waiting = decide (0 < (b.queues.get q).tally)) ∧
  (∀ q, 0 < (b.queues.get q).tally → (b.queues.get q).bound = true)

/-- Every port's lists are sound, and no queue has a nonzero tally in STANDBY or for an account in CUT_OFF (R43, R93). -/
def State.demandSound (s : State) : Prop :=
  ∀ p, (s.ports.get p).listsSound ∧
    ∀ q, 0 < (s.queue p q).tally →
      (s.ports.get p).mode ≠ .standby ∧ s.conductOf (s.queue p q).account ≠ .cutOff

/-- Scores stay within 0 to 256 and quiet counts within 0 to 32, and the quiet count is 0 outside CUT_OFF (R95, R96,
R103). -/
def State.conductSound (s : State) : Prop :=
  ∀ a, (s.conduct.recs.get a).score ≤ 256 ∧ (s.conduct.recs.get a).quiet ≤ 32 ∧
    (s.conductOf a ≠ .cutOff → (s.conduct.recs.get a).quiet = 0)

/-- The sync state follows the sync role (R118). -/
def Timer.syncSound (t : Timer) : Prop :=
  match t.timing.role with
  | .alone => t.sync = .alone
  | .leader => t.sync = .leading
  | .follower => t.sync = .seeking ∨ t.sync = .locked

/-- The sync state follows the role, the timer runs exactly in RUNNING and STOPPING, and one that runs has made a boundary
or started (R118, R120). -/
def State.timerSound (s : State) : Prop :=
  s.timer.syncSound ∧
  (s.timer.running = true ↔ s.win.mode = .running ∨ s.win.mode = .stopping) ∧
  (s.timer.running = true → s.timer.last.isSome = true)

/-- An epoch length from 20 to 5000 µs, a multiple of 10 (R118, R119). -/
def lengthInRange (us : Nat) : Prop := 20 ≤ us ∧ us ≤ 5000 ∧ us % 10 = 0

/-- Standby-class values in the ranges of R135 and R128. -/
def StandbyValues.inRange (v : StandbyValues) : Prop :=
  1 ≤ v.cnom ∧ v.cnom ≤ 16777215 ∧ 1 ≤ v.quantum ∧ v.quantum ≤ 4096 ∧ 1 ≤ v.life ∧ v.life ≤ 15

/-- A plan whose values are all in the ranges of R135, with one share entry at most for a cell (R134). -/
def Plan.inRange (pl : Plan) : Prop :=
  lengthInRange pl.lengthUs ∧ 1 ≤ pl.interval ∧ pl.interval ≤ 1024 ∧ pl.scanS ≤ 63 ∧
  (∀ p, (pl.ports.get p).values.inRange ∧ 1 ≤ (pl.ports.get p).depth ∧ (pl.ports.get p).depth ≤ 4 ∧
    (pl.ports.get p).derate1 ≤ 256 ∧ (pl.ports.get p).derate2 ≤ 256 ∧ (pl.ports.get p).derate3 ≤ 256) ∧
  (∀ e ∈ pl.shares, e.floor ≤ e.ceiling ∧ e.ceiling ≤ 16777215 ∧ e.burst ≤ 16777215 ∧ e.weight ≤ 4095) ∧
  (pl.shares.map fun e => (e.account, e.port)).Nodup

/-- The plan in force and the staged plan are in range, and so are the values taken from plans: each port's standby-class
values and deferred slot, the timing in force, the pending timing and the part's slot (R136, R139). -/
def State.plansSound (s : State) : Prop :=
  s.plans.inForce.inRange ∧
  (∀ pl, s.plans.staged = some pl → pl.inRange) ∧
  (∀ p, (s.ports.get p).values.inRange ∧ ∀ d, (s.ports.get p).deferred = some d → d.values.inRange) ∧
  lengthInRange s.timer.timing.lengthUs ∧
  (∀ n, s.timer.pending = some n → lengthInRange n.lengthUs) ∧
  (∀ d, s.plans.partDeferred = some d → lengthInRange d.timing.lengthUs)

/-- No access to host memory is in flight on the memory side, and no writing pass is under way or due. -/
def MemSide.idle (m : MemSide) : Prop :=
  m.read = none ∧ m.abandoned = 0 ∧ m.statement = none ∧ m.journalWrite = none ∧ m.partHalf = none ∧
    m.signalWrites = [] ∧ m.pass = none ∧ m.passQueue = []

/-- The part makes no access to host memory in PARKED, in STARTING but for its one read, and in FAULTED (10.1, R148), no
boundary being made outside RUNNING and STOPPING (R120). -/
def State.accessSound (s : State) : Prop :=
  (s.timer.running = true → s.win.mode = .running ∨ s.win.mode = .stopping) ∧
  (s.win.mode = .starting → s.mem.mode = .serving) ∧
  (s.win.mode = .parked ∨ s.win.mode = .starting ∨ s.mem.mode = .faulted → s.mem.idle ∧ s.plans.fetch = none)

/-- Something of parking is in flight or due: its pass, the final part-half write, or the signal write that follows it. -/
def MemSide.finalWork (m : MemSide) : Prop :=
  true ∈ m.writesOwed ∨ (∃ w, m.partHalf = some w ∧ w.final = true) ∨ (∃ w ∈ m.signalWrites, w.final = true) ∨
    (∃ x, m.pass = some x ∧ x.occasion = .parking) ∨ .parking ∈ m.passQueue

/-- In PARKED, in STARTING and while parking is under way every port is in STANDBY (R40, R147); parking is under way in
STOPPING only, and what it issues is in flight only while it is under way. -/
def State.parkSound (s : State) : Prop :=
  (s.win.mode = .parked ∨ s.win.mode = .starting ∨ s.win.parking = true → ∀ p, (s.ports.get p).mode = .standby) ∧
  (s.win.parking = true → s.win.mode = .stopping) ∧
  (s.mem.finalWork → s.win.parking = true)

/-- The scan is HALTED exactly while a finding is outstanding (R113). -/
def State.scanSound (s : State) : Prop := s.scan.state = .halted ↔ s.scan.finding.isSome = true

/-- The count of the record that a journal write in flight carries: the produced count, and the next one for a continuation
(R153). -/
def MemSide.countOf (m : MemSide) : JournalItem → Word32
  | .notice _ => m.produced
  | .first _ _ => m.produced
  | .continuation _ _ => m.produced + 1

/-- A journal write in flight carries the count of R153 and goes to that count's slot. -/
def State.journalSound (s : State) : Prop :=
  ∀ w, s.mem.journalWrite = some w →
    w.count = s.mem.countOf w.item ∧
      w.write.addr = s.mem.journalBase + BitVec.ofNat 64 (32 * (w.count.toNat % s.mem.capacity))

end Sys2Proof.Machine
end

