-- ==== Sys2Proof/Certificates/Slice0/Obligations.lean ====
section
/-! DEFINITION. The statements for the provers: what each command does from the states it is meant for, the facts that every
step keeps, and what the share computation and the layouts guarantee. -/

open Sys2Proof Sys2Proof.Machine

/-! ### What several statements speak of -/

/-- The order that a command's list of ports or accounts stands for: each thing it names once, at its last mention, and then
the things it does not name, in increasing number (log entry 2). -/
def Sys2Proof.namedFirst {n : Nat} (l : List (Fin n)) : List (Fin n) := l.dedup ++ (List.finRange n).filter (· ∉ l)

/-- The conduct state of a score (R96). -/
def Sys2Proof.stateAt (score : Nat) : Conduct :=
  if score < 96 then .good else if score < 128 then .warned else if score < 256 then .restricted else .cutOff

/-- A notice offered to the notice queue: it joins the tail, or where 32 notices wait it is lost and counted (R154). -/
def Sys2Proof.posted (m : MemSide) (n : Notice) : MemSide :=
  if m.notices.length < 32 then { m with notices := m.notices ++ [n] } else { m with lapsed := m.lapsed + 1 }

/-- Between `m` and `n` these notices are offered one after another, and no others: with the queue full, or filling up on
the way, what does not fit is counted (R154). -/
def Sys2Proof.posts (m n : MemSide) (l : List Notice) : Prop :=
  n.notices = (l.foldl posted m).notices ∧ n.lapsed = (l.foldl posted m).lapsed

/-- A held or a waiting report with a new one merged into it: the port and the first epoch of the old, the port state and
the accepted level of the new, the epochs covered and the ten sums added, saturating (R155). -/
def Sys2Proof.mergedReport (old new : Report) : Report :=
  let sum (f : Report → Nat) : Nat := min (f old + f new) 4294967295
  { port := old.port, mode := new.mode, accepted := new.accepted, firstEpoch := old.firstEpoch
    covered := min (old.covered + new.covered) 65535
    effective := sum Report.effective, allocated := sum Report.allocated, issuedNet := sum Report.issuedNet
    used := sum Report.used, idle := sum Report.idle, overrun := sum Report.overrun, expiries := sum Report.expiries
    late := sum Report.late, stray := sum Report.stray, refused := sum Report.refused }

/-- A report handed over, merged into what the slot holds, or placed where it holds nothing (R155). -/
def Sys2Proof.mergedInto (held : Option Report) (r : Report) : Report :=
  match held with
  | none => r
  | some h => mergedReport h r

/-- The slot of a report whose write ended without both its records: the report that waits is merged into the held one
(R155). -/
def Sys2Proof.unwritten (sl : Slot) : Slot :=
  match sl.waiting with
  | none => sl
  | some x => { held := some (mergedInto sl.held x), waiting := none }

/-- A record of this port's report is being written. -/
def Sys2Proof.reportBeingWritten (m : MemSide) (p : Port) : Bool :=
  match m.journalWrite.map JournalWrite.item with
  | some (.first q _) => decide (q = p)
  | some (.continuation q _) => decide (q = p)
  | some (.notice _) => false
  | none => false

/-- The memory side with a port's report handed over: to its slot, or, while a record of the held one is being written, to
the report that waits (R155). -/
def Sys2Proof.reportHanded (m : MemSide) (p : Port) (r : Report) : MemSide :=
  let old := m.slots.get p
  let new : Slot :=
    if reportBeingWritten m p then { held := old.held, waiting := some (mergedInto old.waiting r) }
    else { held := some (mergedInto old.held r), waiting := old.waiting }
  { m with slots := m.slots.set p new }

/-- The report of one epoch of a port: `settled` as the port stood when its cells were settled, `now` as it stands when the
report is formed, with the port state and the accepted level it shows; its sums saturate (R23, R25). -/
def Sys2Proof.epochReport (p : Port) (settled now : PortBlock) (mode : PortMode) (level : Level) : Report :=
  let sum (f : Cell → Nat) : Nat := ((List.finRange 48).map fun a => f (settled.cells.get a)).sum
  let sat (n : Nat) : Nat := min n 4294967295
  { port := p, mode := mode, accepted := level, firstEpoch := settled.openEpoch, covered := 1
    effective := sat now.totals.effective, allocated := sat (sum Cell.allowance), issuedNet := sat (sum Cell.issued)
    used := now.counts.used, idle := sat (now.totals.effective - sum Cell.allowance), overrun := now.counts.overrun
    expiries := now.counts.expiries, late := now.counts.late, stray := now.counts.stray, refused := now.refused }

/-! #### The journal writer's pass (R151, R153, R157) -/

/-- Records of room in the journal (R153). -/
def Sys2Proof.roomOf (m : MemSide) : Nat := m.capacity - (m.produced - m.consumed).toNat

/-- The first report pending from port number `k` on, where two records of room are free (R157). -/
def Sys2Proof.reportFrom (m : MemSide) (k : Nat) : Option JournalItem :=
  if 2 ≤ roomOf m then
    ((List.finRange 4).filter fun p => decide (k ≤ p.val)).findSome? fun p => (m.slots.get p).held.map (.first p)
  else none

/-- The notice at the head of the queue, where there is room for it, and with none queued the first report pending
(R157). -/
def Sys2Proof.noticeOrReport (m : MemSide) : Option JournalItem :=
  match m.notices with
  | n :: _ => if 1 ≤ roomOf m then some (.notice n) else none
  | [] => reportFrom m 0

/-- What a pass writes first, and how far it has come then: the report whose write failed (log entry 36), else a notice or a
report (R153, R157). -/
def Sys2Proof.firstOfPass (m : MemSide) : Option (JournalItem × PassStage) :=
  match m.rewrite.bind fun p => (m.slots.get p).held.map (JournalItem.first p) with
  | some x => if 2 ≤ roomOf m then some (x, .again) else none
  | none => (noticeOrReport m).map fun
    | .notice n => (.notice n, .notices)
    | .first p r => (.first p r, .reports p.val)
    | .continuation p r => (.continuation p r, .reports p.val)

/-- The write of a journal record with this count: its bytes go to the slot of the count (R153, R166). -/
def Sys2Proof.recordWrite (m : MemSide) (i : JournalItem) (count : Word32) : JournalWrite :=
  { item := i, count := count
    write := { addr := m.journalBase + BitVec.ofNat 64 (32 * (count.toNat % m.capacity)), data := i.bytes count } }

/-- The part-half write issued: each field as it stands, at offset 0x800 of the control page, carrying the produced count,
signalling where the indication is set and the signal address is not 0, with the indication cleared; the final one shows
PARKED (R147, R151, R158). -/
def Sys2Proof.partHalfIssued (s : State) (final : Bool) : State :=
  { s with mem := { s.mem with
      signalDue := false
      partHalf := some
        { write := { addr := (s.win.pageHi ++ s.win.pageLo) + 0x800
                     data := s.partHalfBytes (if final then .parked else s.win.mode) }
          signalling := s.mem.signalDue && decide (s.mem.signalAddr ≠ 0)
          produced := s.mem.produced
          final := final } } }

/-- The oldest part-half write that waits is issued, where one waits (R147, R151; log entry 20). -/
def Sys2Proof.oldestIssued (s : State) : State :=
  match s.mem.writesOwed with
  | [] => s
  | final :: rest => partHalfIssued { s with mem := { s.mem with writesOwed := rest } } final

/-- The end of a pass: the part-half write of its occasion is issued, parking's being the final one, or waits for one still
in flight (log entry 20); a boundary that fell while one was in flight makes none, and none follows the final one (R147,
R151, R157, R158; log entry 9). -/
def Sys2Proof.passEnded (s : State) (o : Occasion) : State :=
  let final := decide (o = .parking)
  let ended : State := { s with mem := { s.mem with pass := none } }
  if o = .boundary false ∨ true ∈ s.mem.writesOwed ∨ s.mem.partHalf.any PartHalfWrite.final = true ∨
      s.mem.signalWrites.any SignalWrite.final = true then ended
  else if s.mem.partHalf = none then partHalfIssued ended final
  else { ended with mem := { ended.mem with writesOwed := s.mem.writesOwed ++ [final] } }

/-- A pass begun by an idle writer: its first record is being written, with the produced count, or it has ended. -/
def Sys2Proof.passBegun (s : State) (o : Occasion) : State :=
  match firstOfPass s.mem with
  | some (i, stage) => { s with mem := { s.mem with
      pass := some { occasion := o, stage := stage }, journalWrite := some (recordWrite s.mem i s.mem.produced) } }
  | none => passEnded s o

/-- The state `t` with what a writing pass changes as it stands in `s`. -/
def Sys2Proof.passTakenBack (s t : State) : State :=
  { t with mem := { t.mem with
      pass := s.mem.pass, passQueue := s.mem.passQueue, journalWrite := s.mem.journalWrite, partHalf := s.mem.partHalf
      writesOwed := s.mem.writesOwed, signalDue := s.mem.signalDue } }

/-- What a pass that falls due in state `s` leaves: it begins at once where the writer is idle, waits behind the pass under
way otherwise, and changes nothing but the writer's own (R157; log entry 20). -/
def Sys2Proof.passFallsDue (s t : State) (o : Occasion) : Prop :=
  passTakenBack s t = s ∧
  (s.mem.pass = none → s.mem.passQueue = [] → t = passBegun s o) ∧
  (s.mem.pass ≠ none → t = { s with mem := { s.mem with passQueue := s.mem.passQueue ++ [o] } })

/-! #### Parking, and the entries to STANDBY and to DRAINING -/

/-- The part enters PARKED: Run cleared, the timer stopped, a follower SEEKING, the staged plan, the wanted and the refused
generation and the fetch dropped, every access ended; and what is still to be taken of boundaries gone but for the conduct
unit's and the statements' (R120, R130, R147; log entries 6 and 23). -/
def Sys2Proof.parkedNow (s : State) : State :=
  { s with
    win := { s.win with mode := .parked, run := false, parking := false }
    timer := { s.timer with
      running := false, driving := none, sync := if s.timer.timing.role = .follower then .seeking else s.timer.sync }
    plans := { s.plans with staged := none, wanted := none, fetch := none, refused := none, owed := [] }
    scan := { s.scan with owed := [] }
    ports := Tab.ofFn fun p => { s.ports.get p with closeOwed := [], changeOwed := [], allocDue := false }
    mem := { s.mem with
      statement := none, read := none, abandoned := 0, pass := none, passQueue := [], journalWrite := none
      partHalf := none, writesOwed := [], signalWrites := [] } }

/-- A STOPPING part whose last port has reached STANDBY parks: at once where the memory side is FAULTED, and otherwise with
parking under way and its pass due. Every other part goes on as it is (R147). -/
def Sys2Proof.parksWhenDone (s t : State) : Prop :=
  if s.win.mode = .stopping ∧ s.win.parking = false ∧ ∀ p, (s.ports.get p).mode = .standby then
    if s.mem.mode = .faulted then t = parkedNow s
    else passFallsDue { s with win := { s.win with parking := true } } t .parking
  else t = s

/-- A port's block on entry to STANDBY: tallies and service lists cleared with the bindings kept, the open epoch settled,
starved counts and flags cleared, the level filter emptied with its raw level kept, the deferred values in force, and what
the report carries away cleared (R25, R39, R43, R60, R80, R140). -/
def Sys2Proof.portAtRest (b : PortBlock) : PortBlock :=
  { b with
    mode := .standby
    urgentLists := Tab.fill 48 []
    bulkLists := Tab.fill 48 []
    queues := Tab.ofFn fun q => { b.queues.get q with tally := 0, waiting := false }
    cells := Tab.ofFn fun a =>
      let x := b.cells.get a
      { x with
        cumAllocated := x.cumAllocated + BitVec.ofNat 64 x.allowance
        cumIssued := x.cumIssued + BitVec.ofNat 64 x.issued
        lastFloor := x.epochFloor, lastNet := x.issued, allowance := 0, issued := 0, starved := 0, reported := false }
    filter := { raw := b.filter.raw, history := [], accepted := 0 }
    values := (match b.deferred with | none => b.values | some d => d.values)
    deferred := none
    served := false
    totals := { effective := 0, allocated := 0, idle := 0 }
    counts := { used := 0, overrun := 0, expiries := 0, late := 0, stray := 0 }
    refused := 0 }

/-- A port has entered STANDBY, and the part has not yet parked. Its report is handed over, with port state STANDBY;
PORT_STATE is offered, and DEFERRED_APPLIED for the port's slot where it held values; and where every port is now in STANDBY
the part's slot, if it holds values, is emptied, handed to the timer, which has nothing to adopt where they are the length
and role in force, and announced by DEFERRED_APPLIED (R25, R43, R44, R127, R140; log entries 14, 17 and 27). -/
def Sys2Proof.enteredStandby (s : State) (p : Port) : State :=
  let b := s.ports.get p
  let ports := s.ports.set p (portAtRest b)
  let part := if ∀ p', (ports.get p').mode = .standby then s.plans.partDeferred else none
  let notices : List Notice :=
    [.portState p b.mode .standby s.timer.epoch] ++
    (match b.deferred with | none => [] | some d => [.deferredApplied d.gen s.timer.epoch (some p)]) ++
    (match part with | none => [] | some d => [.deferredApplied d.gen s.timer.epoch none])
  { s with
    ports := ports
    mem := notices.foldl posted (reportHanded s.mem p (epochReport p b b .standby 0))
    timer := (match part with
      | none => s.timer
      | some d => { s.timer with pending := if d.timing = s.timer.timing then none else some d.timing })
    plans := (match part with | none => s.plans | some _ => { s.plans with partDeferred := none }) }

/-- A port enters STANDBY, and a STOPPING part whose last port it is parks (R43, R147). -/
def Sys2Proof.entersStandby (s t : State) (p : Port) : Prop := parksWhenDone (enteredStandby s p) t

/-- A GRANTING or ALLOCATING port enters DRAINING and PORT_STATE is offered; with an empty table it goes on to STANDBY
(R42 to R44). -/
def Sys2Proof.entersDraining (s t : State) (p : Port) : Prop :=
  let b := s.ports.get p
  let u : State := { s with
    ports := s.ports.set p { b with mode := .draining }
    mem := posted s.mem (.portState p b.mode .draining s.timer.epoch) }
  if b.table = [] then entersStandby u t p else t = u

/-- These ports enter DRAINING one after another. -/
def Sys2Proof.enterDrainingInTurn : List Port → State → State → Prop
  | [], s, t => t = s
  | p :: ps, s, t => ∃ u, entersDraining s u p ∧ enterDrainingInTurn ps u t

/-- What a removal by a CLOSE starts on its port: a run in GRANTING, and in DRAINING the entry to STANDBY of an empty table
(R43, R51). -/
def Sys2Proof.removalTaken (s t : State) (p : Port) : Prop :=
  if (s.ports.get p).mode = .granting then t = s.arbiterRun p
  else if (s.ports.get p).mode = .draining ∧ (s.ports.get p).table = [] then entersStandby s t p
  else t = s

/-! ### Steps, resets and the register window -/

/-- The command at the front of the queue is taken, with the rest waiting; with none waiting the part idles, which is the
model's choice (log entry 4). -/
def Obligations.StepTakesTheFrontCommand : Prop :=
  (∀ (c : Instr) (s : State), step { s with pending := c :: s.pending } = exec c s) ∧
  ∀ s : State, s.pending = [] → step s = .next s

/-- Every command answers a next state from every state: that none stops is read from the spec by inference (log entries 1
and 5). It leaves the queue of waiting commands alone, the resets included, which is the model's choice (log entry 25). -/
def Obligations.EveryCommandRunsAndLeavesTheQueue : Prop :=
  ∀ (c : Instr) (s : State), ∃ t, exec c s = .next t ∧ t.pending = s.pending

/-- The values of the empty plan, one by one (R142). -/
def Sys2Proof.isEmptyPlan (pl : Plan) : Prop :=
  pl.gen = 0 ∧ pl.tag = 0 ∧ pl.lengthUs = 1000 ∧ pl.role = .alone ∧ pl.interval = 1000 ∧ pl.scanS = 0 ∧
  (∀ p, pl.ports.get p =
    { inService := false, curve := .linear, depth := 2, life := 4, cnom := 1, quantum := 64, derate1 := 256
      derate2 := 256, derate3 := 256 }) ∧
  (∀ a, pl.accounts.get a = { urgentPermitted := false, autoRecovery := false, reinstate := false }) ∧
  pl.shares = [] ∧ pl.rules = [] ∧ pl.clamps = 0

/-- The state after reset holds the reset values the spec gives (R1, R2, R33 to R35, R40, R46, R47, R49, R50, R60, R67, R79,
R80, R95, R109, R118, R130, R139, R142, R143, R152, R160, R161). -/
def Obligations.ResetLeavesTheSpecValues : Prop :=
  State.reset.link.output = [] ∧ State.reset.link.discards = 0 ∧ State.reset.link.partialRx = [] ∧
  (∀ p, let b := State.reset.ports.get p
    b.mode = .standby ∧ b.openEpoch = 0 ∧ b.table = [] ∧ b.tagCounter = 255 ∧ b.urgentPtr = 47 ∧ b.bulkPtr = 47 ∧
    (∀ l a, b.list l a = []) ∧ b.counts = { used := 0, overrun := 0, expiries := 0, late := 0, stray := 0 } ∧
    b.refused = 0 ∧ b.capacity = 0 ∧ b.served = false ∧ b.totals = { effective := 0, allocated := 0, idle := 0 } ∧
    b.filter = { raw := 0, history := [], accepted := 0 } ∧ b.inFlight = none ∧
    b.values = { cnom := 1, quantum := 64, life := 4 } ∧ b.deferred = none ∧
    (∀ q, (b.queues.get q).bound = false ∧ (b.queues.get q).tally = 0 ∧ (b.queues.get q).waiting = false ∧
      (b.queues.get q).source = 0 ∧ (b.queues.get q).requested = .bulk ∧ (b.queues.get q).account = 0 ∧
      (b.queues.get q).lane = .bulk) ∧
    ∀ a, let c := b.cells.get a
      c.allowance = 0 ∧ c.issued = 0 ∧ c.credit = 0 ∧ c.claim = 0 ∧ c.epochFloor = 0 ∧ c.demand = 0 ∧
      c.ramp = { start := 0, target := 0, length := 0, step := 0, weight := 0 } ∧ c.starved = 0 ∧ c.reported = false ∧
      c.cumAllocated = 0 ∧ c.cumIssued = 0 ∧ c.cumUsed = 0 ∧ c.cumOverrun = 0 ∧ c.cumExpiries = 0 ∧
      c.lastFloor = 0 ∧ c.lastNet = 0) ∧
  (∀ a, State.reset.conduct.recs.get a =
    { score := 0, quiet := 0, fault := false, activity := false, demand := false }) ∧
  State.reset.scan.state = .idle ∧ State.reset.scan.cursor = 0 ∧ State.reset.scan.finding = none ∧
  State.reset.timer.running = false ∧ State.reset.timer.epoch = 0 ∧ State.reset.timer.last = none ∧
  State.reset.timer.timing = { lengthUs := 1000, role := .alone } ∧ State.reset.timer.sync = .alone ∧
  State.reset.timer.pending = none ∧
  isEmptyPlan State.reset.plans.inForce ∧ State.reset.plans.appliedEpoch = 0 ∧ State.reset.plans.staged = none ∧
  State.reset.plans.wanted = none ∧ State.reset.plans.fetch = none ∧ State.reset.plans.fetched = 0 ∧
  State.reset.plans.refused = none ∧ State.reset.plans.partDeferred = none ∧ State.reset.plans.hold = false ∧
  State.reset.mem.mode = .serving ∧ State.reset.mem.region = .none ∧ State.reset.mem.produced = 0 ∧
  State.reset.mem.consumed = 0 ∧ State.reset.mem.notices = [] ∧
  (∀ p, State.reset.mem.slots.get p = { held := none, waiting := none }) ∧ State.reset.mem.lapsed = 0 ∧
  State.reset.mem.armed = false ∧ State.reset.mem.noted = 0 ∧ State.reset.mem.signalDue = false ∧
  State.reset.mem.stmtCount = 0 ∧ State.reset.mem.stmtNumber = 0 ∧
  State.reset.win.mode = .parked ∧ State.reset.win.run = false ∧ State.reset.win.refusal = .none ∧
  State.reset.win.pageLo = 0 ∧ State.reset.win.pageHi = 0

/-- From every state, a power-on reset leaves the reset state, and a control reset leaves it but for PAGE_LO and PAGE_HI,
whatever Run value the write carries (R143). That the commands which wait stay in the queue is the model's choice (log
entry 25). -/
def Obligations.ResetsFromAnyState : Prop :=
  ∀ s : State,
    exec .powerOnReset s = .next { State.reset with pending := s.pending } ∧
    ∀ v, exec (.controlReset v) s =
      .next { State.reset with
        win := { State.reset.win with pageLo := s.win.pageLo, pageHi := s.win.pageHi }
        pending := s.pending }

/-- PAGE_LO and PAGE_HI are stored in PARKED and kept in every other part state, PART_STAT is never written, and PART_STAT
reads the fields of 13.2 as they stand (R143). -/
def Obligations.RegisterWindowWritesAndReads : Prop :=
  ∀ (s : State) (v : Word32),
    exec (.registerWrite .pageLo v) s =
      .next (if s.win.mode = .parked then { s with win := { s.win with pageLo := v } } else s) ∧
    exec (.registerWrite .pageHi v) s =
      .next (if s.win.mode = .parked then { s with win := { s.win with pageHi := v } } else s) ∧
    exec (.registerWrite .partStat v) s = .next s ∧
    s.readWindow 0 = s.win.pageLo ∧ s.readWindow 4 = s.win.pageHi ∧
    s.readWindow 8 = (if s.win.run then 1 else 0) ∧
    (s.readWindow 12).extractLsb' 0 2 = BitVec.ofNat 2 s.win.mode.code ∧
    (s.readWindow 12).extractLsb' 2 1 = BitVec.ofNat 1 s.mem.mode.code ∧
    (s.readWindow 12).extractLsb' 3 2 = BitVec.ofNat 2 s.mem.region.code ∧
    (s.readWindow 12).extractLsb' 5 3 = BitVec.ofNat 3 s.win.refusal.code ∧
    (s.readWindow 12).extractLsb' 8 8 = 0 ∧
    (s.readWindow 12).extractLsb' 16 16 = s.timer.epoch.extractLsb' 0 16

/-- Run written 1, by part state: a start or its refusal BASE_INVALID, a cancelled withdrawal, a resumption, a return from
STOPPING, or, while parking is under way, the stored value alone (R144, R145, R149). -/
def Obligations.RunActsByPartState : Prop :=
  ∀ s : State,
    let page := s.win.pageHi ++ s.win.pageLo
    let resumed :=
      if s.mem.mode = .faulted then { s.mem with mode := .serving, read := some { resumption := true, writes := false } }
      else s.mem
    exec .run s = .next (
      match s.win.mode with
      | .parked =>
        { s with
          win := if page.toNat ≠ 0 ∧ page.toNat % 4096 = 0 then
              { s.win with run := true, mode := .starting, refusal := .none, startRead := true, withdrawn := false }
            else
              { s.win with run := false, mode := .parked, refusal := .baseInvalid, startRead := false, withdrawn := false }
          mem := { s.mem with mode := .serving, region := .none } }
      | .starting => { s with win := { s.win with run := true, withdrawn := false } }
      | .running => { s with win := { s.win with run := true }, mem := resumed }
      | .stopping =>
        if s.win.parking then { s with win := { s.win with run := true } }
        else { s with win := { s.win with run := true, mode := .running }, mem := resumed })

/-- Run written 0. In RUNNING the part is STOPPING, and every GRANTING or ALLOCATING port enters DRAINING in the order of
the command (log entry 2), with PORT_STATE, and goes on to STANDBY where its table is empty, as the spec has that entry; the
last port's entry, or having no port to drain, parks the part. So in the end every such port is DRAINING with its table
kept, or in STANDBY; the others keep their state; and the part is STOPPING, or PARKED with every port in STANDBY. In
STARTING, with the read in flight, the start is withdrawn; in PARKED and in STOPPING the stored value alone changes (R42 to
R44, R140, R144, R147). The order of an entry's notices, and what goes with the entry to PARKED, are the model's (log
entries 6 and 14). -/
def Obligations.StopDrainsEveryPort : Prop :=
  ∀ (s : State) (order : List Port),
    (s.win.mode = .parked ∨ s.win.mode = .stopping →
      exec (.stop order) s = .next { s with win := { s.win with run := false } }) ∧
    (s.win.mode = .starting → s.win.startRead = true →
      exec (.stop order) s = .next { s with win := { s.win with run := false, withdrawn := true } }) ∧
    (s.win.mode = .running →
    ∃ t, exec (.stop order) s = .next t ∧ t.win.run = false ∧ t.link = s.link ∧ t.conduct = s.conduct ∧
      (t.win.mode = .stopping ∨ t.win.mode = .parked ∧ ∀ p, (t.ports.get p).mode = .standby) ∧
      (∃ v, parksWhenDone v t ∧ enterDrainingInTurn
        ((namedFirst order).filter fun p =>
          decide ((s.ports.get p).mode = .granting ∨ (s.ports.get p).mode = .allocating))
        { s with win := { s.win with run := false, mode := .stopping } } v) ∧
      ∀ p, (t.ports.get p).table = (s.ports.get p).table ∧
        (t.ports.get p).mode =
          match (s.ports.get p).mode with
          | .standby => .standby
          | .draining => .draining
          | .allocating => if (s.ports.get p).table = [] then .standby else .draining
          | .granting => if (s.ports.get p).table = [] then .standby else .draining)

/-- The generation shown is 0, applied, staged, wanted or refused: the plan unit does nothing for it (R131). -/
def Sys2Proof.generationKnown (u : PlanUnit) (gen : Word32) : Prop :=
  gen = 0 ∨ gen = u.inForce.gen ∨ (∃ pl, u.staged = some pl ∧ gen = pl.gen) ∨ (∃ w, u.wanted = some w ∧ gen = w.gen) ∨
    u.refused = some gen

/-- What a read of the host half leaves of the plan unit: the hold flag taken, and, for a generation it does not know, that
generation wanted; its fetch starts where none is in flight, or, from an address that no fetch reads from, completes at
once, refused (R131, R133). -/
def Sys2Proof.planShown (u v : PlanUnit) (h : HostHalf) : Prop :=
  let held : PlanUnit := { u with hold := h.hold }
  let w : Wanted := { gen := h.planGen, addr := h.planAddr }
  let fetchable := h.planAddr.toNat ≠ 0 ∧ h.planAddr.toNat % 8 = 0
  (generationKnown u h.planGen → v = held) ∧
  (¬generationKnown u h.planGen → u.fetch.isSome = true → v = { held with wanted := some w }) ∧
  (¬generationKnown u h.planGen → u.fetch = none → fetchable →
    v = { held with wanted := some w, fetch := some { gen := h.planGen, addr := h.planAddr, data := [] } }) ∧
  (¬generationKnown u h.planGen → u.fetch = none → ¬fetchable →
    v = { held with wanted := none, fetched := h.planGen, refused := some h.planGen })

/-- The checks of R145 that follow the read, in their order, with the reason of the first that fails. -/
def Sys2Proof.startChecks (st : PartStatic) (h : HostHalf) (r : Option StartRefusal) : Prop :=
  let journal := st.journalBase.toNat ≠ 0 ∧ st.journalBase.toNat % 32 = 0 ∧
    ∃ k, 6 ≤ k ∧ k ≤ 15 ∧ st.capacity = 2 ^ k
  let usage := st.usageBase.toNat ≠ 0 ∧ st.usageBase.toNat % 64 = 0
  (r = none ∧ journal ∧ usage ∧ h.consumed = 0) ∨ (r = some .badJournal ∧ ¬journal) ∨
    (r = some .badUsageBase ∧ journal ∧ ¬usage) ∨ (r = some .journalCount ∧ journal ∧ usage ∧ h.consumed ≠ 0)

/-- The part-static area as read, by the offsets of 13.3 from its first byte at 0x040. -/
def Sys2Proof.staticsOf (bytes : List Byte) : PartStatic :=
  { journalBase := BitVec.ofNat 64 (field bytes 0 8), capacity := field bytes 8 4
    usageBase := BitVec.ofNat 64 (field bytes 16 8), signalAddr := BitVec.ofNat 64 (field bytes 24 8)
    signalValue := BitVec.ofNat 32 (field bytes 32 4) }

/-- The host half as read, by the offsets of 13.3. -/
def Sys2Proof.hostHalfOf (bytes : List Byte) : HostHalf :=
  { planAddr := BitVec.ofNat 64 (field bytes 0 8), planGen := BitVec.ofNat 32 (field bytes 8 4)
    hold := decide (field bytes 12 4 % 2 = 1), mask := BitVec.ofNat 32 (field bytes 16 4)
    consumed := BitVec.ofNat 32 (field bytes 20 4) }

/-- The plan unit refuses at once what a read of the host half shows: a generation it does not know, with no fetch in
flight, at an address that no fetch reads from (R131, R133). -/
def Sys2Proof.refusesAtOnce (u : PlanUnit) (h : HostHalf) : Prop :=
  ¬generationKnown u h.planGen ∧ u.fetch = none ∧ ¬(h.planAddr.toNat ≠ 0 ∧ h.planAddr.toNat % 8 = 0)

/-- The end of the read of STARTING, the control page read by the offsets of 13.3: a withdrawn start returns to PARKED with
the reason left as it was, a failed read or a failed check with its reason and nothing else changed. A start that passes
enters RUNNING: the part-static values in force, the journal restarted and its signal armed where the signal address is not
0; the host half taken, with PLAN_REFUSED where the plan unit refuses at once; a HALTED scan whose finding has a journal
position going on at the cell after it; the timer started in the sync state of its role, a FOLLOWER's being SEEKING; and
last the writing pass of the occasion, which ends with the part-half write (R116, R118, R120, R131, R133, R144 to R146,
R151, R157, R158). That a start with signal address 0 leaves the signal as it was, and that the notice carries the timer's
number, are read by inference (log entries 18 and 27). -/
def Obligations.StartReadEndsTheStart : Prop :=
  ∀ (s : State) (now : Moment), s.win.mode = .starting → s.win.startRead = true →
    let parked (r : StartRefusal) : State :=
      { s with win := { s.win with
          mode := .parked, run := false, refusal := r, startRead := false, withdrawn := false } }
    (s.win.withdrawn = true → ∀ r, exec (.startReadComplete r now) s = .next (parked s.win.refusal)) ∧
    (s.win.withdrawn = false → exec (.startReadComplete .failed now) s = .next (parked .readFailed)) ∧
    ∀ hb sb, s.win.withdrawn = false →
      let st := staticsOf sb
      let h := hostHalfOf hb
      (∀ r, startChecks st h (some r) → exec (.startReadComplete (.page hb sb) now) s = .next (parked r)) ∧
      (startChecks st h none →
        let signalAddr := if st.signalAddr.toNat % 4 = 0 then st.signalAddr else 0
        let timing := s.timer.pending.getD s.timer.timing
        let mem : MemSide := { s.mem with
          journalBase := st.journalBase, capacity := st.capacity, usageBase := st.usageBase, signalAddr := signalAddr
          signalValue := st.signalValue, signalMask := h.mask, produced := 0, consumed := 0, rewrite := none
          armed := s.mem.armed || decide (signalAddr ≠ 0) }
        ∃ u t, exec (.startReadComplete (.page hb sb) now) s = .next t ∧ passFallsDue u t .entry ∧
          u.win = { s.win with mode := .running, startRead := false, withdrawn := false } ∧
          (refusesAtOnce s.plans h → u.mem = posted mem (.planRefused h.planGen s.timer.epoch 0 .fetchFailed)) ∧
          (¬refusesAtOnce s.plans h → u.mem = mem) ∧ planShown s.plans u.plans h ∧
          (∀ f q, s.scan.state = .halted → s.scan.finding = some f → f.position = some q → u.scan =
            { state := .sweeping, cursor := Fin.ofNat 192 (f.cell.val + 1), finding := none, owed := s.scan.owed }) ∧
          (s.scan.state ≠ .halted ∨ s.scan.finding.bind Finding.position = none → u.scan = s.scan) ∧
          u.timer = { s.timer with
            running := true, last := some now, started := now, due := now + 1000 * timing.lengthUs, timing := timing
            pending := none, driving := none
            sync := match timing.role with | .alone => .alone | .leader => .leading | .follower => .seeking } ∧
          u.link = s.link ∧ u.ports = s.ports ∧ u.conduct = s.conduct ∧ u.pending = s.pending)

/-! ### The queue table and the link -/

/-- BIND of an unbound queue: bound under the first rule that matches its source on the port, on the lane that the rule's
treatment and the account's permission give; or, where no rule matches, left unbound with REFUSE UNCLASSIFIED placed where
there is room (R81 to R83). -/
def Obligations.BindOfAnUnboundQueue : Prop :=
  ∀ (s : State) (p : Port) (q : QueueId) (src : Word24) (lane : Lane), (s.queue p q).bound = false →
    let pl := s.plans.inForce
    let treated (r : Rule) : Lane :=
      match r.treatment with
      | .asBound => lane
      | .urgent => .urgent
      | .bulk => .bulk
    exec (.bind p q src lane) s = .next (
      match pl.rules.find? fun r => r.ports.get p && decide (src &&& r.mask = r.value &&& r.mask) with
      | none => { s with link := { s.link with output := placed s.link.output (.refuse p q .unclassified) } }
      | some r =>
        { s with ports := s.ports.set p { s.ports.get p with
            queues := (s.ports.get p).queues.set q
              { bound := true, source := src, requested := lane, account := r.account,
                lane := if (pl.accounts.get r.account).urgentPermitted then treated r else .bulk,
                tally := 0, waiting := false } } })

/-- BIND of a bound queue: no effect where its source and its requested lane equal those recorded. Where they differ, it is
refused QUEUE_BUSY with the binding kept if the queue has a nonzero tally or a LIVE grant; if it has neither, the old
binding is released and the BIND is taken as for the unbound queue (R84, R85). -/
def Obligations.BindOfABoundQueue : Prop :=
  ∀ (s : State) (p : Port) (q : QueueId) (src : Word24) (lane : Lane), (s.queue p q).bound = true →
    ((s.queue p q).source = src ∧ (s.queue p q).requested = lane → exec (.bind p q src lane) s = .next s) ∧
    (¬((s.queue p q).source = src ∧ (s.queue p q).requested = lane) →
      ((s.queue p q).tally ≠ 0 ∨ ∃ e ∈ (s.ports.get p).table, e.state = .live ∧ e.queue = q) →
      exec (.bind p q src lane) s =
        .next { s with link := { s.link with output := placed s.link.output (.refuse p q .queueBusy) } }) ∧
    (¬((s.queue p q).source = src ∧ (s.queue p q).requested = lane) → (s.queue p q).tally = 0 →
      (∀ e ∈ (s.ports.get p).table, e.state = .live → e.queue ≠ q) →
      ∃ u, exec (.unbind p q) s = .next u ∧ (u.queue p q).bound = false ∧
        exec (.bind p q src lane) s = exec (.bind p q src lane) u)

/-- UNBIND of a bound queue: the tally is discarded, the queue leaves its service list, the entry becomes unbound, and
nothing else changes: no reply, no change to the table, to another queue or to another list. An unbound queue: no effect
(R86). -/
def Obligations.UnbindReleasesTheQueue : Prop :=
  ∀ (s : State) (p : Port) (q : QueueId),
    ((s.queue p q).bound = false → exec (.unbind p q) s = .next s) ∧
    ((s.queue p q).bound = true →
      ∃ b : PortBlock, exec (.unbind p q) s = .next { s with ports := s.ports.set p b } ∧
        b.queues = (s.ports.get p).queues.set q { s.queue p q with bound := false, tally := 0, waiting := false } ∧
        (∀ l a, b.list l a =
          if (s.queue p q).waiting = true ∧ (s.queue p q).lane = l ∧ (s.queue p q).account = a then
            ((s.ports.get p).list l a).filter (· ≠ q)
          else (s.ports.get p).list l a) ∧
        b = { s.ports.get p with queues := b.queues, urgentLists := b.urgentLists, bulkLists := b.bulkLists })

/-- The reason for which R87 refuses a DEMAND, its cases tried in order; none: it is accepted. -/
def Sys2Proof.demandReason (s : State) (p : Port) (q : QueueId) : Option RefuseReason :=
  if (s.queue p q).bound = false then some .unbound
  else if (s.ports.get p).mode = .standby ∨ (s.ports.get p).mode = .draining then some .portClosed
  else if 256 ≤ (s.conduct.recs.get (s.queue p q).account).score then some .cutOff
  else if ∀ e ∈ s.plans.inForce.shares, ¬(e.port = p ∧ e.account = (s.queue p q).account) then some .noShare
  else none

/-- Demand seen for the account of a bound queue, with the quiet count of an account in CUT_OFF back at 0 (R89, R103). -/
def Sys2Proof.demandReported (s : State) (p : Port) (q : QueueId) : Tab 48 ConductRec :=
  if (s.queue p q).bound = true then
    s.conduct.recs.modify (s.queue p q).account fun r =>
      { r with demand := true, quiet := if 256 ≤ r.score then 0 else r.quiet }
  else s.conduct.recs

/-- A refused DEMAND raises the port's refused count, places REFUSE with its reason where there is room, is reported to the
conduct unit if its queue is bound, and changes nothing else (R80, R87, R89). -/
def Obligations.DemandRefusedByTheFirstCase : Prop :=
  ∀ (s : State) (p : Port) (q : QueueId) (units : Word16) (r : RefuseReason), demandReason s p q = some r →
    exec (.demand p q units) s = .next { s with
      ports := s.ports.set p { s.ports.get p with refused := min ((s.ports.get p).refused + 1) 4294967295 }
      conduct := { s.conduct with recs := demandReported s p q }
      link := { s.link with output := placed s.link.output (.refuse p q r) } }

/-- A DEMAND accepted in state `s` leaves `u` before any run: the tally raised, saturating, a queue that waited in no list
at the tail of its account's list for its lane, the demand reported, and nothing else changed (R88, R89). -/
def Sys2Proof.demandAccepted (s u : State) (p : Port) (q : QueueId) (units : Word16) : Prop :=
  let x := s.queue p q
  let tally := min 16777215 (x.tally + units.toNat)
  let joins := x.waiting = false ∧ 0 < tally
  ∃ b : PortBlock,
    u = { s with ports := s.ports.set p b, conduct := { s.conduct with recs := demandReported s p q } } ∧
    b.queues = (s.ports.get p).queues.set q { x with tally := tally, waiting := x.waiting || decide (0 < tally) } ∧
    (∀ l a, b.list l a =
      (s.ports.get p).list l a ++ if joins ∧ x.lane = l ∧ x.account = a then [q] else []) ∧
    b = { s.ports.get p with queues := b.queues, urgentLists := b.urgentLists, bulkLists := b.bulkLists }

/-- A DEMAND accepted in ALLOCATING raises the tally, saturating, puts a queue that waited in no list at the tail of its
account's list for its lane, is reported to the conduct unit, and issues nothing (R88, R89). -/
def Obligations.DemandAcceptedInAllocating : Prop :=
  ∀ (s : State) (p : Port) (q : QueueId) (units : Word16), demandReason s p q = none →
    (s.ports.get p).mode = .allocating →
    ∃ u, exec (.demand p q units) s = .next u ∧ demandAccepted s u p q units

/-- A DEMAND accepted in GRANTING raises its tally and queues as in ALLOCATING, and then makes the arbiter run, which ends
only when a grant cannot be issued; the run changes no other port, no allowance, and takes no message out of the output
queue (R51, R88). -/
def Obligations.GrantingPortRunsUntilNothingIsLeft : Prop :=
  ∀ (s : State) (p : Port) (q : QueueId) (units : Word16), demandReason s p q = none →
    (s.ports.get p).mode = .granting →
    ∃ u t, demandAccepted s u p q units ∧ t = u.arbiterRun p ∧
      exec (.demand p q units) s = .next t ∧ t.nothingToGrant p ∧ (t.ports.get p).mode = .granting ∧
      s.link.output <+: t.link.output ∧ (s.ports.get p).table <+: (t.ports.get p).table ∧
      (∀ p', p' ≠ p → t.ports.get p' = s.ports.get p') ∧
      (∀ a, (t.cell p a).allowance = (s.cell p a).allowance ∧ (s.cell p a).issued ≤ (t.cell p a).issued) ∧
      t.timer = s.timer ∧ t.plans = s.plans ∧ t.scan = s.scan ∧ t.mem = s.mem ∧ t.win = s.win

/-- The account may be served on a lane of a port: not in CUT_OFF, remaining allowance above 0, its list not empty (R53). -/
def Sys2Proof.mayServe (s : State) (p : Port) (l : Lane) (a : Account) : Prop :=
  (s.conduct.recs.get a).score < 256 ∧ (s.cell p a).issued < (s.cell p a).allowance ∧ (s.ports.get p).list l a ≠ []

/-- How many accounts a search that begins after `ptr` examines before `a`, wrapping from A47 to A0 (R53). -/
def Sys2Proof.searchPlace (ptr a : Account) : Nat := (a.val + 47 - ptr.val) % 48

/-- Whom the arbiter serves, and what serving does. The choice takes the URGENT lane if any account may be served on it, and
the BULK lane otherwise, and on its lane the first account that may be served after the lane's pointer. A run on a GRANTING
port with a free slot and room issues one grant to the chosen account and goes on, and ends where nobody is chosen. One
grant goes to the queue at the head of the chosen list, with its size and the seven effects of R54 (R51, R53, R54). -/
def Obligations.GrantTakesItsSevenEffects : Prop :=
  (∀ (s : State) (p : Port),
    match s.choose p with
    | none => ∀ l a, ¬mayServe s p l a
    | some (l, a) => mayServe s p l a ∧ (l = .bulk → ∀ c, ¬mayServe s p .urgent c) ∧
        ∀ c, mayServe s p l c → searchPlace ((s.ports.get p).ptr l) a ≤ searchPlace ((s.ports.get p).ptr l) c) ∧
  (∀ (s : State) (p : Port), (s.ports.get p).mode = .granting → (s.ports.get p).table.length < 32 →
    s.link.output.length < 64 →
    match s.choose p with
    | none => s.arbiterRun p = s
    | some (l, a) => s.arbiterRun p = (s.issueGrant p l a).arbiterRun p) ∧
  ∀ (s : State) (p : Port) (l : Lane) (a : Account) (q : QueueId) (rest : List QueueId),
    (s.ports.get p).list l a = q :: rest → s.link.output.length < 64 → (s.ports.get p).table.length < 32 →
    let b := s.ports.get p
    let size := min (s.queue p q).tally (min ((s.cell p a).allowance - (s.cell p a).issued) b.values.quantum)
    let left := (s.queue p q).tally - size
    let t := s.issueGrant p l a
    ∃ tag : Tag, (∀ e ∈ b.table, e.tag ≠ tag) ∧ (t.ports.get p).tagCounter = tag ∧
      (∀ n < (tag - b.tagCounter - 1).toNat, ∃ e ∈ b.table, e.tag = b.tagCounter + 1 + BitVec.ofNat 8 n) ∧
      (t.ports.get p).table = b.table ++
        [{ tag := tag, queue := q, account := a, units := size, issued := b.openEpoch, age := 0, state := .live }] ∧
      t.queue p q = { s.queue p q with tally := left, waiting := decide (0 < left) } ∧
      (∀ q', q' ≠ q → t.queue p q' = s.queue p q') ∧
      t.cell p a = { s.cell p a with issued := (s.cell p a).issued + size } ∧
      (∀ c, c ≠ a → t.cell p c = s.cell p c) ∧
      (∀ m c, (t.ports.get p).list m c =
        if m = l ∧ c = a then (if 0 < left then rest ++ [q] else rest) else b.list m c) ∧
      (∀ m, (t.ports.get p).ptr m = if m = l then a else b.ptr m) ∧
      t.link = { s.link with output := s.link.output ++ [.grant p tag q size] } ∧
      t.conduct.recs = s.conduct.recs.modify a (fun r => { r with activity := true }) ∧
      ∀ p', p' ≠ p → t.ports.get p' = s.ports.get p'

/-- A LEVEL replaces the raw level of its port, a level above 3 taken as 3, and changes nothing else (R33). -/
def Obligations.LevelReplacesTheRawLevel : Prop :=
  ∀ (s : State) (p : Port) (level : Byte),
    exec (.level p level) s = .next { s with ports := s.ports.set p { s.ports.get p with
      filter := { (s.ports.get p).filter with raw := Fin.ofNat 4 (min 3 level.toNat) } } }

/-- The bytes are those of this inbound message: the check of R69 in the last two, low byte first, and before it the kind,
the length and the fields of 13.7, the reserved bytes being any. -/
def Sys2Proof.carries (bytes : List Byte) (m : InMsg) : Prop :=
  2 ≤ bytes.length ∧
  bytes.drop (bytes.length - 2) = leBytes 2 (crc16 (bytes.take (bytes.length - 2))).toNat ∧
  match m with
  | .bind p q src l => bytes.length = 10 ∧ field bytes 0 1 = 0x01 ∧ field bytes 1 1 = p.val ∧ field bytes 2 1 = q.val ∧
      field bytes 3 1 = (match l with | .urgent => 0 | .bulk => 1) ∧ src = BitVec.ofNat 24 (field bytes 4 4)
  | .unbind p q => bytes.length = 6 ∧ field bytes 0 1 = 0x02 ∧ field bytes 1 1 = p.val ∧ field bytes 2 1 = q.val
  | .demand p q u => bytes.length = 8 ∧ field bytes 0 1 = 0x03 ∧ field bytes 1 1 = p.val ∧ field bytes 2 1 = q.val ∧
      u.toNat = field bytes 4 2
  | .close p t u => bytes.length = 8 ∧ field bytes 0 1 = 0x04 ∧ field bytes 1 1 = p.val ∧ t.toNat = field bytes 2 1 ∧
      u.toNat = field bytes 4 2
  | .level p l => bytes.length = 6 ∧ field bytes 0 1 = 0x05 ∧ field bytes 1 1 = p.val ∧ l.toNat = field bytes 2 1

/-- The link interface hands on a message exactly where its bytes carry an inbound message of 13.7: its check, one of the
five inbound kinds, the length of that kind, a port of P0 to P3, a queue of 0 to 127, a lane that is one. Every other
message raises the link discard count by 1, wrapping, and changes nothing else (R68, R69). That INBOUND_DISCARD with a
message that passes changes nothing is the model's (log entry 5): such a message is one of the other commands. -/
def Obligations.DiscardsAreCounted : Prop :=
  (∀ (bytes : List Byte) (m : InMsg), judgeInbound bytes = some m ↔ carries bytes m) ∧
  ∀ (s : State) (bytes : List Byte),
    ((∀ m, ¬carries bytes m) →
      exec (.inboundDiscard bytes) s = .next { s with link := { s.link with discards := s.link.discards + 1 } }) ∧
    (∀ m, carries bytes m → exec (.inboundDiscard bytes) s = .next s)

/-- The link interface hands on every message of 13.7 with the fields it was sent with, and so discards none of them
(R68 to R70). -/
def Obligations.InboundMessagesRoundTrip : Prop :=
  ∀ m : InMsg, judgeInbound m.wire = some m

/-- The bytes hold these values, each little-endian at its offset and in its size, and 0 in every other byte (R164). A field
is its offset, its size and its value. -/
def Sys2Proof.laidOut (bytes : List Byte) (fields : List (Nat × Nat × Nat)) : Prop :=
  (∀ f ∈ fields, field bytes f.1 f.2.1 = f.2.2 % 256 ^ f.2.1) ∧
  ∀ i < bytes.length, (∀ f ∈ fields, i < f.1 ∨ f.1 + f.2.1 ≤ i) → field bytes i 1 = 0

/-- A set of ports, with the part or without, as bits 0 to 4 (13.1). -/
def Sys2Proof.flagBits (ports : Port → Bool) (part : Bool) : Nat :=
  ((List.finRange 4).map fun p => if ports p then 2 ^ p.val else 0).sum + if part then 16 else 0

/-- The codes of 13.1 that the part writes. -/
def Sys2Proof.codesOfTheManual : Prop :=
  [PartMode.parked, .starting, .running, .stopping].map PartMode.code = [0, 1, 2, 3] ∧
  [MemMode.serving, .faulted].map MemMode.code = [0, 1] ∧
  [Region.none, .controlPage, .journal, .usageTable].map Region.code = [0, 1, 2, 3] ∧
  [StartRefusal.none, .baseInvalid, .readFailed, .badJournal, .badUsageBase, .journalCount].map StartRefusal.code =
    [0, 1, 2, 3, 4, 5] ∧
  [SyncState.alone, .leading, .seeking, .locked].map SyncState.code = [0, 1, 2, 3] ∧
  [PortMode.standby, .allocating, .granting, .draining].map PortMode.code = [0, 1, 2, 3] ∧
  [Conduct.good, .warned, .restricted, .cutOff].map Conduct.code = [0, 1, 2, 3] ∧
  [PlanFault.torn, .count, .index, .duplicateCell, .capacityZero, .fetchFailed].map PlanFault.code = [1, 2, 3, 4, 5, 6] ∧
  [SyncChange.locked, .lost].map SyncChange.code = [1, 2] ∧
  [RefuseReason.unbound, .unclassified, .queueBusy, .portClosed, .cutOff, .noShare].map RefuseReason.code =
    [1, 2, 3, 4, 5, 6]

/-- The fields of an outbound message before its check (13.7). -/
def Sys2Proof.messageFields : OutMsg → List (Nat × Nat × Nat)
  | .grant p t q u => [(0, 1, 0x11), (1, 1, p.val), (2, 1, t.toNat), (3, 1, q.val), (4, 2, u)]
  | .revoke p t => [(0, 1, 0x12), (1, 1, p.val), (2, 1, t.toNat)]
  | .refuse p q r => [(0, 1, 0x13), (1, 1, p.val), (2, 1, q.val), (3, 1, r.code)]

/-- The kind and the body's fields of a journal record, by their offsets in the record (R166). -/
def Sys2Proof.bodyFields : JournalItem → List (Nat × Nat × Nat)
  | .notice (.planApplied g e t c d part) =>
    [(0, 1, 2), (4, 4, g.toNat), (8, 4, e.toNat), (12, 2, t.toNat), (14, 2, c), (16, 1, flagBits (fun p => d.get p) part)]
  | .notice (.planRefused g e t r) => [(0, 1, 3), (4, 4, g.toNat), (8, 4, e.toNat), (12, 2, t.toNat), (14, 1, r.code)]
  | .notice (.deferredApplied g e none) => [(0, 1, 4), (4, 4, g.toNat), (8, 4, e.toNat), (12, 1, 4)]
  | .notice (.deferredApplied g e (some p)) => [(0, 1, 4), (4, 4, g.toNat), (8, 4, e.toNat), (12, 1, p.val)]
  | .notice (.conductChange a old new score e) =>
    [(0, 1, 5), (4, 1, a.val), (5, 1, old.code), (6, 1, new.code), (8, 2, score), (12, 4, e.toNat)]
  | .notice (.starvationFinding p a count floor net e) =>
    [(0, 1, 6), (4, 1, p.val), (5, 1, a.val), (6, 1, count), (8, 4, floor), (12, 4, net), (16, 4, e.toNat)]
  | .notice (.syncChange c e before) => [(0, 1, 7), (4, 1, c.code), (8, 4, e.toNat), (12, 4, before.toNat)]
  | .notice (.portState p left entered e) =>
    [(0, 1, 8), (4, 1, p.val), (5, 1, left.code), (6, 1, entered.code), (8, 4, e.toNat)]
  | .notice (.memoryResumed r e) => [(0, 1, 9), (4, 1, r.code), (8, 4, e.toNat)]
  | .first _ r =>
    [(0, 1, 1), (4, 1, r.port.val), (5, 1, r.mode.code), (6, 1, r.accepted.val), (8, 4, r.firstEpoch.toNat),
      (12, 2, r.covered), (16, 4, r.effective), (20, 4, r.allocated), (24, 4, r.issuedNet), (28, 4, r.used)]
  | .continuation _ r =>
    [(0, 1, 1), (1, 1, 1), (4, 4, r.idle), (8, 4, r.overrun), (12, 4, r.expiries), (16, 4, r.late), (20, 4, r.stray),
      (24, 4, r.refused), (28, 1, r.port.val)]

/-- Everything the part writes is laid out as chapter 13 has it, its reserved bytes 0, with the codes of 13.1: every
outbound message, with its check in its last two bytes, so that a receiver under R68 discards it only as an outbound kind;
every journal record, with the low 16 bits of its count; the part half of the control page; and the headers and rows of a
usage statement (R69, R164, R166). That the part's deferred flag also shows pending timing is read from R127 by inference
(log entry 16). -/
def Obligations.LayoutsOfWhatThePartWrites : Prop :=
  codesOfTheManual ∧
  (∀ m : OutMsg, m.wire.length = (match m with | .grant .. => 8 | .revoke .. => 6 | .refuse .. => 6) ∧
    checkPasses m.wire = true ∧ judgeInbound m.wire = none ∧
    let n := m.wire.length - 2
    laidOut m.wire (messageFields m ++ [(n, 2, (crc16 (m.wire.take n)).toNat)])) ∧
  (∀ (i : JournalItem) (count : Word32), (i.bytes count).length = 32 ∧
    laidOut (i.bytes count) ((2, 2, count.toNat) :: bodyFields i)) ∧
  (∀ (s : State) (m : PartMode), (s.partHalfBytes m).length = 64 ∧
    laidOut (s.partHalfBytes m) (
      ((List.finRange 4).map fun p => (4 + p.val, 1, (s.ports.get p).mode.code)) ++
      [(0, 1, m.code), (2, 1, s.timer.sync.code),
        (3, 1, flagBits (fun p => (s.ports.get p).deferred.isSome) (s.plans.partDeferred.isSome || s.timer.pending.isSome)),
        (8, 4, s.timer.epoch.toNat), (12, 4, s.plans.inForce.gen.toNat), (16, 2, s.plans.inForce.tag.toNat),
        (20, 4, s.plans.appliedEpoch.toNat), (24, 4, s.plans.fetched.toNat),
        (28, 4, match s.plans.staged with | none => 0 | some pl => pl.gen.toNat),
        (32, 4, s.mem.produced.toNat), (36, 4, s.mem.lapsed.toNat), (40, 4, s.link.discards.toNat)])) ∧
  (∀ (n : Word32) (e : Epoch), (usageHeader n e).length = 64 ∧
    laidOut (usageHeader n e) [(0, 4, n.toNat), (4, 4, e.toNat)]) ∧
  (∀ c : Cell, c.row.length = 64 ∧ laidOut c.row
    [(0, 8, c.cumAllocated.toNat), (8, 8, c.cumIssued.toNat), (16, 8, c.cumUsed.toNat), (24, 8, c.cumOverrun.toNat),
      (32, 4, c.cumExpiries.toNat), (36, 4, c.allowance), (40, 4, c.credit), (44, 2, c.ramp.weight), (46, 1, c.starved)]) ∧
  ∀ r : ConductRec, r.row.length = 16 ∧
    laidOut r.row [(0, 2, r.score), (2, 1, (stateAt r.score).code), (3, 1, r.quiet)]

/-- The free transmitter takes the head of the output queue as its bytes on the link; what waited behind it keeps its
order, the arbiter of every GRANTING port runs, port after port in the order of the command (log entry 2), until nothing is
left to grant there, and a part with no port GRANTING changes nothing else (R73, R51, R55). -/
def Obligations.TransmitterTakesTheHead : Prop :=
  ∀ (s : State) (order : List Port) (m : OutMsg) (rest : List OutMsg), s.link.output = m :: rest →
    let sent : State := { s with link := { s.link with output := rest, sending := some m.wire } }
    ∃ t, exec (.transmitMessage order) s = .next t ∧
      t = ((namedFirst order).filter fun p => decide ((s.ports.get p).mode = .granting)).foldl
        (fun u p => u.arbiterRun p) sent ∧
      t.link.sending = some m.wire ∧ t.link.discards = s.link.discards ∧ rest <+: t.link.output ∧
      (∀ p, (t.ports.get p).mode = (s.ports.get p).mode) ∧
      (∀ p, (s.ports.get p).mode ≠ .granting → t.ports.get p = s.ports.get p) ∧
      (∀ p, (s.ports.get p).mode = .granting → t.nothingToGrant p) ∧
      ((∀ p, (s.ports.get p).mode ≠ .granting) → t = sent) ∧
      t.timer = s.timer ∧ t.plans = s.plans ∧ t.scan = s.scan ∧ t.mem = s.mem ∧ t.win = s.win

/-! ### Closes, expiry and draining -/

/-- CLOSE of a LIVE entry with used units within its grant: the entry is removed, the used units are counted, and the return
lowers issued net exactly where the entry was issued in the open epoch. In ALLOCATING, and in DRAINING with other entries in
the table, nothing more happens; in GRANTING the arbiter then runs, until nothing is left to grant (R51, R56, R65). -/
def Obligations.CloseReturnsUnusedUnits : Prop :=
  ∀ (s : State) (p : Port) (t : Tag) (used : Word16) (ff : Bool) (sched : List Port) (e : Entry),
    (s.ports.get p).table.find? (fun x => decide (x.tag = t)) = some e → e.state = .live → used.toNat ≤ e.units →
    let u : State := { s with ports := s.ports.set p { s.ports.get p with
      table := (s.ports.get p).table.filter (fun x => decide (x.tag ≠ t))
      counts := { (s.ports.get p).counts with
        used := min ((s.ports.get p).counts.used + used.toNat) 4294967295 }
      cells := (s.ports.get p).cells.modify e.account fun c => { c with
        cumUsed := c.cumUsed + BitVec.ofNat 64 used.toNat
        issued := if e.issued = (s.ports.get p).openEpoch then c.issued - (e.units - used.toNat) else c.issued } } }
    ((s.ports.get p).mode = .allocating → exec (.close p t used ff sched) s = .next u) ∧
    ((s.ports.get p).mode = .draining → (u.ports.get p).table ≠ [] → exec (.close p t used ff sched) s = .next u) ∧
    ((s.ports.get p).mode = .granting →
      exec (.close p t used ff sched) s = .next (u.arbiterRun p) ∧ (u.arbiterRun p).nothingToGrant p ∧
      (u.nothingToGrant p → u.arbiterRun p = u))

/-- What a charge that reaches 256 leaves of a part in state `s` (R18, R63, R102): the account's record in CUT_OFF and
announced; on every port its credit 0, its allowance set to its issued net or the allocation in flight marked, its LIVE
entries LAPSED with age 0 (there is nothing to revoke in STANDBY), its queues' tallies 0 and its service lists empty; the
REVOKEs of each port in the order of their tags, as many as the output queue has room for; and nothing else changed. -/
def Sys2Proof.cutsOff (s t : State) (a : Account) : Prop :=
  (t.conduct.recs.get a = { s.conduct.recs.get a with score := 256, quiet := 0, fault := true, demand := false }) ∧
  (∀ x, x ≠ a → t.conduct.recs.get x = s.conduct.recs.get x) ∧ t.conduct.owed = s.conduct.owed ∧
  t.mem = posted s.mem (.conductChange a (stateAt (s.conduct.recs.get a).score) .cutOff 256 s.timer.epoch) ∧
  (∀ p, let b := s.ports.get p
    let c := t.ports.get p
    c = { b with
      cells := c.cells, inFlight := c.inFlight, table := c.table, queues := c.queues, urgentLists := c.urgentLists,
      bulkLists := c.bulkLists } ∧
    (∀ x, c.cells.get x =
      if x = a then { b.cells.get a with
        credit := 0
        allowance := if b.inFlight.isSome then (b.cells.get a).allowance else (b.cells.get a).issued }
      else b.cells.get x) ∧
    (b.inFlight = none → c.inFlight = none) ∧
    (∀ al, b.inFlight = some al →
      ∃ marked, c.inFlight = some { al with marked := marked } ∧ ∀ x, x ∈ marked ↔ x ∈ al.marked ∨ x = a) ∧
    c.table = (if b.mode = .standby then b.table else
      b.table.map fun e => if e.state = .live ∧ e.account = a then { e with state := .lapsed, age := 0 } else e) ∧
    (∀ q, c.queues.get q =
      if (b.queues.get q).bound = true ∧ (b.queues.get q).account = a then
        { b.queues.get q with tally := 0, waiting := false }
      else b.queues.get q) ∧
    ∀ l x, c.list l x = if x = a then [] else b.list l x) ∧
  (∃ revoked : List (Port × Tag),
    (∀ p, let tags := (revoked.filter fun m => decide (m.1 = p)).map Prod.snd
      tags.Pairwise (· ≤ ·) ∧
      tags.Perm (if (s.ports.get p).mode = .standby then [] else
        ((s.ports.get p).table.filter fun e => decide (e.state = .live ∧ e.account = a)).map Entry.tag)) ∧
    t.link = { s.link with output := s.link.output ++
      (revoked.map fun m => OutMsg.revoke m.1 m.2).take (64 - s.link.output.length) }) ∧
  t.timer = s.timer ∧ t.plans = s.plans ∧ t.scan = s.scan ∧ t.win = s.win ∧ t.pending = s.pending

/-- What a charge leaves of a part in state `s` (R98, R107): fault seen; where the account was in CUT_OFF already, nothing
more; where the charge reaches 256, the cut-off; and otherwise the score raised, with CONDUCT_CHANGE where it goes from one
state's scores to another's. -/
def Sys2Proof.charged (s t : State) (a : Account) (amount : Nat) : Prop :=
  let r := s.conduct.recs.get a
  let score := r.score + amount
  let marked (r : ConductRec) : ConductUnit :=
    { s.conduct with recs := s.conduct.recs.set a { r with fault := true } }
  if 256 ≤ r.score then t = { s with conduct := marked r }
  else if 256 ≤ score then cutsOff s t a
  else t = { s with
    conduct := marked { r with score := score }
    mem :=
      if stateAt score = stateAt r.score then s.mem
      else posted s.mem (.conductChange a (stateAt r.score) (stateAt score) score s.timer.epoch) }

/-- CLOSE of a LIVE entry with an overrun, in every port state and at every score: the entry is removed, the used units and
the overrun are counted, no return lowers any issued net, and the account is charged 8, with CONDUCT_CHANGE where that goes
from one state to another and a cut-off where it reaches 256. The charge comes after or before what the removal starts, an
arbiter run in GRANTING and in DRAINING the entry to STANDBY of an empty table, as the command says (R18, R43, R51, R57,
R63, R64, R98, R102, R107; log entry 15). -/
def Obligations.OverrunIsChargedToTheAccount : Prop :=
  ∀ (s : State) (p : Port) (t : Tag) (used : Word16) (ff : Bool) (sched : List Port) (e : Entry),
    (s.ports.get p).table.find? (fun x => decide (x.tag = t)) = some e → e.state = .live → e.units < used.toNat →
    let b := s.ports.get p
    let counts : Counts := { b.counts with
      used := min (b.counts.used + used.toNat) 4294967295
      overrun := min (b.counts.overrun + (used.toNat - e.units)) 4294967295 }
    let removed : State := { s with ports := s.ports.set p { b with
      table := b.table.filter (fun x => decide (x.tag ≠ t))
      counts := counts
      cells := b.cells.modify e.account fun c => { c with
        cumUsed := c.cumUsed + BitVec.ofNat 64 used.toNat
        cumOverrun := c.cumOverrun + BitVec.ofNat 64 (used.toNat - e.units) } } }
    ∃ u, exec (.close p t used ff sched) s = .next u ∧
      (ff = true → ∃ v, removalTaken removed v p ∧ charged v u e.account 8) ∧
      (ff = false → ∃ v, charged removed v e.account 8 ∧ removalTaken v u p) ∧
      (∀ a, (u.conduct.recs.get a).score =
        if a = e.account ∧ (s.conduct.recs.get a).score < 256 then min 256 ((s.conduct.recs.get a).score + 8)
        else (s.conduct.recs.get a).score) ∧
      (u.conduct.recs.get e.account).fault = true ∧
      (∀ a, (u.cell p a).cumUsed =
        (s.cell p a).cumUsed + if a = e.account then BitVec.ofNat 64 used.toNat else 0) ∧
      (∀ a, (u.cell p a).cumOverrun =
        (s.cell p a).cumOverrun + if a = e.account then BitVec.ofNat 64 (used.toNat - e.units) else 0) ∧
      (b.mode = .allocating ∨ b.mode = .granting →
        (u.ports.get p).counts = counts ∧ (∀ a, (s.cell p a).issued ≤ (u.cell p a).issued) ∧ u.timer = s.timer ∧
        u.plans = s.plans ∧ u.win = s.win)

/-- A late close: the entry is removed, the late close and the used units are counted, and the close itself changes nothing
else, not even for used units above the grant. What a removal starts follows: in GRANTING the arbiter runs, until nothing
is left to grant; in DRAINING an empty table brings the port to STANDBY; in every other case nothing follows (R43, R51,
R58). -/
def Obligations.LateCloseIsOnlyCounted : Prop :=
  ∀ (s : State) (p : Port) (t : Tag) (used : Word16) (ff : Bool) (sched : List Port) (e : Entry),
    (s.ports.get p).table.find? (fun x => decide (x.tag = t)) = some e → e.state = .lapsed →
    let b := s.ports.get p
    let left := b.table.filter (fun x => decide (x.tag ≠ t))
    let u : State := { s with ports := s.ports.set p { b with
      table := left
      counts := { b.counts with
        used := min (b.counts.used + used.toNat) 4294967295
        late := min (b.counts.late + 1) 4294967295 }
      cells := b.cells.modify e.account fun c => { c with cumUsed := c.cumUsed + BitVec.ofNat 64 used.toNat } } }
    (b.mode = .allocating ∨ b.mode = .standby ∨ b.mode = .draining ∧ left ≠ [] →
      exec (.close p t used ff sched) s = .next u) ∧
    (b.mode = .granting →
      exec (.close p t used ff sched) s = .next (u.arbiterRun p) ∧ (u.arbiterRun p).nothingToGrant p) ∧
    (b.mode = .draining → left = [] → ∃ v, exec (.close p t used ff sched) s = .next v ∧ entersStandby u v p)

/-- A stray close, in every port state: one stray close is counted, and nothing else happens: no run, no units counted, no
charge (R59, R60). -/
def Obligations.StrayCloseIsOnlyCounted : Prop :=
  ∀ (s : State) (p : Port) (t : Tag) (used : Word16) (ff : Bool) (sched : List Port),
    (∀ e ∈ (s.ports.get p).table, e.tag ≠ t) →
    exec (.close p t used ff sched) s = .next { s with ports := s.ports.set p { s.ports.get p with
      counts := { (s.ports.get p).counts with stray := min ((s.ports.get p).counts.stray + 1) 4294967295 } } }

/-- What the entry of a DRAINING port to STANDBY does with deferred slots, where nothing else is posted: PORT_STATE and the
DEFERRED_APPLIED of the port's slot and, where every port is then in STANDBY, of the part's, whose values the timer takes as
pending timing and which is then empty; with the notice queue full all of it happens the same, and what does not fit is
counted (R44, R127, R140, R154). -/
def Sys2Proof.slotsTaken (s t : State) (p : Port) : Prop :=
  let part := if ∀ p', p' ≠ p → (s.ports.get p').mode = .standby then s.plans.partDeferred else none
  let applied (gen : Word32) (unit : Option Port) : Notice := .deferredApplied gen s.timer.epoch unit
  posts s.mem t.mem ([.portState p .draining .standby s.timer.epoch] ++
    (match (s.ports.get p).deferred with | none => [] | some d => [applied d.gen (some p)]) ++
    (match part with | none => [] | some d => [applied d.gen none])) ∧
  t.plans.partDeferred = (if part.isSome = true then none else s.plans.partDeferred) ∧
  t.timer.pending = match part with
    | none => s.timer.pending
    | some d => if d.timing = s.timer.timing then none else some d.timing

/-- The close that empties a DRAINING port's table, late or within its grant, brings the port to STANDBY: tallies and
service lists cleared with the bindings kept, the open epoch's figures added to the cumulative counters and set to 0, the
level filter emptied with its raw level kept, the epoch's report handed over with the port state STANDBY, the epoch counts
cleared, the deferred values in force, and PORT_STATE posted. DEFERRED_APPLIED announces the port's slot where it held
values, and, where every port is now in STANDBY, the part's, whose values are handed to the timer as pending timing; and the
last port of a STOPPING part parks it. With the notice queue full, or filling up on the way, all of it happens the same and
each notice that does not fit is counted (R25, R39, R43, R44, R127, R140, R147, R154, R155). That PORT_STATE is the first
notice of the entry is read from R43 by inference (log entry 14), and so is the epoch number it carries (log entry 27); that
timing already in force leaves nothing pending, and what goes with PARKED, are inferences too (log entries 6 and 17). -/
def Obligations.LastCloseOfADrainingPort : Prop :=
  ∀ (s : State) (p : Port) (t : Tag) (used : Word16) (ff : Bool) (sched : List Port) (e : Entry),
    (s.ports.get p).mode = .draining → (s.ports.get p).table = [e] → e.tag = t →
    e.state = .lapsed ∨ e.state = .live ∧ used.toNat ≤ e.units →
    ∃ u, exec (.close p t used ff sched) s = .next u ∧
      let b := s.ports.get p
      let c := u.ports.get p
      let net (a : Account) : Nat :=
        if e.state = .live ∧ a = e.account ∧ e.issued = b.openEpoch then (b.cells.get a).issued - (e.units - used.toNat)
        else (b.cells.get a).issued
      let sat (n : Nat) : Nat := min n 4294967295
      let allocated : Nat := ((List.finRange 48).map fun a => (b.cells.get a).allowance).sum
      c.mode = .standby ∧ c.table = [] ∧ (∀ l a, c.list l a = []) ∧
      (∀ q, c.queues.get q = { b.queues.get q with tally := 0, waiting := false }) ∧
      (∀ a, (c.cells.get a).allowance = 0 ∧ (c.cells.get a).issued = 0 ∧ (c.cells.get a).starved = 0 ∧
        (c.cells.get a).reported = false ∧ (c.cells.get a).credit = (b.cells.get a).credit ∧
        (c.cells.get a).cumAllocated = (b.cells.get a).cumAllocated + BitVec.ofNat 64 (b.cells.get a).allowance ∧
        (c.cells.get a).cumIssued = (b.cells.get a).cumIssued + BitVec.ofNat 64 (net a)) ∧
      c.filter = { raw := b.filter.raw, history := [], accepted := 0 } ∧ c.served = false ∧
      c.counts = { used := 0, overrun := 0, expiries := 0, late := 0, stray := 0 } ∧
      (∃ r : Report,
        (¬reportBeingWritten s.mem p → u.mem.slots.get p =
          { held := some (mergedInto (s.mem.slots.get p).held r), waiting := (s.mem.slots.get p).waiting }) ∧
        (reportBeingWritten s.mem p → u.mem.slots.get p =
          { held := (s.mem.slots.get p).held, waiting := some (mergedInto (s.mem.slots.get p).waiting r) }) ∧
        r.port = p ∧ r.mode = .standby ∧ r.firstEpoch = b.openEpoch ∧ r.covered = 1 ∧
        r.effective = sat b.totals.effective ∧ r.allocated = sat allocated ∧
        r.issuedNet = sat ((List.finRange 48).map net).sum ∧ r.idle = sat (b.totals.effective - allocated) ∧
        r.used = sat (b.counts.used + used.toNat) ∧ r.overrun = b.counts.overrun ∧ r.expiries = b.counts.expiries ∧
        r.late = (if e.state = .lapsed then sat (b.counts.late + 1) else b.counts.late) ∧ r.stray = b.counts.stray ∧
        r.refused = b.refused) ∧
      c.values = (match b.deferred with | none => b.values | some d => d.values) ∧ c.deferred = none ∧
      (s.mem.notices.length < 32 →
        (s.mem.notices ++ [.portState p .draining .standby s.timer.epoch]) <+: u.mem.notices) ∧
      slotsTaken s u p ∧
      entersStandby
        { s with ports := s.ports.set p { b with
            table := []
            counts := { b.counts with
              used := sat (b.counts.used + used.toNat)
              late := if e.state = .lapsed then sat (b.counts.late + 1) else b.counts.late }
            cells := b.cells.modify e.account fun x => { x with
              cumUsed := x.cumUsed + BitVec.ofNat 64 used.toNat
              issued := if e.state = .live ∧ e.issued = b.openEpoch then x.issued - (e.units - used.toNat)
                else x.issued } } } u p ∧
      u.link = s.link ∧ u.conduct = s.conduct ∧ ∀ p', p' ≠ p → (u.ports.get p').mode = (s.ports.get p').mode

/-- A LIVE entry has expired on its port, and its account is not charged yet: it is LAPSED with age 0, and the expiry is
counted for the port and for its cell (R61). -/
def Sys2Proof.expired (s : State) (p : Port) (e : Entry) : State :=
  let b := s.ports.get p
  { s with ports := s.ports.set p { b with
    table := b.table.map fun x => if x.tag = e.tag then { x with state := .lapsed, age := 0 } else x
    counts := { b.counts with expiries := min (b.counts.expiries + 1) 4294967295 }
    cells := b.cells.modify e.account fun c => { c with cumExpiries := c.cumExpiries + 1 } } }

/-- A port's table without the entry of this tag. -/
def Sys2Proof.entryRemoved (s : State) (p : Port) (t : Tag) : State :=
  { s with ports := s.ports.set p { s.ports.get p with
    table := (s.ports.get p).table.filter (fun x => decide (x.tag ≠ t)) } }

/-- Stage 4's examination of the entry with this tag: one that is younger than the lifetime in force stays, a LIVE one that
has reached it expires and charges its account 4, and a LAPSED one is removed (R61, R98). -/
def Sys2Proof.examined (s t : State) (p : Port) (g : Tag) : Prop :=
  match (s.ports.get p).table.find? (fun x => decide (x.tag = g)) with
  | none => t = s
  | some e =>
    if e.age < (s.ports.get p).values.life then t = s
    else
      match e.state with
      | .live => charged (expired s p e) t e.account 4
      | .lapsed => t = entryRemoved s p g

/-- These entries are examined one after another. -/
def Sys2Proof.examinedInTurn (p : Port) : List Tag → State → State → Prop
  | [], s, t => t = s
  | g :: gs, s, t => ∃ u, examined s u p g ∧ examinedInTurn p gs u t

/-- Stage 4's examination of one entry whose age has reached the lifetime in force: a LIVE one lapses with age 0, is counted
for the port and its cell, and charges its account 4, with CONDUCT_CHANGE where that goes from one state to another and a
cut-off where it reaches 256 (R18, R63, R98, R102, R107); a LAPSED one is removed with nothing else changed, but that a
DRAINING port it leaves with an empty table enters STANDBY (R43); and neither examination changes an entry that is younger
or in the other state (R61). That one entry's examination also comes as a command of its own is the model's choice (log
entry 11). -/
def Obligations.StageFourExaminesOneEntry : Prop :=
  ∀ (s : State) (p : Port) (t : Tag) (sched : List Port) (e : Entry),
    (s.ports.get p).table.find? (fun x => decide (x.tag = t)) = some e →
    (e.state = .live → (s.ports.get p).values.life ≤ e.age →
      ∃ u, exec (.grantExpiry p t sched) s = .next u ∧ charged (expired s p e) u e.account 4 ∧
        (∃ x ∈ (u.ports.get p).table, x = { e with state := .lapsed, age := 0 }) ∧
        (u.ports.get p).table.length = (s.ports.get p).table.length ∧
        (u.ports.get p).counts = { (s.ports.get p).counts with
          expiries := min ((s.ports.get p).counts.expiries + 1) 4294967295 } ∧
        (u.cell p e.account).cumExpiries = (s.cell p e.account).cumExpiries + 1 ∧
        (∀ a, (u.conduct.recs.get a).score =
          if a = e.account ∧ (s.conduct.recs.get a).score < 256 then min 256 ((s.conduct.recs.get a).score + 4)
          else (s.conduct.recs.get a).score)) ∧
    (e.state = .lapsed → (s.ports.get p).values.life ≤ e.age →
      let u := entryRemoved s p t
      ((s.ports.get p).mode ≠ .draining ∨ (u.ports.get p).table ≠ [] → exec (.lapsedEntryRemoval p t) s = .next u) ∧
      ((s.ports.get p).mode = .draining → (u.ports.get p).table = [] →
        ∃ v, exec (.lapsedEntryRemoval p t) s = .next v ∧ entersStandby u v p)) ∧
    (¬(e.state = .live ∧ (s.ports.get p).values.life ≤ e.age) → exec (.grantExpiry p t sched) s = .next s) ∧
    (¬(e.state = .lapsed ∧ (s.ports.get p).values.life ≤ e.age) → exec (.lapsedEntryRemoval p t) s = .next s)

/-! ### The epoch timer -/

/-- What a boundary that begins epoch `e` leaves: the epoch number and the last boundary set before any block takes it, the
boundary owed by every block that takes boundaries, the plan unit's with the hold flag as last read and whether a plan is
staged (R137), and nothing taken yet: ports, scores, plan and queues as they were (R121). A SERVING memory side starts its
read, which replaces one still in flight (R150); a boundary so replaced makes its part-half write, if it was to make one
and the final one is not due (R151; log entry 35). -/
def Sys2Proof.boundaryMade (s t : State) (now : Moment) (e : Epoch) : Prop :=
  t.timer.epoch = e ∧ t.timer.last = some now ∧ t.timer.running = s.timer.running ∧
  (∀ p, t.ports.get p = { s.ports.get p with
    closeOwed := (s.ports.get p).closeOwed ++ [e], changeOwed := (s.ports.get p).changeOwed ++ [e] }) ∧
  t.conduct = { s.conduct with owed := s.conduct.owed ++ [e] } ∧ t.scan = { s.scan with owed := s.scan.owed ++ [e] } ∧
  t.plans = { s.plans with
    owed := s.plans.owed ++ [{ epoch := e, hold := s.plans.hold, ripe := s.plans.staged.isSome }] } ∧
  t.mem.stmtOwed = s.mem.stmtOwed ++ [e] ∧
  (s.mem.mode = .serving → t.mem.read =
    some { resumption := s.mem.read.any HostRead.resumption, writes := s.mem.partHalf.isNone }) ∧
  (s.mem.mode = .faulted → t.mem.read = s.mem.read) ∧
  (∀ r, s.mem.mode = .serving → s.mem.read = some r → r.writes = true → s.mem.partHalf = none →
    s.mem.finalDue = false → t.mem.partHalf.isSome = true) ∧
  t.mem.produced = s.mem.produced ∧ t.link = s.link ∧ t.win = s.win

/-- The length, role, sync state and next own boundary after a boundary made at `now`: those of before, with the own
boundary at `due`, or, where pending timing is adopted at it, the new ones with the sync state of R127's table. -/
def Sys2Proof.adopted (s t : State) (now due : Moment) : Prop :=
  t.timer.pending = none ∧
  match s.timer.pending with
  | none => t.timer.timing = s.timer.timing ∧ t.timer.due = due
  | some n =>
    t.timer.timing = n ∧ t.timer.due = now + 1000 * n.lengthUs ∧
    match n.role with
    | .alone => t.timer.sync = .alone
    | .leader => t.timer.sync = .leading
    | .follower => s.timer.timing.role ≠ .follower → t.timer.sync = .seeking

/-- The part's own timer makes a boundary at its due moment, to within 0.1 µs, in ALONE, LEADING and SEEKING: the epoch
number rises by 1, wrapping, the next own boundary falls E later, pending timing is adopted, and a leader drives a mark
where the new number is a multiple of 256 and a pulse otherwise (R119, R121, R122, R127). At any other moment, in LOCKED,
and with the timer stopped it makes none (log entries 5 and 7). The moment is the command's, and what each block has still
to take is held in lists: the model's choices (log entries 7 and 8), and so is what a boundary that replaces a read writes
(log entry 35). -/
def Obligations.OwnBoundaryAdvancesTheEpoch : Prop :=
  ∀ (s : State) (now : Moment),
    (s.timer.running = true → s.timer.sync ≠ .locked → s.timer.due ≤ now + 100 → now ≤ s.timer.due + 100 →
      ∃ t, exec (.boundary now) s = .next t ∧ boundaryMade s t now (s.timer.epoch + 1) ∧
        adopted s t now (now + 1000 * s.timer.timing.lengthUs) ∧
        (s.timer.pending = none → t.timer.sync = s.timer.sync) ∧
        posts s.mem t.mem [] ∧
        t.timer.driving =
          if s.timer.timing.role = .leader then
            some (if (s.timer.epoch + 1).toNat % 256 = 0 then .mark else .pulse)
          else none) ∧
    (s.timer.running = false ∨ s.timer.sync = .locked ∨ now + 100 < s.timer.due ∨ s.timer.due + 100 < now →
      exec (.boundary now) s = .next s)

/-- The smallest multiple of 256 above a number, or 0 where there is none below 2^32 (R123). -/
def Sys2Proof.nextMultiple (n : Epoch) : Nat := (n.toNat / 256 + 1) * 256 % 4294967296

/-- A follower's signals: a pulse in LOCKED within the window makes a boundary that adds 1; a mark in LOCKED within the
window, or in SEEKING at any time, makes one that realigns the number, with SYNC_CHANGE LOCKED posted in SEEKING and where
the number did not rise by exactly 1, or, where the notice queue is full, counted as lapsed; timing that is pending is
adopted at such a boundary, and the follower is LOCKED after it unless its role changes. A signal in LOCKED outside the
window and a pulse in SEEKING change nothing. A signal shorter than 50 ns, or begun before the timer started, a signal to a
timer that does not run or to a part that is no follower, and a pulse or a mark of the other's length change nothing either
(R123, R124, R126, R127). The moments are the commands', and what each block has still to take is held in lists: the model's
choices (log entries 7 and 8); that a signal later than 3E/2 is disregarded, and that a signal counts by the time since the
last boundary alone, are too (log entries 40 and 41); so is that a signal under way when the part became a follower at a
boundary is taken whole (log entry 37), and what a boundary that replaces a read writes (log entry 35). -/
def Obligations.FollowerTakesPulsesAndMarks : Prop :=
  ∀ (s : State) (now len : Nat),
    let ignored := exec (.syncPulse now len) s = .next s ∧ exec (.syncMark now len) s = .next s
    (len < 50 ∨ now < s.timer.started + len ∨ s.timer.running = false ∨ s.timer.timing.role ≠ .follower → ignored) ∧
    (500 ≤ len → exec (.syncPulse now len) s = .next s) ∧ (len < 500 → exec (.syncMark now len) s = .next s) ∧
    ∀ last : Moment, s.timer.running = true → s.timer.timing.role = .follower → s.timer.last = some last →
      s.timer.started + len ≤ now →
      let e2 := 500 * s.timer.timing.lengthUs
      let new : Epoch := BitVec.ofNat 32 (nextMultiple s.timer.epoch)
      let due := now + 1000 * s.timer.timing.lengthUs
      let taken (t : State) (e : Epoch) : Prop := boundaryMade s t now e ∧ adopted s t now due ∧
        ((∀ n, s.timer.pending = some n → n.role = .follower) → t.timer.sync = .locked)
      (s.timer.sync = .locked → last + e2 ≤ now → now ≤ last + 3 * e2 →
        (50 ≤ len → len < 500 → ∃ t, exec (.syncPulse now len) s = .next t ∧ taken t (s.timer.epoch + 1) ∧
          posts s.mem t.mem []) ∧
        (500 ≤ len → ∃ t, exec (.syncMark now len) s = .next t ∧ taken t new ∧
          posts s.mem t.mem (if new = s.timer.epoch + 1 then [] else [.syncChange .locked new s.timer.epoch]))) ∧
      (s.timer.sync = .locked → last ≤ now → now < last + e2 ∨ last + 3 * e2 < now → ignored) ∧
      (s.timer.sync = .seeking →
        exec (.syncPulse now len) s = .next s ∧
        (500 ≤ len → ∃ t, exec (.syncMark now len) s = .next t ∧ taken t new ∧
          posts s.mem t.mem [.syncChange .locked new s.timer.epoch]))

/-- A LOCKED follower for which 3E/2 passes with no signal taken makes a boundary itself, posts SYNC_CHANGE LOST, which with
the notice queue full is counted as lapsed, and, with no timing pending, is SEEKING with its next own boundary 2E after the
previous last boundary; pending timing it adopts at this boundary puts the next one a new E after it (R125 to R127). Its own
clock finds the moment to within 0.1 µs; at any other moment, with the timer stopped and in the other sync states there is
no loss to find (log entries 5 and 7). The moment is the command's, and what each block has still to take is held in lists:
the model's choices (log entries 7 and 8), and so is what a boundary that replaces a read writes (log entry 35). -/
def Obligations.LossOfLockIsFoundAtThreeHalves : Prop :=
  ∀ (s : State) (now last : Moment), s.timer.last = some last →
    let found := last + 1500 * s.timer.timing.lengthUs
    (s.timer.running = true → s.timer.sync = .locked → s.timer.timing.role = .follower → found ≤ now → now ≤ found + 100 →
      ∃ t, exec (.lossOfLock now) s = .next t ∧ boundaryMade s t now (s.timer.epoch + 1) ∧
        adopted s t now (last + 2000 * s.timer.timing.lengthUs) ∧
        (s.timer.pending = none → t.timer.sync = .seeking) ∧
        posts s.mem t.mem [.syncChange .lost (s.timer.epoch + 1) s.timer.epoch]) ∧
    (s.timer.running = false ∨ s.timer.sync ≠ .locked ∨ last ≤ now ∧ now < found ∨ found + 100 < now →
      exec (.lossOfLock now) s = .next s)
/-! ### A port at a boundary and in its epoch -/

/-- The burst credit after a close (R21's table, with k' brought into 0 to b). -/
def Sys2Proof.creditAfterClose (st : Conduct) (served : Bool) (n f g k b : Nat) : Nat :=
  min b (
    if st = .cutOff ∨ served = false then k
    else if n < f then (if st = .good then min b (k + (f - n)) else k)
    else k - (min n g - f))

/-- What stage 4 of a close with grant lifetime `life` leaves of an entry (R61): its age rises by 1; a LIVE one whose age
reaches the lifetime lapses with age 0, and a LAPSED one is removed. -/
def Sys2Proof.aged (life : Nat) (x : Entry) : Option Entry :=
  if x.age + 1 < life then some { x with age := x.age + 1 }
  else
    match x.state with
    | .live => some { x with state := .lapsed, age := 0 }
    | .lapsed => none

/-- The LIVE entries of an account that stage 4 of a close with grant lifetime `life` finds expired (R61). -/
def Sys2Proof.expiring (table : List Entry) (life : Nat) (a : Account) : Nat :=
  (table.filter fun x => decide (x.state = .live ∧ x.account = a ∧ life ≤ x.age + 1)).length

/-- A port's block after stages 1 to 3 of a close that begins epoch `e`, with the ages raised by stage 4: the cells settled,
their burst credit by R21 and their starved counts by R22, and the open epoch advanced (R20 to R22, R40, R61). -/
def Sys2Proof.settledPort (s : State) (p : Port) (e : Epoch) : PortBlock :=
  let b := s.ports.get p
  { b with
    openEpoch := e
    table := b.table.map fun x => { x with age := x.age + 1 }
    cells := Tab.ofFn fun a =>
      let x := b.cells.get a
      let share := s.plans.inForce.share p a
      let st := stateAt (s.conduct.recs.get a).score
      let starves : Bool := b.served && share.isSome && decide (st ≠ .cutOff) && decide (0 < x.demand) &&
        decide (x.issued < min x.epochFloor x.demand)
      { x with
        cumAllocated := x.cumAllocated + BitVec.ofNat 64 x.allowance
        cumIssued := x.cumIssued + BitVec.ofNat 64 x.issued
        lastFloor := x.epochFloor, lastNet := x.issued, allowance := 0, issued := 0
        credit := (match share with
          | none => 0
          | some sh => creditAfterClose st b.served x.issued x.epochFloor x.claim x.credit sh.burst)
        starved := if starves then min 63 (x.starved + 1) else 0
        reported := starves && x.reported } }

/-- Stages 5 and 6 of a close that began in state `s`, with state `w` after stage 4: the level is sampled, the report is
handed over with the port as stage 4 left it, what it carries away is cleared, a GRANTING port is back in ALLOCATING, the
allocation is due, and a DRAINING port whose table is empty goes on to STANDBY (R19, R23, R34, R41, R43; log entry 13). -/
def Sys2Proof.closeEnded (s w t : State) (p : Port) (rest : List Epoch) : Prop :=
  let c := w.ports.get p
  let f := c.filter.sample (s.plans.inForce.ports.get p).depth
  let u : State := { w with
    mem := reportHanded w.mem p (epochReport p (s.ports.get p) c c.mode f.accepted)
    ports := w.ports.set p { c with
      filter := f, served := false, totals := { effective := 0, allocated := 0, idle := 0 }
      counts := { used := 0, overrun := 0, expiries := 0, late := 0, stray := 0 }, refused := 0
      mode := if c.mode = .granting then .allocating else c.mode, closeOwed := rest, allocDue := true } }
  if c.mode = .draining ∧ c.table = [] then entersStandby u t p else t = u

/-- PORT_CLOSE, with whatever grants outstanding. First, whatever stage 4 expires: the cells are settled, every entry's age
rises, the entries are examined one after another in the order of the command (log entry 2), each expiry with its charge,
which may cut the account off before its next entry is examined, and then the level is sampled and the report handed over.
Where no expiry cuts an account off, that comes to this: every cell's figures added to its cumulative counters and kept as
its last settled figures, allowance and issued net 0, its burst credit and starved count by R21 and R22; every entry aged,
expired or removed, each expiry counted for its cell and charged 4 to its account; the open epoch the one the boundary
began, the level sampled, the served flag, totals and counts cleared, a GRANTING port back in ALLOCATING, a DRAINING one
DRAINING still, and the allocation due. A DRAINING port whose table stage 4 empties goes on to STANDBY, with PORT_STATE, the
DEFERRED_APPLIED of its slot and, where every port is now in STANDBY, of the part's, which is handed to the timer (R19 to
R23, R34, R41, R43, R61, R98, R107, R127, R140). The list of boundaries a port has still to take is the model's way to hold
them (log entry 8). That PORT_STATE comes before the other notices of the entry to STANDBY is read from R43 by inference
(log entry 14), and so is the epoch number it carries (log entry 27). -/
def Obligations.PortCloseSettlesTheEpoch : Prop :=
  ∀ (s : State) (p : Port) (exams : List Exam) (e : Epoch) (rest : List Epoch),
    (s.ports.get p).closeOwed = e :: rest → (s.ports.get p).inFlight = none → (s.ports.get p).mode ≠ .standby →
    let b := s.ports.get p
    let named := exams.map Exam.tag
    (∃ w t, exec (.portClose p exams) s = .next t ∧ closeEnded s w t p rest ∧
      examinedInTurn p (named ++ (b.table.map Entry.tag).filter fun g => decide (g ∉ named))
        { s with ports := s.ports.set p (settledPort s p e) } w) ∧
    ((b.table.map Entry.tag).Nodup → 1 ≤ b.values.life →
    let k (a : Account) : Nat := expiring b.table b.values.life a
    let table := b.table.filterMap (aged b.values.life)
    let rests := b.mode = .draining ∧ table = []
    (∀ a, k a = 0 ∨ 256 ≤ (s.conduct.recs.get a).score ∨ (s.conduct.recs.get a).score + 4 * k a < 256) →
    ∃ t, exec (.portClose p exams) s = .next t ∧
      let c := t.ports.get p
      c.openEpoch = e ∧ c.table = table ∧ c.served = false ∧
      c.totals = { effective := 0, allocated := 0, idle := 0 } ∧
      c.counts = { used := 0, overrun := 0, expiries := 0, late := 0, stray := 0 } ∧ c.refused = 0 ∧
      (∀ a, let x := b.cells.get a
        let y := c.cells.get a
        let share := s.plans.inForce.share p a
        let st := stateAt (s.conduct.recs.get a).score
        y.allowance = 0 ∧ y.issued = 0 ∧ y.lastFloor = x.epochFloor ∧
        y.cumAllocated = x.cumAllocated + BitVec.ofNat 64 x.allowance ∧
        y.cumIssued = x.cumIssued + BitVec.ofNat 64 x.issued ∧
        y.cumUsed = x.cumUsed ∧ y.cumExpiries = x.cumExpiries + BitVec.ofNat 32 (k a) ∧ y.ramp = x.ramp ∧
        y.credit = (match share with
          | none => 0
          | some sh => creditAfterClose st b.served x.issued x.epochFloor x.claim x.credit sh.burst) ∧
        (¬rests → y.lastNet = x.issued ∧
          if b.served = true ∧ share.isSome = true ∧ st ≠ .cutOff ∧ 0 < x.demand ∧
              x.issued < min x.epochFloor x.demand then
            y.starved = min 63 (x.starved + 1) ∧ y.reported = x.reported
          else y.starved = 0 ∧ y.reported = false)) ∧
      (∀ a, let r := s.conduct.recs.get a
        t.conduct.recs.get a =
          { r with score := if r.score < 256 then r.score + 4 * k a else r.score, fault := r.fault || decide (0 < k a) }) ∧
      (¬rests → c.closeOwed = rest ∧ c.allocDue = true ∧
        c.mode = (if b.mode = .draining then .draining else .allocating) ∧
        c.filter = b.filter.sample (s.plans.inForce.ports.get p).depth ∧
        c.queues = b.queues ∧ (∀ l a, c.list l a = b.list l a) ∧ c.values = b.values ∧ c.deferred = b.deferred ∧
        s.mem.notices <+: t.mem.notices ∧ ((∀ a, k a = 0) → t.mem.notices = s.mem.notices) ∧ t.timer = s.timer ∧
        t.win = s.win ∧ ∀ p', p' ≠ p → t.ports.get p' = s.ports.get p') ∧
      (rests → c.mode = .standby ∧ (∀ l a, c.list l a = []) ∧
        (∀ q, c.queues.get q = { b.queues.get q with tally := 0, waiting := false }) ∧
        (∀ a, (c.cells.get a).starved = 0 ∧ (c.cells.get a).reported = false) ∧
        c.filter = { raw := b.filter.raw, history := [], accepted := 0 } ∧
        c.values = (match b.deferred with | none => b.values | some d => d.values) ∧ c.deferred = none ∧
        (s.mem.notices.length < 32 →
          (s.mem.notices ++ [.portState p .draining .standby s.timer.epoch]) <+: t.mem.notices) ∧
        ((∀ a, k a = 0) → slotsTaken s t p) ∧
        ∀ p', p' ≠ p → (t.ports.get p').mode = (s.ports.get p').mode) ∧
      t.link = s.link ∧ t.timer.epoch = s.timer.epoch ∧ t.plans.inForce = s.plans.inForce)

/-- The report of a close, with whatever grants outstanding, carries the sums of R23, saturating: the effective capacity
added at delivery, the allowances and the issued net as they stood, idle as the difference, and the epoch counts with the
expiries of this close. It is placed in the port's slot where that is empty and merged into the report held there otherwise;
while the held one is being written, it waits, or is merged into the report that waits (R23, R60, R61, R155). The cases in
which another report follows, that of a DRAINING port which this close brings to STANDBY, or in which an expiry cuts an
account off, are PortCloseSettlesTheEpoch's. That the report shows the port's state from before the close ends, GRANTING of
a port that granted, is read from R19 by inference (log entry 13). -/
def Obligations.CloseHandsOverItsReport : Prop :=
  ∀ (s : State) (p : Port) (exams : List Exam) (e : Epoch) (rest : List Epoch),
    (s.ports.get p).closeOwed = e :: rest → (s.ports.get p).inFlight = none → (s.ports.get p).mode ≠ .standby →
    let b := s.ports.get p
    let old := s.mem.slots.get p
    let k (a : Account) : Nat := expiring b.table b.values.life a
    let expiries := ((List.finRange 48).map k).sum
    b.table = [] ∨ (b.table.map Entry.tag).Nodup ∧ 1 ≤ b.values.life →
    (∀ a, k a = 0 ∨ 256 ≤ (s.conduct.recs.get a).score ∨ (s.conduct.recs.get a).score + 4 * k a < 256) →
    ¬(b.mode = .draining ∧ b.table.filterMap (aged b.values.life) = []) →
    ∃ t r, exec (.portClose p exams) s = .next t ∧
      (¬reportBeingWritten s.mem p → t.mem.slots.get p = { held := some (mergedInto old.held r), waiting := old.waiting }) ∧
      (reportBeingWritten s.mem p → t.mem.slots.get p = { held := old.held, waiting := some (mergedInto old.waiting r) }) ∧
      (∀ p', p' ≠ p → t.mem.slots.get p' = s.mem.slots.get p') ∧
      let sat (n : Nat) : Nat := min n 4294967295
      r.port = p ∧ r.mode = b.mode ∧ r.firstEpoch = b.openEpoch ∧ r.covered = 1 ∧
      r.accepted = (t.ports.get p).filter.accepted ∧
      r.effective = sat b.totals.effective ∧ r.allocated = sat (b.sumCells Cell.allowance) ∧
      r.issuedNet = sat (b.sumCells Cell.issued) ∧
      r.idle = sat (b.totals.effective - b.sumCells Cell.allowance) ∧
      (b.totals.effective ≤ 4294967295 → b.sumCells Cell.allowance ≤ b.totals.effective →
        r.idle + r.allocated = r.effective) ∧
      r.used = b.counts.used ∧ r.overrun = b.counts.overrun ∧
      r.expiries = (if expiries = 0 then b.counts.expiries else sat (b.counts.expiries + expiries)) ∧
      r.late = b.counts.late ∧ r.stray = b.counts.stray ∧ r.refused = b.refused

/-- After a sample is appended, the accepted level becomes the value of the last N samples where the history holds N and
they are all equal, and is held otherwise; the history holds at most the last four samples (R34, R35). -/
def Obligations.LevelIsAcceptedWhenSamplesAgree : Prop :=
  ∀ (f : Filter) (depth : Nat), 1 ≤ depth → depth ≤ 4 → f.history.length ≤ 4 →
    let g := f.sample depth
    let whole := f.history ++ [f.raw]
    g.raw = f.raw ∧ g.history = whole.drop (whole.length - 4) ∧
    (depth ≤ g.history.length → (∀ x ∈ g.history.drop (g.history.length - depth), x = f.raw) →
      g.accepted = f.raw) ∧
    (¬(depth ≤ g.history.length ∧ ∀ x ∈ g.history.drop (g.history.length - depth), x = f.raw) →
      g.accepted = f.accepted)

/-- The state change at a boundary, by the state the port holds: a port in service of a RUNNING part leaves STANDBY or
DRAINING for ALLOCATING, with the open epoch set and PORT_STATE posted on leaving STANDBY; a GRANTING one becomes ALLOCATING
in any case; the others stay (R41, R44). With the notice queue full the state changes all the same, and the notice is
counted as lapsed (R154). The port takes the oldest boundary it owes once the plan unit has taken it, and its own close of
it, and before that nothing happens (log entry 5); a port that rests in STANDBY takes no close of it (R19). The lists of
boundaries and closes still to take are the model's (log entry 8), and so are the epoch number that the notice carries (log
entry 27) and the moment at which the part is judged RUNNING, that of the port's taking the boundary (log entry 42). -/
def Obligations.StateChangeAtABoundary : Prop :=
  ∀ (s : State) (p : Port),
    let b := s.ports.get p
    let ready (rest : List Epoch) : Prop :=
      s.plans.owed.length ≤ rest.length ∧ (b.closeOwed.length ≤ rest.length ∨ b.mode = .standby)
    let serves := (s.plans.inForce.ports.get p).inService = true ∧ s.win.mode = .running
    (b.changeOwed = [] → exec (.portStateChange p) s = .next s) ∧
    ∀ (e : Epoch) (rest : List Epoch), b.changeOwed = e :: rest →
      (¬ready rest → exec (.portStateChange p) s = .next s) ∧
      (ready rest →
        let closes := if b.mode = .standby ∧ rest.length < b.closeOwed.length then b.closeOwed.tail else b.closeOwed
        let taken : PortBlock := { b with changeOwed := rest, closeOwed := closes }
        let left : PortBlock :=
          match b.mode with
          | .standby => if serves then { taken with mode := .allocating, openEpoch := e, allocDue := true } else taken
          | .granting => { taken with mode := .allocating }
          | .allocating => taken
          | .draining => if serves then { taken with mode := .allocating } else taken
        exec (.portStateChange p) s = .next { s with
          ports := s.ports.set p left
          mem := if b.mode = .standby ∧ serves then posted s.mem (.portState p .standby .allocating s.timer.epoch)
            else s.mem })

/-- The start of an allocation: the effective capacity of R3, and for every cell the ramp step where it holds a share entry,
the demand snapshot of R5, the claim of R8 and the epoch floor, with allowance, claim and epoch floor 0 for a cell that does
not take part; and the copies that the completion works on: floor and ceiling of the share entry, credit, weight, demand and
conduct state as they stand (R3 to R5, R7, R8, R29). That every block has taken the boundary shows in the model as empty
lists of boundaries owed (log entry 8). -/
def Obligations.AllocationStartTakesItsCopies : Prop :=
  ∀ (s : State) (p : Port), (s.ports.get p).mode = .allocating → (s.ports.get p).allocDue = true →
    (s.ports.get p).inFlight = none → (s.ports.get p).closeOwed = [] → (s.ports.get p).changeOwed = [] →
    s.plans.owed = [] → s.conduct.owed = [] →
    let b := s.ports.get p
    let r := s.plans.inForce.ports.get p
    let d : Nat := match b.filter.accepted with | 0 => 256 | 1 => r.derate1 | 2 => r.derate2 | 3 => r.derate3
    ∃ t al, exec (.allocationStart p) s = .next t ∧ (t.ports.get p).inFlight = some al ∧
      al.epoch = b.openEpoch ∧ al.marked = [] ∧
      (t.ports.get p).capacity = b.values.cnom * d / 256 ∧ al.capacity = b.values.cnom * d / 256 ∧
      (t.ports.get p).allocDue = false ∧ (t.ports.get p).mode = .allocating ∧
      (∀ a, let x := b.cells.get a
        let y := t.cell p a
        let share := s.plans.inForce.share p a
        let takes := share.isSome = true ∧ (s.conduct.recs.get a).score < 256
        y.demand = min 16777215
          ((b.queues.cells.filter fun q => q.bound && decide (q.account = a)).map Queue.tally).sum ∧
        (al.inputs.get a).demand = y.demand ∧ (al.inputs.get a).weight = y.ramp.weight ∧
        ((al.inputs.get a).takesPart = true ↔ takes) ∧ (al.inputs.get a).credit = x.credit ∧
        (al.inputs.get a).conduct = stateAt (s.conduct.recs.get a).score ∧
        (∀ sh, share = some sh → (al.inputs.get a).floor = sh.floor ∧ (al.inputs.get a).ceiling = sh.ceiling) ∧
        y.ramp = (if share.isSome = true then x.ramp.advance r.curve else x.ramp) ∧
        y.issued = x.issued ∧ y.credit = x.credit ∧
        (∀ sh, share = some sh → takes →
          y.claim = min y.demand (min (sh.floor + x.credit) sh.ceiling) ∧ y.epochFloor = sh.floor ∧
            y.allowance = x.allowance) ∧
        (¬takes → y.claim = 0 ∧ y.epochFloor = 0 ∧ y.allowance = 0)) ∧
      t.link = s.link ∧ t.conduct = s.conduct ∧ t.mem = s.mem ∧ ∀ p', p' ≠ p → t.ports.get p' = s.ports.get p'

/-- The completion of an allocation: delivered, every cell's allowance is the one computed, 0 for a marked account, the
served flag is set, the totals rise by C, the sum and the idle rest, the port is GRANTING and its arbiter has run until
nothing is left to grant; discarded, only the allocation in flight goes (R14, R15, R17). -/
def Obligations.AllocationIsDeliveredOrDiscarded : Prop :=
  ∀ (s : State) (p : Port) (al : Allocation), (s.ports.get p).inFlight = some al →
    let b := s.ports.get p
    let delivers := b.mode = .allocating ∧ al.epoch = b.openEpoch ∧ b.closeOwed = []
    let result (a : Account) : Nat := if a ∈ al.marked then 0 else (allocate al.capacity al.inputs).get a
    let sum := ((List.finRange 48).map result).sum
    (delivers → ∃ t, exec (.allocationComplete p) s = .next t ∧ (t.ports.get p).mode = .granting ∧
      (t.ports.get p).inFlight = none ∧ (t.ports.get p).served = true ∧
      (∀ a, (t.cell p a).allowance = result a) ∧
      (t.ports.get p).totals =
        { effective := b.totals.effective + al.capacity, allocated := b.totals.allocated + sum,
          idle := b.totals.idle + (al.capacity - sum) } ∧
      t.nothingToGrant p ∧ (∀ p', p' ≠ p → t.ports.get p' = s.ports.get p') ∧
      t.timer = s.timer ∧ t.plans = s.plans ∧ t.mem = s.mem) ∧
    (¬delivers → exec (.allocationComplete p) s = .next { s with ports := s.ports.set p { b with inFlight := none } })

/-! ### The share computation -/

/-- The sum of the allowances is at most the effective capacity, whatever the copies (R13). -/
def Obligations.AllocationNeverExceedsCapacity : Prop :=
  ∀ (capacity : Nat) (inputs : Tab 48 AllocInput), (allocate capacity inputs).cells.sum ≤ capacity

/-- What a division with remainders gives these cells: each its base or one unit more, the extra units in order of largest
remainder with the lower account first among equals, and the whole amount given out (R9, R12). -/
def Sys2Proof.dividedAmong (cells : List Account) (amount : Nat) (base rem gain : Account → Nat) : Prop :=
  (∀ a ∈ cells, gain a = base a ∨ gain a = base a + 1) ∧
  (∀ a ∈ cells, ∀ b ∈ cells, gain a = base a + 1 → rem a < rem b ∨ rem a = rem b ∧ b < a → gain b = base b + 1) ∧
  (cells.map gain).sum = amount

/-- What stage 2 gives the cells of W from the excess X, in at most so many rounds: nothing where X is 0 or W is empty; in a
satisfying round its want to every cell whose share by weight reaches it, the others going on with the rest; and in the
final round the whole of X, divided by weight (R11, R12). -/
def Sys2Proof.excessGiven (weight want : Account → Nat) : Nat → Nat → List Account → (Account → Nat) → Prop
  | 0, _, _, gain => ∀ a, gain a = 0
  | rounds + 1, x, cells, gain =>
    let total := (cells.map weight).sum
    let share (a : Account) : Nat := x * weight a / total
    let satisfied := cells.filter fun a => decide (want a ≤ share a)
    if x = 0 ∨ cells = [] then ∀ a, gain a = 0
    else if satisfied = [] then
      (∀ a, a ∉ cells → gain a = 0) ∧ dividedAmong cells x share (fun a => x * weight a % total) gain
    else
      (∀ a ∈ satisfied, gain a = want a) ∧
      excessGiven weight want rounds (x - (satisfied.map want).sum) (cells.filter fun a => decide (share a < want a))
        (fun a => if a ∈ satisfied then 0 else gain a)

/-- A cell that does not take part is allocated 0; no other cell is allocated more than its demand or its ceiling. Where the
claims fit the capacity, every cell is allocated its claim and what stage 2 gives it: the excess goes by weight, in rounds,
to the GOOD and WARNED accounts' taking-part cells of weight above 0 that want more; a RESTRICTED account's cell is
allocated exactly its claim. Where they do not fit, none is allocated more than its claim, and the capacity is divided in
proportion to the claims, the units left over going to the largest remainders, the lower account first (R8 to R13). -/
def Obligations.AllocationKeepsToWantsAndClaims : Prop :=
  ∀ (capacity : Nat) (inputs : Tab 48 AllocInput),
    let total := (inputs.cells.map AllocInput.claim).sum
    let claim (a : Account) : Nat := (inputs.get a).claim
    let x (a : Account) : Nat := (allocate capacity inputs).get a
    let want (a : Account) : Nat := min (inputs.get a).demand (inputs.get a).ceiling - claim a
    let wanting (a : Account) : Prop := (inputs.get a).takesPart = true ∧
      ((inputs.get a).conduct = .good ∨ (inputs.get a).conduct = .warned) ∧ 0 < (inputs.get a).weight ∧ 0 < want a
    (∀ a, claim a = if (inputs.get a).takesPart then
      min (inputs.get a).demand (min ((inputs.get a).floor + (inputs.get a).credit) (inputs.get a).ceiling) else 0) ∧
    (∀ a, ((inputs.get a).takesPart = false → x a = 0) ∧ x a ≤ min (inputs.get a).demand (inputs.get a).ceiling ∧
      (total ≤ capacity → claim a ≤ x a) ∧
      (total ≤ capacity → (inputs.get a).conduct = .restricted → x a = claim a) ∧
      (capacity < total → x a ≤ claim a ∧ claim a * capacity / total ≤ x a)) ∧
    (total ≤ capacity →
      excessGiven (fun a => (inputs.get a).weight) want 48 (capacity - total)
        ((List.finRange 48).filter fun a => decide (wanting a)) (fun a => x a - claim a)) ∧
    (capacity < total →
      dividedAmong ((List.finRange 48).filter fun a => (inputs.get a).takesPart) capacity
        (fun a => claim a * capacity / total) (fun a => claim a * capacity % total) x)

/-- Capacity stays idle only where no one may take it: claims that exceed the capacity are scaled to exactly the capacity,
and otherwise either all of it is given out or every taking-part cell of a GOOD or WARNED account with weight above 0 has
its demand or its ceiling (R9, R12). -/
def Obligations.IdleCapacityMeansNoWantIsLeft : Prop :=
  ∀ (capacity : Nat) (inputs : Tab 48 AllocInput),
    (allocate capacity inputs).cells.sum = capacity ∨
      (inputs.cells.map AllocInput.claim).sum ≤ capacity ∧
      ∀ a, (inputs.get a).takesPart = true →
        ((inputs.get a).conduct = .good ∨ (inputs.get a).conduct = .warned) → 0 < (inputs.get a).weight →
        (allocate capacity inputs).get a = min (inputs.get a).demand (inputs.get a).ceiling

/-- A ramp's weight after `n` steps: before the first, the weight it began with, or the target where its length is 0; after
each step up to the last, the weight at the curve's factor F in 256ths, taken at position floor(16 n / R) of 16, moved from
the start towards the target by floor(difference × F / 256), F being 16 m on LINEAR and R30's table on STEEP. So it stays
between its start and its target at every step, moves in one direction only, and is the target at the step that ends the
ramp (R28 to R30). -/
def Obligations.RampStaysBetweenStartAndTarget : Prop :=
  ∀ (c : Curve) (w0 target rise fall : Nat),
    let weight (n : Nat) : Nat := ((fun r => r.advance c)^[n] (Ramp.begin w0 target rise fall)).weight
    let length := if w0 < target then rise else if target < w0 then fall else 0
    let steep : List Nat := [0, 1, 2, 4, 6, 9, 13, 18, 25, 34, 46, 62, 83, 111, 148, 196, 256]
    let factor (m : Nat) : Nat := match c with | .linear => 16 * m | .steep => steep.getD m 256
    weight 0 = (if length = 0 then target else w0) ∧
    (∀ n, 0 < n → n ≤ length → weight n =
      if w0 < target then w0 + (target - w0) * factor (16 * n / length) / 256
      else w0 - (w0 - target) * factor (16 * n / length) / 256) ∧
    (∀ n, min w0 target ≤ weight n ∧ weight n ≤ max w0 target) ∧
    (∀ n, length ≤ n → weight n = target) ∧
    (w0 ≤ target → ∀ n, weight n ≤ weight (n + 1)) ∧ (target ≤ w0 → ∀ n, weight (n + 1) ≤ weight n)

/-! ### Conduct -/

/-- The conduct unit takes a boundary in RUNNING and STOPPING: a clean active account outside CUT_OFF falls by 1; one in
CUT_OFF counts a quiet epoch unless demand was seen, and recovers at 32 where its auto-recovery flag is set, with starved
count 0 and the reported flag clear on every port; every flag is cleared; and one CONDUCT_CHANGE is posted for each account
whose state changed, in the order of the command (log entry 2). In PARKED and STARTING it takes none. Judged for one account
alone, which is the model's choice (log entry 12), recovery gives that account the same records and notice (R100, R103,
R104, R106 to R108). That the starved counts and flags are cleared at once on leaving CUT_OFF, that a boundary owed waits
through PARKED, and that the notices carry the boundary's number, are read from R106 to R108 by inference (log entries 34,
6 and 27). -/
def Obligations.ConductTakesABoundary : Prop :=
  ∀ (s : State) (order : List Account) (e : Epoch) (rest : List Epoch), s.conduct.owed = e :: rest →
    let auto (a : Account) : Bool := (s.plans.inForce.accounts.get a).autoRecovery
    let quiet (r : ConductRec) : Nat := if r.demand then r.quiet else min 32 (r.quiet + 1)
    let recovers (a : Account) : Prop :=
      256 ≤ (s.conduct.recs.get a).score ∧ auto a = true ∧ quiet (s.conduct.recs.get a) = 32
    let serves := s.win.mode = .running ∨ s.win.mode = .stopping
    (¬serves → exec (.conductBoundary order) s = .next s ∧ ∀ a, exec (.autoRecovery a) s = .next s) ∧
    (serves → ∃ t, exec (.conductBoundary order) s = .next t ∧ t.conduct.owed = rest ∧
      (∀ a, let r := s.conduct.recs.get a
        let u := t.conduct.recs.get a
        u.fault = false ∧ u.activity = false ∧ u.demand = false ∧
        (r.score < 256 → u.quiet = r.quiet ∧
          u.score = if r.activity = true ∧ r.fault = false then r.score - 1 else r.score) ∧
        (recovers a → u.score = 0 ∧ u.quiet = 0) ∧
        (256 ≤ r.score → ¬recovers a → u.score = r.score ∧ u.quiet = quiet r)) ∧
      (∀ p, t.ports.get p = { s.ports.get p with cells := (t.ports.get p).cells } ∧
        ∀ a, (recovers a → t.cell p a = { s.cell p a with starved := 0, reported := false }) ∧
          (¬recovers a → t.cell p a = s.cell p a)) ∧
      (let old (a : Account) : Nat := (s.conduct.recs.get a).score
        let new (a : Account) : Nat := (t.conduct.recs.get a).score
        t.mem = (((namedFirst order).filter fun a => decide (stateAt (old a) ≠ stateAt (new a))).map fun a =>
          Notice.conductChange a (stateAt (old a)) (stateAt (new a)) (new a) e).foldl posted s.mem) ∧
      t.link = s.link ∧ t.scan = s.scan ∧ t.timer = s.timer ∧ t.plans = s.plans ∧ t.win = s.win) ∧
    ∀ a, serves → recovers a →
      let fresh : ConductRec := { score := 0, quiet := 0, fault := false, activity := false, demand := false }
      exec (.autoRecovery a) s = .next { s with
        conduct := { s.conduct with recs := s.conduct.recs.set a fresh }
        ports := s.ports.map fun b =>
          { b with cells := b.cells.modify a fun c => { c with starved := 0, reported := false } }
        mem := posted s.mem (.conductChange a .cutOff .good 0 e) }

/-! ### The starvation scan -/

/-- A SWEEPING scan takes a boundary: it reports the first cell from the cursor on, in cell-index order and once around,
whose starved count is at least S and whose reported flag is clear, where the notice queue has room; where it is full the
cell keeps its flag, the cursor waits at it, and nothing lapses; and where no cell yields a finding nothing changes. In IDLE
and in HALTED it sweeps nothing (R110 to R113). The boundaries still to take are the model's way to hold them (log
entry 8), and so is the boundary's number in the notice (log entry 27). -/
def Obligations.SweepReportsTheFirstStarvedCell : Prop :=
  ∀ (s : State) (e : Epoch) (rest : List Epoch), s.scan.owed = e :: rest →
    (s.scan.state ≠ .sweeping → exec .sweep s = .next { s with scan := { s.scan with owed := rest } }) ∧
    (s.scan.state = .sweeping →
    let yields (i : Nat) : Prop :=
      s.plans.inForce.scanS ≤ (s.cellAt (Fin.ofNat 192 i)).starved ∧ (s.cellAt (Fin.ofNat 192 i)).reported = false
    (∀ n < 192, yields (s.scan.cursor.val + n) → (∀ m < n, ¬yields (s.scan.cursor.val + m)) →
      let c : CellIx := Fin.ofNat 192 (s.scan.cursor.val + n)
      let x := s.cellAt c
      (s.mem.notices.length < 32 → exec .sweep s = .next { s with
        scan := { state := .halted, cursor := c, finding := some { cell := c, position := none }, owed := rest }
        mem := { s.mem with notices := s.mem.notices ++
          [.starvationFinding (cellPort c) (cellAccount c) x.starved x.lastFloor x.lastNet e] }
        ports := s.ports.modify (cellPort c) fun b =>
          { b with cells := b.cells.set (cellAccount c) { x with reported := true } } }) ∧
      (32 ≤ s.mem.notices.length →
        exec .sweep s = .next { s with scan := { s.scan with cursor := c, owed := rest } })) ∧
    ((∀ n < 192, ¬yields (s.scan.cursor.val + n)) →
      exec .sweep s = .next { s with scan := { s.scan with owed := rest } }))

/-! ### Plans -/

/-- The first rule of a plan that matches a queue's source on a port (R81). -/
def Sys2Proof.ruleFor (pl : Plan) (p : Port) (x : Queue) : Option Rule :=
  pl.rules.find? fun r => r.ports.get p && decide (x.source &&& r.mask = r.value &&& r.mask)

/-- The lane a rule gives a queue under a plan (R82). -/
def Sys2Proof.laneFor (pl : Plan) (r : Rule) (x : Queue) : Lane :=
  if (pl.accounts.get r.account).urgentPermitted then
    match r.treatment with
    | .asBound => x.requested
    | .urgent => .urgent
    | .bulk => .bulk
  else .bulk

/-- A queue's entry reclassified under a plan, `cutOff` telling the accounts in CUT_OFF: R92's table, with R93 for a tally
moved into such an account. -/
def Sys2Proof.reclassified (pl : Plan) (cutOff : Account → Bool) (p : Port) (x : Queue) : Queue :=
  if x.bound = false then x
  else
    match ruleFor pl p x with
    | none => { x with bound := false, tally := 0, waiting := false }
    | some r =>
      if r.account = x.account ∧ laneFor pl r x = x.lane then x
      else
        let moved : Queue := { x with account := r.account, lane := laneFor pl r x }
        if x.tally = 0 then moved
        else if cutOff r.account then { moved with tally := 0, waiting := false }
        else { moved with waiting := true }

/-- The queue keeps its account and lane under the plan, and so its place in its list (R92). -/
def Sys2Proof.keepsPlace (x y : Queue) : Bool := y.bound && decide (y.account = x.account) && decide (y.lane = x.lane)

/-- The ramp a plan application starts (R28): `w0` is the weight as it stands, 0 for a cell new in the plan. -/
def Sys2Proof.rampStarted (w0 : Nat) (sh : Share) : Ramp :=
  let length := if w0 < sh.weight then sh.rise else if sh.weight < w0 then sh.fall else 0
  { start := w0, target := sh.weight, length := length, step := 0, weight := if length = 0 then sh.weight else w0 }

/-- A cell at a plan application: `held` tells whether the plan in force before has an entry for it, `share` the new plan's
entry, `anew` whether the account is reinstated (R24, R28, R106). -/
def Sys2Proof.cellUnder (held : Bool) (share : Option Share) (anew : Bool) (x : Cell) : Cell :=
  match share with
  | none => { x with
      credit := 0, starved := 0, reported := false, allowance := x.issued
      ramp := { start := 0, target := 0, length := 0, step := 0, weight := 0 } }
  | some sh => { x with
      credit := if held then min x.credit sh.burst else 0
      starved := if held && !anew then x.starved else 0
      reported := x.reported && !anew
      ramp := rampStarted (if held then x.ramp.weight else 0) sh }

/-- Steps 1 to 4 of an application in state `s` leave `t` (R138): the plan in force, with its epoch of application;
reinstated accounts anew, one CONDUCT_CHANGE for each; every port's bound queues reclassified, their REFUSEs placed in
increasing queue number as far as there is room; and every cell under its new share entry. -/
def Sys2Proof.planTaken (s t : State) (pl : Plan) (d : PlanDue) (rest : List PlanDue) (accounts : List Account) : Prop :=
  let reinstated (a : Account) : Bool :=
    decide (256 ≤ (s.conduct.recs.get a).score) && (pl.accounts.get a).reinstate
  let cutOff (a : Account) : Bool := decide (256 ≤ (s.conduct.recs.get a).score) && !reinstated a
  let moved (p : Port) (q : QueueId) : Queue := reclassified pl cutOff p (s.queue p q)
  let fresh : ConductRec := { score := 0, quiet := 0, fault := false, activity := false, demand := false }
  t = { s with
    plans := { s.plans with inForce := pl, appliedEpoch := d.epoch, staged := none, owed := rest }
    conduct := { s.conduct with
      recs := Tab.ofFn fun a => if reinstated a then fresh else s.conduct.recs.get a }
    mem := (((namedFirst accounts).filter reinstated).map fun a =>
      Notice.conductChange a .cutOff .good 0 d.epoch).foldl posted s.mem
    ports := t.ports
    link := t.link } ∧
  (∀ p, let b := s.ports.get p
    let c := t.ports.get p
    c = { b with queues := c.queues, urgentLists := c.urgentLists, bulkLists := c.bulkLists, cells := c.cells } ∧
    (∀ q, c.queues.get q = moved p q) ∧
    (b.listsSound → ∀ l a, c.list l a =
      (b.list l a).filter (fun q => keepsPlace (s.queue p q) (moved p q)) ++
        (List.finRange 128).filter fun q => (moved p q).bound && (moved p q).waiting &&
          !keepsPlace (s.queue p q) (moved p q) && decide ((moved p q).account = a) && decide ((moved p q).lane = l)) ∧
    ∀ a, c.cells.get a =
      cellUnder (s.plans.inForce.share p a).isSome (pl.share p a) (reinstated a) (b.cells.get a)) ∧
  ∃ refused : List (Port × QueueId),
    (∀ p, (refused.filter fun m => decide (m.1 = p)).map Prod.snd =
      (List.finRange 128).filter fun q => (s.queue p q).bound && (ruleFor pl p (s.queue p q)).isNone) ∧
    t.link = { s.link with output := s.link.output ++
      (refused.map fun m => OutMsg.refuse m.1 m.2 .unclassified).take (64 - s.link.output.length) }

/-- Steps 6 to 8 of an application, which step 5 left at `s` (R110, R138, R139, R141): the standby-class values of a port in
STANDBY are the plan's, and those of any other wait in its slot exactly where they differ; the epoch length and the role are
handed to the timer where every port is in STANDBY, and wait in the part's slot otherwise, exactly where they differ; the
scan follows the threshold; and PLAN_APPLIED is offered with the mask of the slots filled. -/
def Sys2Proof.planPlaced (s : State) (pl : Plan) (d : PlanDue) : State :=
  let ports := Tab.ofFn fun p =>
    let b := s.ports.get p
    let r := pl.ports.get p
    let v : StandbyValues := { cnom := r.cnom, quantum := r.quantum, life := r.life }
    if b.mode = .standby then { b with values := v, deferred := none }
    else { b with deferred := if v = b.values then none else some { values := v, gen := pl.gen } }
  let n : Timing := { lengthUs := pl.lengthUs, role := pl.role }
  let resting := ∀ p, (s.ports.get p).mode = .standby
  let part : Option PartDeferred :=
    if resting ∨ n = s.timer.timing then none else some { timing := n, gen := pl.gen }
  { s with
    ports := ports
    timer := { s.timer with
      pending := if resting then if n = s.timer.timing then none else some n else s.timer.pending }
    plans := { s.plans with partDeferred := part }
    scan := { s.scan with
      state := if pl.scanS = 0 then .idle else if s.scan.state = .idle then .sweeping else s.scan.state
      finding := if pl.scanS = 0 ∧ s.scan.state = .halted then none else s.scan.finding }
    mem := posted s.mem (.planApplied pl.gen d.epoch pl.tag pl.clamps
      (Tab.ofFn fun p => (ports.get p).deferred.isSome) part.isSome) }

/-- The plan unit takes a boundary that was made with a plan staged and the hold flag clear, the part RUNNING: the plan is
in force, whole, with the boundary's epoch as its epoch of application, by R138's steps. Reinstated accounts start again;
every port's bound queues are reclassified, their REFUSEs placed in increasing queue number as far as there is room; credit,
starved count, ramp and, of a cell absent from the plan, allowance are R24's and R28's; every GRANTING or ALLOCATING port
out of service enters DRAINING in the order of the command (log entry 2), with PORT_STATE, and goes on to STANDBY where its
table is empty; the standby-class values of a port in STANDBY are the plan's, and those of any other wait in its slot
exactly where they differ; the epoch length and role go to the timer where every port is in STANDBY, and wait in the part's
slot exactly where they differ otherwise; the scan follows the threshold; and PLAN_APPLIED is offered last, with the mask of
the slots filled. With the hold flag set, the plan staged later, or the part STOPPING, the plan waits, and with nothing
staged the boundary is simply taken (R24, R28, R42 to R44, R91 to R93, R106, R110, R127, R137 to R141). That the hold flag
and the staging count as they stood when the boundary was made, and that a boundary at which nothing is applied is simply
taken, are the model's (log entries 24 and 39); so are the order and the numbers of the notices (log entries 14 and 27),
that a port which step 5 brings to STANDBY takes its old slot first (log entry 38), that timing in force leaves nothing
pending (log entry 17), and that a reinstated account's starved counts and flags are cleared at once (log entry 34). -/
def Obligations.PlanIsAppliedWhole : Prop :=
  ∀ (s : State) (order sched : List Port) (accounts : List Account) (d : PlanDue) (rest : List PlanDue),
    s.plans.owed = d :: rest →
    (s.plans.staged = none →
      exec (.planApplication order sched accounts) s = .next { s with plans := { s.plans with owed := rest } }) ∧
    ∀ pl : Plan, s.plans.staged = some pl →
    (d.ripe = true ∧ d.hold = false ∧ s.win.mode = .running →
      ∃ u w, planTaken s u pl d rest accounts ∧
        enterDrainingInTurn ((namedFirst order).filter fun p => !(pl.ports.get p).inService &&
          decide ((s.ports.get p).mode = .granting ∨ (s.ports.get p).mode = .allocating)) u w ∧
        exec (.planApplication order sched accounts) s = .next (planPlaced w pl d) ∧
        (∀ p, (pl.ports.get p).inService = false →
          (w.ports.get p).mode = .draining ∨ (w.ports.get p).mode = .standby) ∧
        (∀ p, (pl.ports.get p).inService = true → (w.ports.get p).mode = (s.ports.get p).mode) ∧
        w.plans.inForce = pl ∧ w.timer.epoch = s.timer.epoch ∧ w.timer.timing = s.timer.timing ∧ w.win = s.win) ∧
    (¬(d.ripe = true ∧ d.hold = false ∧ s.win.mode = .running) →
      exec (.planApplication order sched accounts) s = .next { s with plans := { s.plans with owed := rest } })

/-- The reads of a plan fetch: a read that returns the bytes it asked for and shows no fault is kept and the fetch goes on;
the read of the tail generation ends it, and the plan is staged, brought into range, where its generation is still wanted
and no fault is found, or refused with the first fault in the order of R134; a failed read refuses it FETCH_FAILED. With the
notice queue full a plan is refused all the same, and PLAN_REFUSED is counted as lapsed (R136, R154). A fetch whose
generation is no longer wanted is dropped without a notice, however it ends, and the wanted one's fetch starts at once, or
is refused at once where its address is one that no fetch reads from (R132 to R136, R165). Which reads a fetch makes, and
which of the two commands takes each, is read from the spec by inference (log entry 19), and so is that a plan staged waits
for a boundary made after it, which the marks of the boundaries owed hold (log entry 39), and that PLAN_REFUSED carries the
timer's number (log entry 27). -/
def Obligations.PlanFetchIsStagedOrRefused : Prop :=
  ∀ (s : State) (f : Fetch) (bytes : List Byte), s.plans.fetch = some f →
    let ended : PlanUnit := { s.plans with fetch := none, fetched := f.gen }
    let ends (r : PlanRead) : Prop := r = .failed ∨ r = .data bytes ∧
      (f.data = [] ∧ bytes.length = 144 ∧
          (BitVec.ofNat 32 (field bytes 0 4) ≠ f.gen ∨ 192 < field bytes 136 2 ∨ 24 < field bytes 138 2) ∨
        144 ≤ f.data.length ∧ planTailOffset f.data ≤ f.data.length ∧ bytes.length = 4)
    (f.data = [] → bytes.length = 144 → BitVec.ofNat 32 (field bytes 0 4) = f.gen → field bytes 136 2 ≤ 192 →
      field bytes 138 2 ≤ 24 →
      exec (.planReadComplete bytes) s =
        .next { s with plans := { s.plans with fetch := some { f with data := bytes } } }) ∧
    (144 ≤ f.data.length → f.data.length < planTailOffset f.data →
      bytes.length = (if f.data.length < 144 + 24 * planEntryCount f.data then 24 * planEntryCount f.data
        else 16 * planRuleCount f.data) →
      exec (.planReadComplete bytes) s =
        .next { s with plans := { s.plans with fetch := some { f with data := f.data ++ bytes } } }) ∧
    (s.plans.wanted.map Wanted.gen = some f.gen →
      (∀ w, f.data = [] → bytes.length = 144 → w = BitVec.ofNat 16 (field bytes 4 2) →
        (BitVec.ofNat 32 (field bytes 0 4) ≠ f.gen →
          exec (.planFetchComplete (.data bytes)) s = .next { s with
            plans := { ended with wanted := none, refused := some f.gen }
            mem := posted s.mem (.planRefused f.gen s.timer.epoch w .torn) }) ∧
        (BitVec.ofNat 32 (field bytes 0 4) = f.gen → (192 < field bytes 136 2 ∨ 24 < field bytes 138 2) →
          exec (.planFetchComplete (.data bytes)) s = .next { s with
            plans := { ended with wanted := none, refused := some f.gen }
            mem := posted s.mem (.planRefused f.gen s.timer.epoch w .count) })) ∧
      (144 ≤ f.data.length → planTailOffset f.data ≤ f.data.length → bytes.length = 4 →
        (∀ x, planFault f.data (BitVec.ofNat 32 (field bytes 0 4)) = some x →
          exec (.planFetchComplete (.data bytes)) s = .next { s with
            plans := { ended with wanted := none, refused := some f.gen }
            mem := posted s.mem (.planRefused f.gen s.timer.epoch (BitVec.ofNat 16 (field f.data 4 2)) x) }) ∧
        (planFault f.data (BitVec.ofNat 32 (field bytes 0 4)) = none →
          exec (.planFetchComplete (.data bytes)) s = .next { s with
            plans := { ended with
              wanted := none
              staged := some (readPlan f.data).clamped
              owed := s.plans.owed.map fun d => { d with ripe := false } } })) ∧
      exec (.planFetchComplete .failed) s = .next { s with
        plans := { ended with wanted := none, refused := some f.gen }
        mem := posted s.mem (.planRefused f.gen s.timer.epoch
          (if f.data = [] then 0 else BitVec.ofNat 16 (field f.data 4 2)) .fetchFailed) }) ∧
    (s.plans.wanted = none → ∀ r, ends r → exec (.planFetchComplete r) s = .next { s with plans := ended }) ∧
    ∀ (w : Wanted) (r : PlanRead), s.plans.wanted = some w → w.gen ≠ f.gen → ends r →
      (w.addr.toNat ≠ 0 ∧ w.addr.toNat % 8 = 0 → exec (.planFetchComplete r) s =
        .next { s with plans := { ended with fetch := some { gen := w.gen, addr := w.addr, data := [] } } }) ∧
      (w.addr.toNat = 0 ∨ w.addr.toNat % 8 ≠ 0 → exec (.planFetchComplete r) s = .next { s with
        plans := { ended with fetched := w.gen, wanted := none, refused := some w.gen }
        mem := posted s.mem (.planRefused w.gen s.timer.epoch 0 .fetchFailed) })

/-- INDEX: a code out of its table anywhere in the plan, by the offsets of 13.4 (R134, R164). -/
def Sys2Proof.indexFaulty (b : List Byte) : Prop :=
  2 < field b 10 1 ∨ (∃ p < 4, 1 < field b (25 + 16 * p) 1) ∨
  (∃ i < field b 136 2, 47 < field b (144 + 24 * i) 1 ∨ 3 < field b (145 + 24 * i) 1) ∨
  ∃ i < field b 138 2, let rule := 144 + 24 * field b 136 2 + 16 * i
    15 < field b (rule + 8) 1 ∨ 47 < field b (rule + 9) 1 ∨ 2 < field b (rule + 10) 1

/-- DUPLICATE_CELL: two share entries name the same account and port (R134, R165). -/
def Sys2Proof.duplicateFaulty (b : List Byte) : Prop :=
  ∃ j < field b 136 2, ∃ i < j, field b (144 + 24 * i) 1 = field b (144 + 24 * j) 1 ∧
    field b (145 + 24 * i) 1 = field b (145 + 24 * j) 1

/-- CAPACITY_ZERO: a port record has the in-service flag set and Cnom 0 (R134). -/
def Sys2Proof.capacityFaulty (b : List Byte) : Prop :=
  ∃ p < 4, field b (24 + 16 * p) 1 % 2 = 1 ∧ field b (28 + 16 * p) 3 = 0

/-- A plan's bytes read by the layout of 13.4 and brought into range by R135, each value changed counted once. -/
def Sys2Proof.planOf (b : List Byte) : Plan :=
  let into (lo hi v : Nat) : Nat := max lo (min hi v)
  let changed (lo hi v : Nat) : Nat := if lo ≤ v ∧ v ≤ hi then 0 else 1
  let port (p : Nat) (off size : Nat) : Nat := field b (24 + 16 * p + off) size
  let entry (i : Nat) (off size : Nat) : Nat := field b (144 + 24 * i + off) size
  let rule (i : Nat) (off size : Nat) : Nat := field b (144 + 24 * field b 136 2 + 16 * i + off) size
  { gen := BitVec.ofNat 32 (field b 0 4)
    tag := BitVec.ofNat 16 (field b 4 2)
    lengthUs := into 20 5000 (field b 8 2) / 10 * 10
    role := match field b 10 1 with | 0 => .alone | 1 => .leader | _ => .follower
    interval := into 1 1024 (field b 12 2)
    scanS := into 0 63 (field b 14 1)
    ports := Tab.ofFn fun p =>
      { inService := decide (port p 0 1 % 2 = 1), curve := if port p 1 1 = 0 then .linear else .steep
        depth := into 1 4 (port p 2 1), life := into 1 15 (port p 3 1), cnom := max 1 (port p 4 3)
        quantum := into 1 4096 (port p 8 2), derate1 := into 0 256 (port p 10 2), derate2 := into 0 256 (port p 12 2)
        derate3 := into 0 256 (port p 14 2) }
    accounts := Tab.ofFn fun a =>
      { urgentPermitted := (field b (88 + a.val) 1).testBit 0, autoRecovery := (field b (88 + a.val) 1).testBit 1
        reinstate := (field b (88 + a.val) 1).testBit 2 }
    shares := (List.range (field b 136 2)).map fun i =>
      { account := Fin.ofNat 48 (entry i 0 1), port := Fin.ofNat 4 (entry i 1 1), weight := into 0 4095 (entry i 2 2)
        floor := entry i 4 3, ceiling := max (entry i 4 3) (entry i 8 3), burst := entry i 12 3, rise := entry i 16 1
        fall := entry i 17 1 }
    rules := (List.range (field b 138 2)).map fun i =>
      { value := BitVec.ofNat 24 (rule i 0 3), mask := BitVec.ofNat 24 (rule i 4 3)
        ports := Tab.ofFn fun p => (rule i 8 1).testBit p.val, account := Fin.ofNat 48 (rule i 9 1)
        treatment := match rule i 10 1 with | 0 => .asBound | 1 => .urgent | _ => .bulk }
    clamps := min 65535 (
      changed 20 5000 (field b 8 2) + changed 1 1024 (field b 12 2) + changed 0 63 (field b 14 1) +
      ((List.range 4).map fun p => changed 1 4 (port p 2 1) + changed 1 15 (port p 3 1) +
        (if port p 4 3 = 0 then 1 else 0) + changed 1 4096 (port p 8 2) + changed 0 256 (port p 10 2) +
        changed 0 256 (port p 12 2) + changed 0 256 (port p 14 2)).sum +
      ((List.range (field b 136 2)).map fun i => changed 0 4095 (entry i 2 2) +
        if entry i 8 3 < entry i 4 3 then 1 else 0).sum) }

/-- The checks that follow the tail's read, in R134's order: the tail generation, the codes, the cells named twice, and a
port in service with Cnom 0; the first fault found is the reason. A plan with none of them passes, is read by the layout of
13.4 with every value in the range of R135, and the clamps counted (R134 to R136, R164, R165). -/
def Obligations.StagedPlansAreInRange : Prop :=
  ∀ (b : List Byte) (tail : Word32),
    let torn := tail ≠ BitVec.ofNat 32 (field b 0 4)
    (torn → planFault b tail = some .torn) ∧
    (¬torn → indexFaulty b → planFault b tail = some .index) ∧
    (¬torn → ¬indexFaulty b → duplicateFaulty b → planFault b tail = some .duplicateCell) ∧
    (¬torn → ¬indexFaulty b → ¬duplicateFaulty b → capacityFaulty b → planFault b tail = some .capacityZero) ∧
    (¬torn → ¬indexFaulty b → ¬duplicateFaulty b → ¬capacityFaulty b → planFault b tail = none) ∧
    (planFault b tail = none → (readPlan b).clamped = planOf b ∧ (readPlan b).clamped.inRange ∧
      (∀ p, ((readPlan b).ports.get p).inService = true → 0 < ((readPlan b).ports.get p).cnom) ∧
      (readPlan b).gen = tail)

/-! ### The memory side -/

/-- A read of the host half is taken by the layout of 13.3: the plan unit takes the hold flag and the generation shown, as
R131 has it; the signal mask; and the consumed count where it passes the sanity test. The scan leaves HALTED where its
finding has been consumed, and stays otherwise, be its finding without a position yet. A resumption read posts
MEMORY_RESUMED, after PLAN_REFUSED where the plan unit refuses at once, and what the notice queue has no room for is counted
as lapsed. The pass of the occasion falls due, a boundary's or the resumption's: where the writer is idle it writes its
first record, a report whose write failed before any notice and with the count it had, and with nothing to write it ends at
once in its part-half write, which a boundary makes unless the previous one was in flight when it fell. And a read that a
later boundary abandoned is not taken (R114, R131, R133, R149 to R151, R153, R154, R157 to R159, R166). Which read a
completion belongs to is the command's to say (log entry 2); that the report written again comes first, and how passes and
part-half writes wait for each other, are the model's choice (log entries 36 and 20). That the notices carry the timer's
number is read by inference (log entry 27). -/
def Obligations.HostHalfReadIsTaken : Prop :=
  ∀ (s : State) (bytes : List Byte),
    (∀ r, s.mem.read = some r →
      let h := hostHalfOf bytes
      let consumed := if (s.mem.produced - h.consumed).toNat ≤ s.mem.capacity then h.consumed else s.mem.consumed
      let refuses := refusesAtOnce s.plans h
      ∃ t, exec (.hostHalfReadComplete false bytes) s = .next t ∧ t.mem.read = none ∧ planShown s.plans t.plans h ∧
        t.mem.signalMask = h.mask ∧ t.mem.consumed = consumed ∧ t.mem.produced = s.mem.produced ∧
        t.mem.noted = s.mem.noted ∧
        t.mem.armed = (s.mem.armed ||
          decide ((s.mem.produced - consumed).toNat ≤ (s.mem.produced - s.mem.noted).toNat)) ∧
        (∀ f q, s.scan.state = .halted → s.scan.finding = some f → f.position = some q →
          t.scan = if (s.mem.produced - consumed).toNat < (s.mem.produced - q).toNat then
            { state := .sweeping, cursor := Fin.ofNat 192 (f.cell.val + 1), finding := none, owed := s.scan.owed }
            else s.scan) ∧
        (∀ f, s.scan.finding = some f → f.position = none → t.scan = s.scan) ∧
        (s.scan.state ≠ .halted ∨ s.scan.finding = none → t.scan = s.scan) ∧
        (∃ refused, (refuses → refused = [.planRefused h.planGen s.timer.epoch 0 .fetchFailed]) ∧
          (¬refuses → refused = []) ∧
          posts s.mem t.mem
            (refused ++ if r.resumption = true then [.memoryResumed s.mem.region s.timer.epoch] else [])) ∧
        (∀ p r, s.mem.rewrite = some p → (s.mem.slots.get p).held = some r → s.mem.pass = none → s.mem.passQueue = [] →
          2 ≤ s.mem.capacity - (s.mem.produced - consumed).toNat →
          ∃ w, t.mem.journalWrite = some w ∧ w.item = .first p r ∧ w.count = s.mem.produced) ∧
        passFallsDue (passTakenBack s t) t (if r.resumption = true then .resumption else .boundary r.writes) ∧
        (r.writes = true → s.mem.pass = none → s.mem.passQueue = [] → s.mem.notices = [] →
          (∀ p, (s.mem.slots.get p).held = none) → r.resumption = false → ¬refuses → s.mem.partHalf = none →
          s.mem.writesOwed = [] → s.mem.signalWrites = [] →
          t.mem.partHalf = some
            { write := { addr := (s.win.pageHi ++ s.win.pageLo) + 0x800, data := t.partHalfBytes s.win.mode }
              signalling := s.mem.signalDue && decide (s.mem.signalAddr ≠ 0), produced := s.mem.produced
              final := false } ∧ t.mem.signalDue = false ∧ t.mem.journalWrite = s.mem.journalWrite) ∧
        t.link = s.link ∧ t.ports = s.ports ∧ t.conduct = s.conduct ∧ t.timer = s.timer ∧ t.win = s.win) ∧
    exec (.hostHalfReadComplete true bytes) s =
      .next { s with mem := { s.mem with abandoned := s.mem.abandoned - 1 } }

/-- The notice whose record has been written with this count is the one posted for the scan's outstanding finding: a
STARVATION_FINDING, the finding without a position yet, and no later STARVATION_FINDING waiting (R113). -/
def Sys2Proof.placesFinding (s : State) (n : Notice) (f : Finding) : Prop :=
  s.scan.finding = some f ∧ f.position = none ∧ n.kind = 6 ∧ ∀ x ∈ s.mem.notices.tail, x.kind ≠ 6

/-- A journal write completes. A notice's leaves the head of the queue, the produced count rises by 1, and the scan's
outstanding finding takes the record's count as its position where the record is its own; the next notice follows, or the
first report pending. A report's first record leaves the produced count and is followed, where there is room, by its
continuation with the next count; a report's second record raises it by 2 and frees the slot for the waiting report, and
the next port's report follows. A first record without room for its second leaves its report in its slot, to be written
whole, with the report that waits merged into it. A notice's record or a report's second whose kind is in the signal mask
sets the signal-due indication. Where no record follows, the pass ends in the part-half write of its occasion, parking's
being the final one and carrying PARKED, which takes the indication with it, signalling unless the signal address is 0
(R113, R147, R151, R153, R155, R157, R158). Which record is the outstanding finding's own is read from R113 by inference
(log entry 28), and what a first record without room leaves is too (log entry 10); how part-half writes wait for each other
is the model's (log entries 9 and 20), and so is that the notices follow a report written again (log entry 36). -/
def Obligations.JournalWriteCompletes : Prop :=
  ∀ (s : State) (w : JournalWrite), s.mem.journalWrite = some w →
    let due := s.mem.signalDue || match w.item with
      | .notice n => s.mem.signalMask.getLsbD n.kind
      | .first _ _ => false
      | .continuation _ _ => s.mem.signalMask.getLsbD 1
    ∃ t, exec .journalWriteComplete s = .next t ∧ t.mem.consumed = s.mem.consumed ∧ t.mem.lapsed = s.mem.lapsed ∧
      t.link = s.link ∧ t.ports = s.ports ∧ t.conduct = s.conduct ∧ t.timer = s.timer ∧ t.plans = s.plans ∧
      t.win = s.win ∧
      (t.mem.partHalf = s.mem.partHalf ∧ t.mem.signalDue = due ∨
        s.mem.partHalf = none ∧ t.mem.signalDue = false ∧
          ∃ x, t.mem.partHalf = some x ∧ x.signalling = (due && decide (s.mem.signalAddr ≠ 0))) ∧
      (∀ pass, s.mem.pass = some pass → s.mem.passQueue = [] →
        (∀ n, w.item = .notice n → pass.stage = .notices) →
        let done := passTakenBack s t
        let u : State := { done with mem := { done.mem with journalWrite := none, signalDue := due } }
        match (match w.item with
          | .notice _ => noticeOrReport u.mem
          | .first p r => if 2 ≤ roomOf u.mem then some (.continuation p r) else none
          | .continuation p _ => if pass.stage = .again then noticeOrReport u.mem else reportFrom u.mem (p.val + 1)) with
        | some i =>
          let count := match w.item with | .first _ _ => w.count + 1 | _ => t.mem.produced
          t.mem.journalWrite = some (recordWrite s.mem i count) ∧ t.mem.partHalf = s.mem.partHalf ∧
            t.mem.signalDue = due ∧ t.mem.pass.map Pass.occasion = some pass.occasion
        | none => t = passEnded u pass.occasion) ∧
      let room (produced : Word32) : Nat := s.mem.capacity - (produced - s.mem.consumed).toNat
      let writes (i : JournalItem) (count : Word32) : Prop :=
        ∃ v, t.mem.journalWrite = some v ∧ v.item = i ∧ v.count = count ∧ v.write.data = i.bytes count ∧
          v.write.addr = s.mem.journalBase + BitVec.ofNat 64 (32 * (count.toNat % s.mem.capacity))
      match w.item with
      | .notice n =>
        t.mem.produced = s.mem.produced + 1 ∧ t.mem.notices = s.mem.notices.tail ∧ t.mem.slots = s.mem.slots ∧
        (∀ rest, s.mem.notices = n :: rest →
          (∀ f, placesFinding s n f → t.scan = { s.scan with finding := some { f with position := some w.count } }) ∧
          ((∀ f, ¬placesFinding s n f) → t.scan = s.scan)) ∧
        (s.mem.pass.map Pass.stage = some .notices →
          (∀ x rest, s.mem.notices.tail = x :: rest → 1 ≤ room (s.mem.produced + 1) →
            writes (.notice x) (s.mem.produced + 1)) ∧
          ∀ p r, s.mem.notices.tail = [] → 2 ≤ room (s.mem.produced + 1) → (s.mem.slots.get p).held = some r →
            (∀ p', p' < p → (s.mem.slots.get p').held = none) → writes (.first p r) (s.mem.produced + 1))
      | .first p r =>
        t.mem.produced = s.mem.produced ∧ t.mem.notices = s.mem.notices ∧ t.scan = s.scan ∧
        (2 ≤ room s.mem.produced → t.mem.slots = s.mem.slots ∧ writes (.continuation p r) (w.count + 1)) ∧
        (room s.mem.produced < 2 → ∀ p', t.mem.slots.get p' =
          if p' = p then unwritten (s.mem.slots.get p) else s.mem.slots.get p')
      | .continuation p _ =>
        t.mem.produced = s.mem.produced + 2 ∧ t.mem.notices = s.mem.notices ∧ t.scan = s.scan ∧
        t.mem.slots = s.mem.slots.set p { held := (s.mem.slots.get p).waiting, waiting := none } ∧
        ∀ k p' r, s.mem.pass.map Pass.stage = some (.reports k) → p < p' → (s.mem.slots.get p').held = some r →
          (∀ q, p < q → q < p' → (s.mem.slots.get q).held = none) → 2 ≤ room (s.mem.produced + 2) →
          writes (.first p' r) (s.mem.produced + 2)

/-- A part-half write completes and leaves flight: a signalling one with the signal armed issues the signal write, disarms
the signal and notes the produced count it carried; a signalling one with the signal disarmed sets the indication again. The
final one parks the part unless a signal write follows; after every other, the oldest part-half write that waits is issued,
with each field as it stands and with the indication. The signal write that follows the final one parks the part in its
turn; every other only leaves flight. Nothing else changes (R147, R151, R158). That part-half writes wait for one another,
first in, first out, is read from the spec by inference (log entry 20), and what goes with the entry to PARKED is the
model's (log entry 6). -/
def Obligations.PartHalfWriteSignalsOrParks : Prop :=
  (∀ (s : State) (w : PartHalfWrite), s.mem.partHalf = some w →
    let signals := w.signalling = true ∧ s.mem.armed = true
    let done : State := { s with mem :=
      if signals then
        { s.mem with
          partHalf := none
          armed := false
          noted := w.produced
          signalWrites := s.mem.signalWrites ++
            [{ write := { addr := s.mem.signalAddr, data := leBytes 4 s.mem.signalValue.toNat }, final := w.final }] }
      else { s.mem with partHalf := none, signalDue := s.mem.signalDue || w.signalling } }
    ∃ t, exec .partHalfWriteComplete s = .next t ∧
      t = (if w.final = false then oldestIssued done else if signals then done else parkedNow done) ∧
      (w.final = true ∨ s.mem.writesOwed = [] → t.mem.partHalf = none) ∧
      (∀ final rest, w.final = false → s.mem.writesOwed = final :: rest →
        t.mem.writesOwed = rest ∧ t.mem.signalDue = false ∧ ∃ x, t.mem.partHalf = some x ∧ x.final = final ∧ x.produced = s.mem.produced) ∧
      (w.final = true → ¬signals → t.win = { s.win with mode := .parked, run := false, parking := false } ∧
        t.timer.running = false) ∧
      (w.final = false ∨ signals → t.win = s.win) ∧
      t.link = s.link ∧ t.conduct = s.conduct ∧ t.mem.produced = s.mem.produced ∧ t.mem.notices = s.mem.notices ∧
      t.mem.slots = s.mem.slots) ∧
  ∀ (s : State) (w : SignalWrite) (rest : List SignalWrite), s.mem.signalWrites = w :: rest →
    let done : State := { s with mem := { s.mem with signalWrites := rest } }
    ∃ t, exec .signalWriteComplete s = .next t ∧ t = (if w.final = true then parkedNow done else done) ∧
      t.mem.armed = s.mem.armed ∧ t.mem.noted = s.mem.noted ∧
      t.win = (if w.final = true then { s.win with mode := .parked, run := false, parking := false } else s.win)

/-- The memory side counts a boundary: below the interval the count rises and nothing is written; at it the count returns to
0, and a statement is begun with the next odd number and its header, or skipped in FAULTED and while the previous one is
still being written. A write of the statement that completes is followed by the next, and the closing header carries the
number raised by 1 (R160, R161). That the closing header carries the opening header's epoch is read from R161 by inference
(log entry 21). -/
def Obligations.UsageStatementsAreWrittenInOrder : Prop :=
  (∀ (s : State) (e : Epoch) (rest : List Epoch), s.mem.stmtOwed = e :: rest →
    (s.mem.stmtCount + 1 < s.plans.inForce.interval → exec .statementDue s =
      .next { s with mem := { s.mem with stmtOwed := rest, stmtCount := s.mem.stmtCount + 1 } }) ∧
    (s.plans.inForce.interval ≤ s.mem.stmtCount + 1 → s.mem.mode = .faulted ∨ s.mem.statement.isSome = true →
      exec .statementDue s = .next { s with mem := { s.mem with stmtOwed := rest, stmtCount := 0 } }) ∧
    (s.plans.inForce.interval ≤ s.mem.stmtCount + 1 → s.mem.mode = .serving → s.mem.statement = none →
      s.win.mode = .running ∨ s.win.mode = .stopping →
      ∃ n : Word32, n.toNat % 2 = 1 ∧ (n = s.mem.stmtNumber + 1 ∨ n = s.mem.stmtNumber + 2) ∧
        exec .statementDue s = .next { s with mem := { s.mem with
          stmtOwed := rest
          stmtCount := 0
          stmtNumber := n
          statement := some
            { epoch := e, step := .opening, write := { addr := s.mem.usageBase, data := usageHeader n e } } } })) ∧
  (∀ (s : State) (st : Statement), s.mem.statement = some st →
    let next (step : UsageStep) (offset : Nat) (bytes : List Byte) : Statement :=
      { epoch := st.epoch, step := step, write := { addr := s.mem.usageBase + BitVec.ofNat 64 offset, data := bytes } }
    let then' (number : Word32) (x : Statement) : State :=
      { s with mem := { s.mem with stmtNumber := number, statement := some x } }
    match st.step with
    | .opening => exec .usageWriteComplete s = .next (then' s.mem.stmtNumber (next (.cell 0) 64 (s.cell 0 0).row))
    | .cell i =>
      (∀ j : CellIx, j.val = i.val + 1 → exec .usageWriteComplete s =
        .next (then' s.mem.stmtNumber (next (.cell j) (64 + 64 * j.val) (s.cellAt j).row))) ∧
      (i.val = 191 → exec .usageWriteComplete s =
        .next (then' s.mem.stmtNumber (next (.account 0) 12352 (s.conduct.recs.get 0).row)))
    | .account a =>
      (∀ b : Account, b.val = a.val + 1 → exec .usageWriteComplete s =
        .next (then' s.mem.stmtNumber (next (.account b) (12352 + 16 * b.val) (s.conduct.recs.get b).row))) ∧
      (a.val = 47 → exec .usageWriteComplete s =
        .next (then' (s.mem.stmtNumber + 1) (next .closing 0 (usageHeader (s.mem.stmtNumber + 1) st.epoch))))
    | .closing => exec .usageWriteComplete s = .next { s with mem := { s.mem with statement := none } })

/-- The first failed access in RUNNING or STOPPING puts the memory side in FAULTED with its region, signal writes counted as
CONTROL_PAGE; every access in flight is abandoned, the plan fetch with them, the notices, the produced and consumed counts
and the statement number are kept, an abandoned signalling write sets the indication again, and parking under way ends in
PARKED. A report whose record was being written is the one to write again, with the report that waits merged into it, and
every other slot is kept. A second failure changes nothing (R133, R147, R148, R153, R155). That a final part-half write
which still waits after the parking pass has ended is not made is the model's choice (log entry 43). What else goes with the
entry to PARKED is the model's (log entry 6). -/
def Obligations.FailedAccessFaultsTheMemorySide : Prop :=
  ∀ (s : State) (x : Access),
    (s.mem.mode = .faulted → exec (.memoryAccessFailed x) s = .next s) ∧
    (s.win.mode = .running ∨ s.win.mode = .stopping → s.mem.mode = .serving →
      (match x with
        | .hostHalfRead => s.mem.read.isSome = true
        | .abandonedRead => 0 < s.mem.abandoned
        | .partHalfWrite => s.mem.partHalf.isSome = true
        | .signalWrite => s.mem.signalWrites ≠ []
        | .journalWrite => s.mem.journalWrite.isSome = true
        | .usageWrite => s.mem.statement.isSome = true) →
      let region : Region := match x with
        | .journalWrite => .journal
        | .usageWrite => .usageTable
        | .hostHalfRead => .controlPage
        | .abandonedRead => .controlPage
        | .partHalfWrite => .controlPage
        | .signalWrite => .controlPage
      let left : State := { s with
        mem := { s.mem with
          mode := .faulted, region := region, read := none, abandoned := 0, statement := none, journalWrite := none
          partHalf := none, writesOwed := [], signalWrites := [], pass := none, passQueue := []
          signalDue := s.mem.signalDue || s.mem.partHalf.any PartHalfWrite.signalling
          slots := Tab.ofFn fun p =>
            if reportBeingWritten s.mem p then unwritten (s.mem.slots.get p) else s.mem.slots.get p
          rewrite := (match s.mem.journalWrite.map JournalWrite.item with
            | some (.first p _) => some p
            | some (.continuation p _) => some p
            | some (.notice _) => s.mem.rewrite
            | none => s.mem.rewrite) }
        plans := { s.plans with fetch := none, wanted := none } }
      ∃ t, exec (.memoryAccessFailed x) s = .next t ∧ t = (if s.win.parking = true then parkedNow left else left) ∧
        t.mem.mode = .faulted ∧ t.mem.region = region ∧ t.mem.idle ∧
        t.plans.fetch = none ∧ t.plans.wanted = none ∧ t.mem.notices = s.mem.notices ∧
        t.mem.produced = s.mem.produced ∧ t.mem.consumed = s.mem.consumed ∧ t.mem.stmtNumber = s.mem.stmtNumber ∧
        t.mem.armed = s.mem.armed ∧
        (∀ w, s.mem.partHalf = some w → w.signalling = true → t.mem.signalDue = true) ∧
        (∀ w p r, s.mem.journalWrite = some w → w.item = .first p r ∨ w.item = .continuation p r →
          t.mem.rewrite = some p ∧ t.mem.slots.get p = unwritten (s.mem.slots.get p) ∧
            ∀ p', p' ≠ p → t.mem.slots.get p' = s.mem.slots.get p') ∧
        ((∀ p, ¬reportBeingWritten s.mem p) → t.mem.slots = s.mem.slots ∧ t.mem.rewrite = s.mem.rewrite) ∧
        (s.win.parking = true → t.win.mode = .parked) ∧ (s.win.parking = false → t.win = s.win) ∧
        t.link = s.link ∧ t.conduct = s.conduct ∧
        ∀ p, (t.ports.get p).mode = (s.ports.get p).mode ∧ (t.ports.get p).table = (s.ports.get p).table)

/-! ### Facts that every step keeps -/

/-- The output queue never holds more than 64 messages, nor the notice queue more than 32 notices (R67, R152). -/
def Obligations.QueuesStayWithinTheirDepths : Prop := KeptByEveryStep State.queuesWithin

/-- Every outstanding grant table holds at most 32 entries with different tags, none in STANDBY, and no LIVE entry belongs
to an account in CUT_OFF (R46, R63). -/
def Obligations.GrantTablesStaySound : Prop := KeptByEveryStep State.tablesSound

/-- Issued net never exceeds allowance, and the allowances of a port's cells never exceed its effective capacity together
(R13, R54). -/
def Obligations.IssuedNeverExceedsAllowance : Prop := KeptByEveryStep State.accountsSound

/-- Service lists, waiting flags and tallies agree, no queue waits twice, and no demand waits in STANDBY or for an account
in CUT_OFF (R43, R49, R79, R93). -/
def Obligations.ServiceListsMatchTheTallies : Prop := KeptByEveryStep State.demandSound

/-- Scores and quiet counts stay in their ranges (R95, R96). -/
def Obligations.ConductRecordsStayInRange : Prop := KeptByEveryStep State.conductSound

/-- The sync state follows the role, and the timer runs exactly in RUNNING and STOPPING (R118, R120). -/
def Obligations.SyncStateFollowsTheRole : Prop := KeptByEveryStep State.timerSound

/-- The plan in force and every value taken from a plan stay in range (R118, R135, R136, R139). -/
def Obligations.PlanValuesStayInRange : Prop := KeptByEveryStep State.plansSound

/-- In PARKED, STARTING and FAULTED no access to host memory is in flight but the one read of STARTING (R148, 10.1). -/
def Obligations.NoAccessInParkedOrFaulted : Prop := KeptByEveryStep State.accessSound

/-- While the part is PARKED, in STARTING, or parking, every port is in STANDBY (R40, R147). -/
def Obligations.ParkedMeansEveryPortRests : Prop := KeptByEveryStep State.parkSound

/-- The scan is HALTED exactly while a finding is outstanding. The journal write in flight carries the count of R153 and
goes to that count's slot, and when a step issues one the host, by the last consumed count taken, has consumed the record
that the slot held before (R113, R153). -/
def Obligations.JournalNeverOverwritesAnUnreadRecord : Prop :=
  (∀ s t, s.scanSound → step s = .next t → t.scanSound) ∧
  ∀ s t, s.accessSound → s.journalSound → step s = .next t →
    t.journalSound ∧
    ∀ w, t.mem.journalWrite = some w → s.mem.journalWrite ≠ some w →
      (w.count - t.mem.consumed).toNat < t.mem.capacity

/-- The state after reset has all the facts above. -/
def Obligations.ResetHasTheKeptFacts : Prop :=
  State.reset.queuesWithin ∧ State.reset.tablesSound ∧ State.reset.accountsSound ∧ State.reset.demandSound ∧
    State.reset.conductSound ∧ State.reset.timerSound ∧ State.reset.plansSound ∧ State.reset.accessSound ∧
    State.reset.parkSound ∧ State.reset.scanSound ∧ State.reset.journalSound
end

