-- ==== Sys2Proof/Laws/Tab.lean ====
section
/-! SUPPORT. The laws of the fixed-length table: reading an entry after each of its updates, and equality entry by entry. -/

namespace Sys2Proof

variable {n : Nat} {α β : Type}

theorem Tab.get_eq (t : Tab n α) (i : Fin n) : t.cells[i.val]? = some (t.get i) := by
  simp [Tab.get, t.size]

theorem Tab.eq_of_cells {t u : Tab n α} (h : t.cells = u.cells) : t = u := by
  cases t; cases u; simp_all

/-- Tables with equal entries are equal. -/
theorem Tab.ext_get {t u : Tab n α} (h : ∀ i, t.get i = u.get i) : t = u := by
  apply Tab.eq_of_cells
  apply List.ext_getElem (by rw [t.size, u.size])
  intro i h1 h2
  exact h ⟨i, by rw [t.size] at h1; exact h1⟩

@[simp] theorem Tab.get_set_self (t : Tab n α) (i : Fin n) (a : α) : (t.set i a).get i = a := by
  simp [Tab.get, Tab.set]

theorem Tab.get_set_ne (t : Tab n α) {i j : Fin n} (a : α) (h : i ≠ j) : (t.set i a).get j = t.get j := by
  have hv : i.val ≠ j.val := fun hv => h (Fin.ext hv)
  simp [Tab.get, Tab.set, hv]

/-- Reading any entry after one is replaced. -/
theorem Tab.get_set (t : Tab n α) (i j : Fin n) (a : α) : (t.set i a).get j = if i = j then a else t.get j := by
  split
  · subst j; simp
  · rename_i h; exact t.get_set_ne a h

@[simp] theorem Tab.get_modify_self (t : Tab n α) (i : Fin n) (f : α → α) : (t.modify i f).get i = f (t.get i) := by
  simp [Tab.modify]

theorem Tab.get_modify_ne (t : Tab n α) {i j : Fin n} (f : α → α) (h : i ≠ j) : (t.modify i f).get j = t.get j :=
  t.get_set_ne _ h

/-- Reading any entry after one is changed. -/
theorem Tab.get_modify (t : Tab n α) (i j : Fin n) (f : α → α) :
    (t.modify i f).get j = if i = j then f (t.get j) else t.get j := by
  split
  · subst j; simp
  · rename_i h; exact t.get_modify_ne f h

@[simp] theorem Tab.get_fill (a : α) (i : Fin n) : (Tab.fill n a).get i = a := by
  simp [Tab.get, Tab.fill]

@[simp] theorem Tab.get_map (t : Tab n α) (f : α → β) (i : Fin n) : (t.map f).get i = f (t.get i) := by
  simp [Tab.get, Tab.map]

@[simp] theorem Tab.get_mapIdx (t : Tab n α) (f : Fin n → α → β) (i : Fin n) :
    (t.mapIdx f).get i = f i (t.get i) := by
  simp [Tab.get, Tab.mapIdx]

@[simp] theorem Tab.get_ofFn (f : Fin n → α) (i : Fin n) : (Tab.ofFn f).get i = f i := by
  simp [Tab.get, Tab.ofFn]

/-- The entries in order are what the table reads at each index. -/
theorem Tab.cells_eq (t : Tab n α) : t.cells = (List.finRange n).map t.get := by
  apply List.ext_getElem (by simp [t.size])
  intro i h1 h2
  simp [Tab.get]

/-- An entry of the list is one the table reads somewhere. -/
theorem Tab.mem_cells (t : Tab n α) (a : α) : a ∈ t.cells ↔ ∃ i, t.get i = a := by
  rw [t.cells_eq]; simp

/-- A test of every entry. -/
theorem Tab.all_cells (t : Tab n α) (f : α → Bool) : t.cells.all f = true ↔ ∀ i, f (t.get i) = true := by
  rw [t.cells_eq]; simp

end Sys2Proof
end

