-- ==== Sys2Proof/Laws/State.lean ====
section
/-! SUPPORT. One lemma per field per named update of the state: what each update writes, and that it leaves the rest. -/

namespace Sys2Proof.Machine

set_option Elab.async false

/-! ### One port's block -/

@[simp] theorem State.modPort_link (s : State) (p : Port) (f : PortBlock → PortBlock) : (s.modPort p f).link = s.link := rfl
@[simp] theorem State.modPort_conduct (s : State) (p : Port) (f : PortBlock → PortBlock) : (s.modPort p f).conduct = s.conduct := rfl
@[simp] theorem State.modPort_scan (s : State) (p : Port) (f : PortBlock → PortBlock) : (s.modPort p f).scan = s.scan := rfl
@[simp] theorem State.modPort_timer (s : State) (p : Port) (f : PortBlock → PortBlock) : (s.modPort p f).timer = s.timer := rfl
@[simp] theorem State.modPort_plans (s : State) (p : Port) (f : PortBlock → PortBlock) : (s.modPort p f).plans = s.plans := rfl
@[simp] theorem State.modPort_mem (s : State) (p : Port) (f : PortBlock → PortBlock) : (s.modPort p f).mem = s.mem := rfl
@[simp] theorem State.modPort_win (s : State) (p : Port) (f : PortBlock → PortBlock) : (s.modPort p f).win = s.win := rfl
@[simp] theorem State.modPort_pending (s : State) (p : Port) (f : PortBlock → PortBlock) : (s.modPort p f).pending = s.pending := rfl

@[simp] theorem State.modPort_ports_self (s : State) (p : Port) (f : PortBlock → PortBlock) :
    (s.modPort p f).ports.get p = f (s.ports.get p) := by simp [State.modPort]

theorem State.modPort_ports_ne (s : State) {p q : Port} (f : PortBlock → PortBlock) (h : p ≠ q) :
    (s.modPort p f).ports.get q = s.ports.get q := by simp [State.modPort, Tab.get_modify_ne _ _ h]

theorem State.modPort_ports_get (s : State) (p q : Port) (f : PortBlock → PortBlock) :
    (s.modPort p f).ports.get q = if p = q then f (s.ports.get q) else s.ports.get q := by
  simp [State.modPort, Tab.get_modify]

@[simp] theorem State.modPort_conductOf (s : State) (p : Port) (f : PortBlock → PortBlock) (a : Account) :
    (s.modPort p f).conductOf a = s.conductOf a := rfl

/-! ### One account's conduct record -/

@[simp] theorem State.modConduct_link (s : State) (a : Account) (f : ConductRec → ConductRec) : (s.modConduct a f).link = s.link := rfl
@[simp] theorem State.modConduct_ports (s : State) (a : Account) (f : ConductRec → ConductRec) : (s.modConduct a f).ports = s.ports := rfl
@[simp] theorem State.modConduct_scan (s : State) (a : Account) (f : ConductRec → ConductRec) : (s.modConduct a f).scan = s.scan := rfl
@[simp] theorem State.modConduct_timer (s : State) (a : Account) (f : ConductRec → ConductRec) : (s.modConduct a f).timer = s.timer := rfl
@[simp] theorem State.modConduct_plans (s : State) (a : Account) (f : ConductRec → ConductRec) : (s.modConduct a f).plans = s.plans := rfl
@[simp] theorem State.modConduct_mem (s : State) (a : Account) (f : ConductRec → ConductRec) : (s.modConduct a f).mem = s.mem := rfl
@[simp] theorem State.modConduct_win (s : State) (a : Account) (f : ConductRec → ConductRec) : (s.modConduct a f).win = s.win := rfl
@[simp] theorem State.modConduct_pending (s : State) (a : Account) (f : ConductRec → ConductRec) : (s.modConduct a f).pending = s.pending := rfl

@[simp] theorem State.modConduct_owed (s : State) (a : Account) (f : ConductRec → ConductRec) :
    (s.modConduct a f).conduct.owed = s.conduct.owed := rfl

@[simp] theorem State.modConduct_recs_self (s : State) (a : Account) (f : ConductRec → ConductRec) :
    (s.modConduct a f).conduct.recs.get a = f (s.conduct.recs.get a) := by simp [State.modConduct]

theorem State.modConduct_recs_get (s : State) (a b : Account) (f : ConductRec → ConductRec) :
    (s.modConduct a f).conduct.recs.get b = if a = b then f (s.conduct.recs.get b) else s.conduct.recs.get b := by
  simp [State.modConduct, Tab.get_modify]

/-! ### Cells, queues and service lists of a port -/

@[simp] theorem PortBlock.modCell_mode (b : PortBlock) (a : Account) (f : Cell → Cell) : (b.modCell a f).mode = b.mode := rfl
@[simp] theorem PortBlock.modCell_openEpoch (b : PortBlock) (a : Account) (f : Cell → Cell) : (b.modCell a f).openEpoch = b.openEpoch := rfl
@[simp] theorem PortBlock.modCell_table (b : PortBlock) (a : Account) (f : Cell → Cell) : (b.modCell a f).table = b.table := rfl
@[simp] theorem PortBlock.modCell_tagCounter (b : PortBlock) (a : Account) (f : Cell → Cell) : (b.modCell a f).tagCounter = b.tagCounter := rfl
@[simp] theorem PortBlock.modCell_urgentLists (b : PortBlock) (a : Account) (f : Cell → Cell) : (b.modCell a f).urgentLists = b.urgentLists := rfl
@[simp] theorem PortBlock.modCell_bulkLists (b : PortBlock) (a : Account) (f : Cell → Cell) : (b.modCell a f).bulkLists = b.bulkLists := rfl
@[simp] theorem PortBlock.modCell_urgentPtr (b : PortBlock) (a : Account) (f : Cell → Cell) : (b.modCell a f).urgentPtr = b.urgentPtr := rfl
@[simp] theorem PortBlock.modCell_bulkPtr (b : PortBlock) (a : Account) (f : Cell → Cell) : (b.modCell a f).bulkPtr = b.bulkPtr := rfl
@[simp] theorem PortBlock.modCell_counts (b : PortBlock) (a : Account) (f : Cell → Cell) : (b.modCell a f).counts = b.counts := rfl
@[simp] theorem PortBlock.modCell_capacity (b : PortBlock) (a : Account) (f : Cell → Cell) : (b.modCell a f).capacity = b.capacity := rfl
@[simp] theorem PortBlock.modCell_served (b : PortBlock) (a : Account) (f : Cell → Cell) : (b.modCell a f).served = b.served := rfl
@[simp] theorem PortBlock.modCell_totals (b : PortBlock) (a : Account) (f : Cell → Cell) : (b.modCell a f).totals = b.totals := rfl
@[simp] theorem PortBlock.modCell_filter (b : PortBlock) (a : Account) (f : Cell → Cell) : (b.modCell a f).filter = b.filter := rfl
@[simp] theorem PortBlock.modCell_inFlight (b : PortBlock) (a : Account) (f : Cell → Cell) : (b.modCell a f).inFlight = b.inFlight := rfl
@[simp] theorem PortBlock.modCell_queues (b : PortBlock) (a : Account) (f : Cell → Cell) : (b.modCell a f).queues = b.queues := rfl
@[simp] theorem PortBlock.modCell_refused (b : PortBlock) (a : Account) (f : Cell → Cell) : (b.modCell a f).refused = b.refused := rfl
@[simp] theorem PortBlock.modCell_values (b : PortBlock) (a : Account) (f : Cell → Cell) : (b.modCell a f).values = b.values := rfl
@[simp] theorem PortBlock.modCell_deferred (b : PortBlock) (a : Account) (f : Cell → Cell) : (b.modCell a f).deferred = b.deferred := rfl
@[simp] theorem PortBlock.modCell_closeOwed (b : PortBlock) (a : Account) (f : Cell → Cell) : (b.modCell a f).closeOwed = b.closeOwed := rfl
@[simp] theorem PortBlock.modCell_changeOwed (b : PortBlock) (a : Account) (f : Cell → Cell) : (b.modCell a f).changeOwed = b.changeOwed := rfl
@[simp] theorem PortBlock.modCell_allocDue (b : PortBlock) (a : Account) (f : Cell → Cell) : (b.modCell a f).allocDue = b.allocDue := rfl

theorem PortBlock.modCell_get (b : PortBlock) (a c : Account) (f : Cell → Cell) :
    (b.modCell a f).cells.get c = if a = c then f (b.cells.get c) else b.cells.get c := by
  simp [PortBlock.modCell, Tab.get_modify]

@[simp] theorem PortBlock.modQueue_mode (b : PortBlock) (q : QueueId) (f : Queue → Queue) : (b.modQueue q f).mode = b.mode := rfl
@[simp] theorem PortBlock.modQueue_openEpoch (b : PortBlock) (q : QueueId) (f : Queue → Queue) : (b.modQueue q f).openEpoch = b.openEpoch := rfl
@[simp] theorem PortBlock.modQueue_table (b : PortBlock) (q : QueueId) (f : Queue → Queue) : (b.modQueue q f).table = b.table := rfl
@[simp] theorem PortBlock.modQueue_tagCounter (b : PortBlock) (q : QueueId) (f : Queue → Queue) : (b.modQueue q f).tagCounter = b.tagCounter := rfl
@[simp] theorem PortBlock.modQueue_urgentLists (b : PortBlock) (q : QueueId) (f : Queue → Queue) : (b.modQueue q f).urgentLists = b.urgentLists := rfl
@[simp] theorem PortBlock.modQueue_bulkLists (b : PortBlock) (q : QueueId) (f : Queue → Queue) : (b.modQueue q f).bulkLists = b.bulkLists := rfl
@[simp] theorem PortBlock.modQueue_urgentPtr (b : PortBlock) (q : QueueId) (f : Queue → Queue) : (b.modQueue q f).urgentPtr = b.urgentPtr := rfl
@[simp] theorem PortBlock.modQueue_bulkPtr (b : PortBlock) (q : QueueId) (f : Queue → Queue) : (b.modQueue q f).bulkPtr = b.bulkPtr := rfl
@[simp] theorem PortBlock.modQueue_counts (b : PortBlock) (q : QueueId) (f : Queue → Queue) : (b.modQueue q f).counts = b.counts := rfl
@[simp] theorem PortBlock.modQueue_cells (b : PortBlock) (q : QueueId) (f : Queue → Queue) : (b.modQueue q f).cells = b.cells := rfl
@[simp] theorem PortBlock.modQueue_capacity (b : PortBlock) (q : QueueId) (f : Queue → Queue) : (b.modQueue q f).capacity = b.capacity := rfl
@[simp] theorem PortBlock.modQueue_served (b : PortBlock) (q : QueueId) (f : Queue → Queue) : (b.modQueue q f).served = b.served := rfl
@[simp] theorem PortBlock.modQueue_totals (b : PortBlock) (q : QueueId) (f : Queue → Queue) : (b.modQueue q f).totals = b.totals := rfl
@[simp] theorem PortBlock.modQueue_filter (b : PortBlock) (q : QueueId) (f : Queue → Queue) : (b.modQueue q f).filter = b.filter := rfl
@[simp] theorem PortBlock.modQueue_inFlight (b : PortBlock) (q : QueueId) (f : Queue → Queue) : (b.modQueue q f).inFlight = b.inFlight := rfl
@[simp] theorem PortBlock.modQueue_refused (b : PortBlock) (q : QueueId) (f : Queue → Queue) : (b.modQueue q f).refused = b.refused := rfl
@[simp] theorem PortBlock.modQueue_values (b : PortBlock) (q : QueueId) (f : Queue → Queue) : (b.modQueue q f).values = b.values := rfl
@[simp] theorem PortBlock.modQueue_deferred (b : PortBlock) (q : QueueId) (f : Queue → Queue) : (b.modQueue q f).deferred = b.deferred := rfl
@[simp] theorem PortBlock.modQueue_closeOwed (b : PortBlock) (q : QueueId) (f : Queue → Queue) : (b.modQueue q f).closeOwed = b.closeOwed := rfl
@[simp] theorem PortBlock.modQueue_changeOwed (b : PortBlock) (q : QueueId) (f : Queue → Queue) : (b.modQueue q f).changeOwed = b.changeOwed := rfl
@[simp] theorem PortBlock.modQueue_allocDue (b : PortBlock) (q : QueueId) (f : Queue → Queue) : (b.modQueue q f).allocDue = b.allocDue := rfl

theorem PortBlock.modQueue_get (b : PortBlock) (q r : QueueId) (f : Queue → Queue) :
    (b.modQueue q f).queues.get r = if q = r then f (b.queues.get r) else b.queues.get r := by
  simp [PortBlock.modQueue, Tab.get_modify]

@[simp] theorem PortBlock.modQueue_list (b : PortBlock) (q : QueueId) (f : Queue → Queue) (l : Lane) (a : Account) :
    (b.modQueue q f).list l a = b.list l a := by cases l <;> rfl

@[simp] theorem PortBlock.modCell_list (b : PortBlock) (x : Account) (f : Cell → Cell) (l : Lane) (a : Account) :
    (b.modCell x f).list l a = b.list l a := by cases l <;> rfl

@[simp] theorem PortBlock.setList_mode (b : PortBlock) (l : Lane) (a : Account) (q : List QueueId) :
    (b.setList l a q).mode = b.mode := by cases l <;> rfl
@[simp] theorem PortBlock.setList_openEpoch (b : PortBlock) (l : Lane) (a : Account) (q : List QueueId) :
    (b.setList l a q).openEpoch = b.openEpoch := by cases l <;> rfl
@[simp] theorem PortBlock.setList_table (b : PortBlock) (l : Lane) (a : Account) (q : List QueueId) :
    (b.setList l a q).table = b.table := by cases l <;> rfl
@[simp] theorem PortBlock.setList_tagCounter (b : PortBlock) (l : Lane) (a : Account) (q : List QueueId) :
    (b.setList l a q).tagCounter = b.tagCounter := by cases l <;> rfl
@[simp] theorem PortBlock.setList_urgentPtr (b : PortBlock) (l : Lane) (a : Account) (q : List QueueId) :
    (b.setList l a q).urgentPtr = b.urgentPtr := by cases l <;> rfl
@[simp] theorem PortBlock.setList_bulkPtr (b : PortBlock) (l : Lane) (a : Account) (q : List QueueId) :
    (b.setList l a q).bulkPtr = b.bulkPtr := by cases l <;> rfl
@[simp] theorem PortBlock.setList_counts (b : PortBlock) (l : Lane) (a : Account) (q : List QueueId) :
    (b.setList l a q).counts = b.counts := by cases l <;> rfl
@[simp] theorem PortBlock.setList_cells (b : PortBlock) (l : Lane) (a : Account) (q : List QueueId) :
    (b.setList l a q).cells = b.cells := by cases l <;> rfl
@[simp] theorem PortBlock.setList_capacity (b : PortBlock) (l : Lane) (a : Account) (q : List QueueId) :
    (b.setList l a q).capacity = b.capacity := by cases l <;> rfl
@[simp] theorem PortBlock.setList_served (b : PortBlock) (l : Lane) (a : Account) (q : List QueueId) :
    (b.setList l a q).served = b.served := by cases l <;> rfl
@[simp] theorem PortBlock.setList_totals (b : PortBlock) (l : Lane) (a : Account) (q : List QueueId) :
    (b.setList l a q).totals = b.totals := by cases l <;> rfl
@[simp] theorem PortBlock.setList_filter (b : PortBlock) (l : Lane) (a : Account) (q : List QueueId) :
    (b.setList l a q).filter = b.filter := by cases l <;> rfl
@[simp] theorem PortBlock.setList_inFlight (b : PortBlock) (l : Lane) (a : Account) (q : List QueueId) :
    (b.setList l a q).inFlight = b.inFlight := by cases l <;> rfl
@[simp] theorem PortBlock.setList_queues (b : PortBlock) (l : Lane) (a : Account) (q : List QueueId) :
    (b.setList l a q).queues = b.queues := by cases l <;> rfl
@[simp] theorem PortBlock.setList_refused (b : PortBlock) (l : Lane) (a : Account) (q : List QueueId) :
    (b.setList l a q).refused = b.refused := by cases l <;> rfl
@[simp] theorem PortBlock.setList_values (b : PortBlock) (l : Lane) (a : Account) (q : List QueueId) :
    (b.setList l a q).values = b.values := by cases l <;> rfl
@[simp] theorem PortBlock.setList_deferred (b : PortBlock) (l : Lane) (a : Account) (q : List QueueId) :
    (b.setList l a q).deferred = b.deferred := by cases l <;> rfl
@[simp] theorem PortBlock.setList_closeOwed (b : PortBlock) (l : Lane) (a : Account) (q : List QueueId) :
    (b.setList l a q).closeOwed = b.closeOwed := by cases l <;> rfl
@[simp] theorem PortBlock.setList_changeOwed (b : PortBlock) (l : Lane) (a : Account) (q : List QueueId) :
    (b.setList l a q).changeOwed = b.changeOwed := by cases l <;> rfl
@[simp] theorem PortBlock.setList_allocDue (b : PortBlock) (l : Lane) (a : Account) (q : List QueueId) :
    (b.setList l a q).allocDue = b.allocDue := by cases l <;> rfl

theorem PortBlock.setList_list (b : PortBlock) (l m : Lane) (a c : Account) (q : List QueueId) :
    (b.setList l a q).list m c = if l = m ∧ a = c then q else b.list m c := by
  cases l <;> cases m <;> simp [PortBlock.setList, PortBlock.list, Tab.get_set]

@[simp] theorem PortBlock.joinList_mode (b : PortBlock) (l : Lane) (a : Account) (q : QueueId) :
    (b.joinList l a q).mode = b.mode := PortBlock.setList_mode ..
@[simp] theorem PortBlock.joinList_openEpoch (b : PortBlock) (l : Lane) (a : Account) (q : QueueId) :
    (b.joinList l a q).openEpoch = b.openEpoch := PortBlock.setList_openEpoch ..
@[simp] theorem PortBlock.joinList_table (b : PortBlock) (l : Lane) (a : Account) (q : QueueId) :
    (b.joinList l a q).table = b.table := PortBlock.setList_table ..
@[simp] theorem PortBlock.joinList_tagCounter (b : PortBlock) (l : Lane) (a : Account) (q : QueueId) :
    (b.joinList l a q).tagCounter = b.tagCounter := PortBlock.setList_tagCounter ..
@[simp] theorem PortBlock.joinList_urgentPtr (b : PortBlock) (l : Lane) (a : Account) (q : QueueId) :
    (b.joinList l a q).urgentPtr = b.urgentPtr := PortBlock.setList_urgentPtr ..
@[simp] theorem PortBlock.joinList_bulkPtr (b : PortBlock) (l : Lane) (a : Account) (q : QueueId) :
    (b.joinList l a q).bulkPtr = b.bulkPtr := PortBlock.setList_bulkPtr ..
@[simp] theorem PortBlock.joinList_counts (b : PortBlock) (l : Lane) (a : Account) (q : QueueId) :
    (b.joinList l a q).counts = b.counts := PortBlock.setList_counts ..
@[simp] theorem PortBlock.joinList_cells (b : PortBlock) (l : Lane) (a : Account) (q : QueueId) :
    (b.joinList l a q).cells = b.cells := PortBlock.setList_cells ..
@[simp] theorem PortBlock.joinList_capacity (b : PortBlock) (l : Lane) (a : Account) (q : QueueId) :
    (b.joinList l a q).capacity = b.capacity := PortBlock.setList_capacity ..
@[simp] theorem PortBlock.joinList_served (b : PortBlock) (l : Lane) (a : Account) (q : QueueId) :
    (b.joinList l a q).served = b.served := PortBlock.setList_served ..
@[simp] theorem PortBlock.joinList_totals (b : PortBlock) (l : Lane) (a : Account) (q : QueueId) :
    (b.joinList l a q).totals = b.totals := PortBlock.setList_totals ..
@[simp] theorem PortBlock.joinList_filter (b : PortBlock) (l : Lane) (a : Account) (q : QueueId) :
    (b.joinList l a q).filter = b.filter := PortBlock.setList_filter ..
@[simp] theorem PortBlock.joinList_inFlight (b : PortBlock) (l : Lane) (a : Account) (q : QueueId) :
    (b.joinList l a q).inFlight = b.inFlight := PortBlock.setList_inFlight ..
@[simp] theorem PortBlock.joinList_queues (b : PortBlock) (l : Lane) (a : Account) (q : QueueId) :
    (b.joinList l a q).queues = b.queues := PortBlock.setList_queues ..
@[simp] theorem PortBlock.joinList_refused (b : PortBlock) (l : Lane) (a : Account) (q : QueueId) :
    (b.joinList l a q).refused = b.refused := PortBlock.setList_refused ..
@[simp] theorem PortBlock.joinList_values (b : PortBlock) (l : Lane) (a : Account) (q : QueueId) :
    (b.joinList l a q).values = b.values := PortBlock.setList_values ..
@[simp] theorem PortBlock.joinList_deferred (b : PortBlock) (l : Lane) (a : Account) (q : QueueId) :
    (b.joinList l a q).deferred = b.deferred := PortBlock.setList_deferred ..
@[simp] theorem PortBlock.joinList_closeOwed (b : PortBlock) (l : Lane) (a : Account) (q : QueueId) :
    (b.joinList l a q).closeOwed = b.closeOwed := PortBlock.setList_closeOwed ..
@[simp] theorem PortBlock.joinList_changeOwed (b : PortBlock) (l : Lane) (a : Account) (q : QueueId) :
    (b.joinList l a q).changeOwed = b.changeOwed := PortBlock.setList_changeOwed ..
@[simp] theorem PortBlock.joinList_allocDue (b : PortBlock) (l : Lane) (a : Account) (q : QueueId) :
    (b.joinList l a q).allocDue = b.allocDue := PortBlock.setList_allocDue ..
@[simp] theorem PortBlock.leaveList_mode (b : PortBlock) (l : Lane) (a : Account) (q : QueueId) :
    (b.leaveList l a q).mode = b.mode := PortBlock.setList_mode ..
@[simp] theorem PortBlock.leaveList_openEpoch (b : PortBlock) (l : Lane) (a : Account) (q : QueueId) :
    (b.leaveList l a q).openEpoch = b.openEpoch := PortBlock.setList_openEpoch ..
@[simp] theorem PortBlock.leaveList_table (b : PortBlock) (l : Lane) (a : Account) (q : QueueId) :
    (b.leaveList l a q).table = b.table := PortBlock.setList_table ..
@[simp] theorem PortBlock.leaveList_tagCounter (b : PortBlock) (l : Lane) (a : Account) (q : QueueId) :
    (b.leaveList l a q).tagCounter = b.tagCounter := PortBlock.setList_tagCounter ..
@[simp] theorem PortBlock.leaveList_urgentPtr (b : PortBlock) (l : Lane) (a : Account) (q : QueueId) :
    (b.leaveList l a q).urgentPtr = b.urgentPtr := PortBlock.setList_urgentPtr ..
@[simp] theorem PortBlock.leaveList_bulkPtr (b : PortBlock) (l : Lane) (a : Account) (q : QueueId) :
    (b.leaveList l a q).bulkPtr = b.bulkPtr := PortBlock.setList_bulkPtr ..
@[simp] theorem PortBlock.leaveList_counts (b : PortBlock) (l : Lane) (a : Account) (q : QueueId) :
    (b.leaveList l a q).counts = b.counts := PortBlock.setList_counts ..
@[simp] theorem PortBlock.leaveList_cells (b : PortBlock) (l : Lane) (a : Account) (q : QueueId) :
    (b.leaveList l a q).cells = b.cells := PortBlock.setList_cells ..
@[simp] theorem PortBlock.leaveList_capacity (b : PortBlock) (l : Lane) (a : Account) (q : QueueId) :
    (b.leaveList l a q).capacity = b.capacity := PortBlock.setList_capacity ..
@[simp] theorem PortBlock.leaveList_served (b : PortBlock) (l : Lane) (a : Account) (q : QueueId) :
    (b.leaveList l a q).served = b.served := PortBlock.setList_served ..
@[simp] theorem PortBlock.leaveList_totals (b : PortBlock) (l : Lane) (a : Account) (q : QueueId) :
    (b.leaveList l a q).totals = b.totals := PortBlock.setList_totals ..
@[simp] theorem PortBlock.leaveList_filter (b : PortBlock) (l : Lane) (a : Account) (q : QueueId) :
    (b.leaveList l a q).filter = b.filter := PortBlock.setList_filter ..
@[simp] theorem PortBlock.leaveList_inFlight (b : PortBlock) (l : Lane) (a : Account) (q : QueueId) :
    (b.leaveList l a q).inFlight = b.inFlight := PortBlock.setList_inFlight ..
@[simp] theorem PortBlock.leaveList_queues (b : PortBlock) (l : Lane) (a : Account) (q : QueueId) :
    (b.leaveList l a q).queues = b.queues := PortBlock.setList_queues ..
@[simp] theorem PortBlock.leaveList_refused (b : PortBlock) (l : Lane) (a : Account) (q : QueueId) :
    (b.leaveList l a q).refused = b.refused := PortBlock.setList_refused ..
@[simp] theorem PortBlock.leaveList_values (b : PortBlock) (l : Lane) (a : Account) (q : QueueId) :
    (b.leaveList l a q).values = b.values := PortBlock.setList_values ..
@[simp] theorem PortBlock.leaveList_deferred (b : PortBlock) (l : Lane) (a : Account) (q : QueueId) :
    (b.leaveList l a q).deferred = b.deferred := PortBlock.setList_deferred ..
@[simp] theorem PortBlock.leaveList_closeOwed (b : PortBlock) (l : Lane) (a : Account) (q : QueueId) :
    (b.leaveList l a q).closeOwed = b.closeOwed := PortBlock.setList_closeOwed ..
@[simp] theorem PortBlock.leaveList_changeOwed (b : PortBlock) (l : Lane) (a : Account) (q : QueueId) :
    (b.leaveList l a q).changeOwed = b.changeOwed := PortBlock.setList_changeOwed ..
@[simp] theorem PortBlock.leaveList_allocDue (b : PortBlock) (l : Lane) (a : Account) (q : QueueId) :
    (b.leaveList l a q).allocDue = b.allocDue := PortBlock.setList_allocDue ..

theorem PortBlock.joinList_list (b : PortBlock) (l m : Lane) (a c : Account) (q : QueueId) :
    (b.joinList l a q).list m c = if l = m ∧ a = c then b.list l a ++ [q] else b.list m c :=
  PortBlock.setList_list ..

theorem PortBlock.leaveList_list (b : PortBlock) (l m : Lane) (a c : Account) (q : QueueId) :
    (b.leaveList l a q).list m c = if l = m ∧ a = c then (b.list l a).filter (· ≠ q) else b.list m c :=
  PortBlock.setList_list ..

@[simp] theorem PortBlock.setPtr_mode (b : PortBlock) (l : Lane) (a : Account) : (b.setPtr l a).mode = b.mode := by
  cases l <;> rfl
@[simp] theorem PortBlock.setPtr_openEpoch (b : PortBlock) (l : Lane) (a : Account) : (b.setPtr l a).openEpoch = b.openEpoch := by
  cases l <;> rfl
@[simp] theorem PortBlock.setPtr_table (b : PortBlock) (l : Lane) (a : Account) : (b.setPtr l a).table = b.table := by
  cases l <;> rfl
@[simp] theorem PortBlock.setPtr_tagCounter (b : PortBlock) (l : Lane) (a : Account) : (b.setPtr l a).tagCounter = b.tagCounter := by
  cases l <;> rfl
@[simp] theorem PortBlock.setPtr_urgentLists (b : PortBlock) (l : Lane) (a : Account) : (b.setPtr l a).urgentLists = b.urgentLists := by
  cases l <;> rfl
@[simp] theorem PortBlock.setPtr_bulkLists (b : PortBlock) (l : Lane) (a : Account) : (b.setPtr l a).bulkLists = b.bulkLists := by
  cases l <;> rfl
@[simp] theorem PortBlock.setPtr_counts (b : PortBlock) (l : Lane) (a : Account) : (b.setPtr l a).counts = b.counts := by
  cases l <;> rfl
@[simp] theorem PortBlock.setPtr_cells (b : PortBlock) (l : Lane) (a : Account) : (b.setPtr l a).cells = b.cells := by
  cases l <;> rfl
@[simp] theorem PortBlock.setPtr_capacity (b : PortBlock) (l : Lane) (a : Account) : (b.setPtr l a).capacity = b.capacity := by
  cases l <;> rfl
@[simp] theorem PortBlock.setPtr_served (b : PortBlock) (l : Lane) (a : Account) : (b.setPtr l a).served = b.served := by
  cases l <;> rfl
@[simp] theorem PortBlock.setPtr_totals (b : PortBlock) (l : Lane) (a : Account) : (b.setPtr l a).totals = b.totals := by
  cases l <;> rfl
@[simp] theorem PortBlock.setPtr_filter (b : PortBlock) (l : Lane) (a : Account) : (b.setPtr l a).filter = b.filter := by
  cases l <;> rfl
@[simp] theorem PortBlock.setPtr_inFlight (b : PortBlock) (l : Lane) (a : Account) : (b.setPtr l a).inFlight = b.inFlight := by
  cases l <;> rfl
@[simp] theorem PortBlock.setPtr_queues (b : PortBlock) (l : Lane) (a : Account) : (b.setPtr l a).queues = b.queues := by
  cases l <;> rfl
@[simp] theorem PortBlock.setPtr_refused (b : PortBlock) (l : Lane) (a : Account) : (b.setPtr l a).refused = b.refused := by
  cases l <;> rfl
@[simp] theorem PortBlock.setPtr_values (b : PortBlock) (l : Lane) (a : Account) : (b.setPtr l a).values = b.values := by
  cases l <;> rfl
@[simp] theorem PortBlock.setPtr_deferred (b : PortBlock) (l : Lane) (a : Account) : (b.setPtr l a).deferred = b.deferred := by
  cases l <;> rfl
@[simp] theorem PortBlock.setPtr_closeOwed (b : PortBlock) (l : Lane) (a : Account) : (b.setPtr l a).closeOwed = b.closeOwed := by
  cases l <;> rfl
@[simp] theorem PortBlock.setPtr_changeOwed (b : PortBlock) (l : Lane) (a : Account) : (b.setPtr l a).changeOwed = b.changeOwed := by
  cases l <;> rfl
@[simp] theorem PortBlock.setPtr_allocDue (b : PortBlock) (l : Lane) (a : Account) : (b.setPtr l a).allocDue = b.allocDue := by
  cases l <;> rfl

@[simp] theorem PortBlock.setPtr_list (b : PortBlock) (m : Lane) (x : Account) (l : Lane) (a : Account) :
    (b.setPtr m x).list l a = b.list l a := by cases m <;> cases l <;> rfl

theorem PortBlock.setPtr_ptr (b : PortBlock) (l m : Lane) (a : Account) :
    (b.setPtr l a).ptr m = if l = m then a else b.ptr m := by cases l <;> cases m <;> rfl

/-! ### The table -/

@[simp] theorem PortBlock.removeEntry_mode (b : PortBlock) (t : Tag) : (b.removeEntry t).mode = b.mode := rfl
@[simp] theorem PortBlock.removeEntry_openEpoch (b : PortBlock) (t : Tag) : (b.removeEntry t).openEpoch = b.openEpoch := rfl
@[simp] theorem PortBlock.removeEntry_tagCounter (b : PortBlock) (t : Tag) : (b.removeEntry t).tagCounter = b.tagCounter := rfl
@[simp] theorem PortBlock.removeEntry_urgentLists (b : PortBlock) (t : Tag) : (b.removeEntry t).urgentLists = b.urgentLists := rfl
@[simp] theorem PortBlock.removeEntry_bulkLists (b : PortBlock) (t : Tag) : (b.removeEntry t).bulkLists = b.bulkLists := rfl
@[simp] theorem PortBlock.removeEntry_urgentPtr (b : PortBlock) (t : Tag) : (b.removeEntry t).urgentPtr = b.urgentPtr := rfl
@[simp] theorem PortBlock.removeEntry_bulkPtr (b : PortBlock) (t : Tag) : (b.removeEntry t).bulkPtr = b.bulkPtr := rfl
@[simp] theorem PortBlock.removeEntry_counts (b : PortBlock) (t : Tag) : (b.removeEntry t).counts = b.counts := rfl
@[simp] theorem PortBlock.removeEntry_cells (b : PortBlock) (t : Tag) : (b.removeEntry t).cells = b.cells := rfl
@[simp] theorem PortBlock.removeEntry_capacity (b : PortBlock) (t : Tag) : (b.removeEntry t).capacity = b.capacity := rfl
@[simp] theorem PortBlock.removeEntry_served (b : PortBlock) (t : Tag) : (b.removeEntry t).served = b.served := rfl
@[simp] theorem PortBlock.removeEntry_totals (b : PortBlock) (t : Tag) : (b.removeEntry t).totals = b.totals := rfl
@[simp] theorem PortBlock.removeEntry_filter (b : PortBlock) (t : Tag) : (b.removeEntry t).filter = b.filter := rfl
@[simp] theorem PortBlock.removeEntry_inFlight (b : PortBlock) (t : Tag) : (b.removeEntry t).inFlight = b.inFlight := rfl
@[simp] theorem PortBlock.removeEntry_queues (b : PortBlock) (t : Tag) : (b.removeEntry t).queues = b.queues := rfl
@[simp] theorem PortBlock.removeEntry_refused (b : PortBlock) (t : Tag) : (b.removeEntry t).refused = b.refused := rfl
@[simp] theorem PortBlock.removeEntry_values (b : PortBlock) (t : Tag) : (b.removeEntry t).values = b.values := rfl
@[simp] theorem PortBlock.removeEntry_deferred (b : PortBlock) (t : Tag) : (b.removeEntry t).deferred = b.deferred := rfl
@[simp] theorem PortBlock.removeEntry_closeOwed (b : PortBlock) (t : Tag) : (b.removeEntry t).closeOwed = b.closeOwed := rfl
@[simp] theorem PortBlock.removeEntry_changeOwed (b : PortBlock) (t : Tag) : (b.removeEntry t).changeOwed = b.changeOwed := rfl
@[simp] theorem PortBlock.removeEntry_allocDue (b : PortBlock) (t : Tag) : (b.removeEntry t).allocDue = b.allocDue := rfl
@[simp] theorem PortBlock.modEntry_mode (b : PortBlock) (t : Tag) (f : Entry → Entry) : (b.modEntry t f).mode = b.mode := rfl
@[simp] theorem PortBlock.modEntry_openEpoch (b : PortBlock) (t : Tag) (f : Entry → Entry) : (b.modEntry t f).openEpoch = b.openEpoch := rfl
@[simp] theorem PortBlock.modEntry_tagCounter (b : PortBlock) (t : Tag) (f : Entry → Entry) : (b.modEntry t f).tagCounter = b.tagCounter := rfl
@[simp] theorem PortBlock.modEntry_urgentLists (b : PortBlock) (t : Tag) (f : Entry → Entry) : (b.modEntry t f).urgentLists = b.urgentLists := rfl
@[simp] theorem PortBlock.modEntry_bulkLists (b : PortBlock) (t : Tag) (f : Entry → Entry) : (b.modEntry t f).bulkLists = b.bulkLists := rfl
@[simp] theorem PortBlock.modEntry_urgentPtr (b : PortBlock) (t : Tag) (f : Entry → Entry) : (b.modEntry t f).urgentPtr = b.urgentPtr := rfl
@[simp] theorem PortBlock.modEntry_bulkPtr (b : PortBlock) (t : Tag) (f : Entry → Entry) : (b.modEntry t f).bulkPtr = b.bulkPtr := rfl
@[simp] theorem PortBlock.modEntry_counts (b : PortBlock) (t : Tag) (f : Entry → Entry) : (b.modEntry t f).counts = b.counts := rfl
@[simp] theorem PortBlock.modEntry_cells (b : PortBlock) (t : Tag) (f : Entry → Entry) : (b.modEntry t f).cells = b.cells := rfl
@[simp] theorem PortBlock.modEntry_capacity (b : PortBlock) (t : Tag) (f : Entry → Entry) : (b.modEntry t f).capacity = b.capacity := rfl
@[simp] theorem PortBlock.modEntry_served (b : PortBlock) (t : Tag) (f : Entry → Entry) : (b.modEntry t f).served = b.served := rfl
@[simp] theorem PortBlock.modEntry_totals (b : PortBlock) (t : Tag) (f : Entry → Entry) : (b.modEntry t f).totals = b.totals := rfl
@[simp] theorem PortBlock.modEntry_filter (b : PortBlock) (t : Tag) (f : Entry → Entry) : (b.modEntry t f).filter = b.filter := rfl
@[simp] theorem PortBlock.modEntry_inFlight (b : PortBlock) (t : Tag) (f : Entry → Entry) : (b.modEntry t f).inFlight = b.inFlight := rfl
@[simp] theorem PortBlock.modEntry_queues (b : PortBlock) (t : Tag) (f : Entry → Entry) : (b.modEntry t f).queues = b.queues := rfl
@[simp] theorem PortBlock.modEntry_refused (b : PortBlock) (t : Tag) (f : Entry → Entry) : (b.modEntry t f).refused = b.refused := rfl
@[simp] theorem PortBlock.modEntry_values (b : PortBlock) (t : Tag) (f : Entry → Entry) : (b.modEntry t f).values = b.values := rfl
@[simp] theorem PortBlock.modEntry_deferred (b : PortBlock) (t : Tag) (f : Entry → Entry) : (b.modEntry t f).deferred = b.deferred := rfl
@[simp] theorem PortBlock.modEntry_closeOwed (b : PortBlock) (t : Tag) (f : Entry → Entry) : (b.modEntry t f).closeOwed = b.closeOwed := rfl
@[simp] theorem PortBlock.modEntry_changeOwed (b : PortBlock) (t : Tag) (f : Entry → Entry) : (b.modEntry t f).changeOwed = b.changeOwed := rfl
@[simp] theorem PortBlock.modEntry_allocDue (b : PortBlock) (t : Tag) (f : Entry → Entry) : (b.modEntry t f).allocDue = b.allocDue := rfl
@[simp] theorem PortBlock.ageTable_mode (b : PortBlock) : (b.ageTable).mode = b.mode := rfl
@[simp] theorem PortBlock.ageTable_openEpoch (b : PortBlock) : (b.ageTable).openEpoch = b.openEpoch := rfl
@[simp] theorem PortBlock.ageTable_tagCounter (b : PortBlock) : (b.ageTable).tagCounter = b.tagCounter := rfl
@[simp] theorem PortBlock.ageTable_urgentLists (b : PortBlock) : (b.ageTable).urgentLists = b.urgentLists := rfl
@[simp] theorem PortBlock.ageTable_bulkLists (b : PortBlock) : (b.ageTable).bulkLists = b.bulkLists := rfl
@[simp] theorem PortBlock.ageTable_urgentPtr (b : PortBlock) : (b.ageTable).urgentPtr = b.urgentPtr := rfl
@[simp] theorem PortBlock.ageTable_bulkPtr (b : PortBlock) : (b.ageTable).bulkPtr = b.bulkPtr := rfl
@[simp] theorem PortBlock.ageTable_counts (b : PortBlock) : (b.ageTable).counts = b.counts := rfl
@[simp] theorem PortBlock.ageTable_cells (b : PortBlock) : (b.ageTable).cells = b.cells := rfl
@[simp] theorem PortBlock.ageTable_capacity (b : PortBlock) : (b.ageTable).capacity = b.capacity := rfl
@[simp] theorem PortBlock.ageTable_served (b : PortBlock) : (b.ageTable).served = b.served := rfl
@[simp] theorem PortBlock.ageTable_totals (b : PortBlock) : (b.ageTable).totals = b.totals := rfl
@[simp] theorem PortBlock.ageTable_filter (b : PortBlock) : (b.ageTable).filter = b.filter := rfl
@[simp] theorem PortBlock.ageTable_inFlight (b : PortBlock) : (b.ageTable).inFlight = b.inFlight := rfl
@[simp] theorem PortBlock.ageTable_queues (b : PortBlock) : (b.ageTable).queues = b.queues := rfl
@[simp] theorem PortBlock.ageTable_refused (b : PortBlock) : (b.ageTable).refused = b.refused := rfl
@[simp] theorem PortBlock.ageTable_values (b : PortBlock) : (b.ageTable).values = b.values := rfl
@[simp] theorem PortBlock.ageTable_deferred (b : PortBlock) : (b.ageTable).deferred = b.deferred := rfl
@[simp] theorem PortBlock.ageTable_closeOwed (b : PortBlock) : (b.ageTable).closeOwed = b.closeOwed := rfl
@[simp] theorem PortBlock.ageTable_changeOwed (b : PortBlock) : (b.ageTable).changeOwed = b.changeOwed := rfl
@[simp] theorem PortBlock.ageTable_allocDue (b : PortBlock) : (b.ageTable).allocDue = b.allocDue := rfl

/-! ### The sync state and the Run value -/

@[simp] theorem State.setSync_link (s : State) (y : SyncState) : (s.setSync y).link = s.link := rfl
@[simp] theorem State.setSync_ports (s : State) (y : SyncState) : (s.setSync y).ports = s.ports := rfl
@[simp] theorem State.setSync_conduct (s : State) (y : SyncState) : (s.setSync y).conduct = s.conduct := rfl
@[simp] theorem State.setSync_scan (s : State) (y : SyncState) : (s.setSync y).scan = s.scan := rfl
@[simp] theorem State.setSync_plans (s : State) (y : SyncState) : (s.setSync y).plans = s.plans := rfl
@[simp] theorem State.setSync_mem (s : State) (y : SyncState) : (s.setSync y).mem = s.mem := rfl
@[simp] theorem State.setSync_win (s : State) (y : SyncState) : (s.setSync y).win = s.win := rfl
@[simp] theorem State.setSync_pending (s : State) (y : SyncState) : (s.setSync y).pending = s.pending := rfl
@[simp] theorem State.storeRun_link (s : State) (v : Bool) : (s.storeRun v).link = s.link := rfl
@[simp] theorem State.storeRun_ports (s : State) (v : Bool) : (s.storeRun v).ports = s.ports := rfl
@[simp] theorem State.storeRun_conduct (s : State) (v : Bool) : (s.storeRun v).conduct = s.conduct := rfl
@[simp] theorem State.storeRun_scan (s : State) (v : Bool) : (s.storeRun v).scan = s.scan := rfl
@[simp] theorem State.storeRun_timer (s : State) (v : Bool) : (s.storeRun v).timer = s.timer := rfl
@[simp] theorem State.storeRun_plans (s : State) (v : Bool) : (s.storeRun v).plans = s.plans := rfl
@[simp] theorem State.storeRun_mem (s : State) (v : Bool) : (s.storeRun v).mem = s.mem := rfl
@[simp] theorem State.storeRun_pending (s : State) (v : Bool) : (s.storeRun v).pending = s.pending := rfl
@[simp] theorem State.storeRun_win_pageLo (s : State) (v : Bool) : (s.storeRun v).win.pageLo = s.win.pageLo := rfl
@[simp] theorem State.storeRun_win_pageHi (s : State) (v : Bool) : (s.storeRun v).win.pageHi = s.win.pageHi := rfl
@[simp] theorem State.storeRun_win_mode (s : State) (v : Bool) : (s.storeRun v).win.mode = s.win.mode := rfl
@[simp] theorem State.storeRun_win_refusal (s : State) (v : Bool) : (s.storeRun v).win.refusal = s.win.refusal := rfl
@[simp] theorem State.storeRun_win_startRead (s : State) (v : Bool) : (s.storeRun v).win.startRead = s.win.startRead := rfl
@[simp] theorem State.storeRun_win_withdrawn (s : State) (v : Bool) : (s.storeRun v).win.withdrawn = s.win.withdrawn := rfl
@[simp] theorem State.storeRun_win_parking (s : State) (v : Bool) : (s.storeRun v).win.parking = s.win.parking := rfl
@[simp] theorem State.storeRun_win_run (s : State) (v : Bool) : (s.storeRun v).win.run = v := rfl
@[simp] theorem State.setSync_timer_running (s : State) (y : SyncState) : (s.setSync y).timer.running = s.timer.running := rfl
@[simp] theorem State.setSync_timer_epoch (s : State) (y : SyncState) : (s.setSync y).timer.epoch = s.timer.epoch := rfl
@[simp] theorem State.setSync_timer_last (s : State) (y : SyncState) : (s.setSync y).timer.last = s.timer.last := rfl
@[simp] theorem State.setSync_timer_due (s : State) (y : SyncState) : (s.setSync y).timer.due = s.timer.due := rfl
@[simp] theorem State.setSync_timer_started (s : State) (y : SyncState) : (s.setSync y).timer.started = s.timer.started := rfl
@[simp] theorem State.setSync_timer_timing (s : State) (y : SyncState) : (s.setSync y).timer.timing = s.timer.timing := rfl
@[simp] theorem State.setSync_timer_pending (s : State) (y : SyncState) : (s.setSync y).timer.pending = s.timer.pending := rfl
@[simp] theorem State.setSync_timer_driving (s : State) (y : SyncState) : (s.setSync y).timer.driving = s.timer.driving := rfl
@[simp] theorem State.setSync_timer_sync (s : State) (y : SyncState) : (s.setSync y).timer.sync = y := rfl

/-! ### The memory side -/

@[simp] theorem MemSide.quiet_mode (m : MemSide) : (m.quiet).mode = m.mode := rfl
@[simp] theorem MemSide.quiet_region (m : MemSide) : (m.quiet).region = m.region := rfl
@[simp] theorem MemSide.quiet_journalBase (m : MemSide) : (m.quiet).journalBase = m.journalBase := rfl
@[simp] theorem MemSide.quiet_capacity (m : MemSide) : (m.quiet).capacity = m.capacity := rfl
@[simp] theorem MemSide.quiet_usageBase (m : MemSide) : (m.quiet).usageBase = m.usageBase := rfl
@[simp] theorem MemSide.quiet_signalAddr (m : MemSide) : (m.quiet).signalAddr = m.signalAddr := rfl
@[simp] theorem MemSide.quiet_signalValue (m : MemSide) : (m.quiet).signalValue = m.signalValue := rfl
@[simp] theorem MemSide.quiet_signalMask (m : MemSide) : (m.quiet).signalMask = m.signalMask := rfl
@[simp] theorem MemSide.quiet_produced (m : MemSide) : (m.quiet).produced = m.produced := rfl
@[simp] theorem MemSide.quiet_consumed (m : MemSide) : (m.quiet).consumed = m.consumed := rfl
@[simp] theorem MemSide.quiet_notices (m : MemSide) : (m.quiet).notices = m.notices := rfl
@[simp] theorem MemSide.quiet_slots (m : MemSide) : (m.quiet).slots = m.slots := rfl
@[simp] theorem MemSide.quiet_lapsed (m : MemSide) : (m.quiet).lapsed = m.lapsed := rfl
@[simp] theorem MemSide.quiet_armed (m : MemSide) : (m.quiet).armed = m.armed := rfl
@[simp] theorem MemSide.quiet_noted (m : MemSide) : (m.quiet).noted = m.noted := rfl
@[simp] theorem MemSide.quiet_signalDue (m : MemSide) : (m.quiet).signalDue = m.signalDue := rfl
@[simp] theorem MemSide.quiet_stmtCount (m : MemSide) : (m.quiet).stmtCount = m.stmtCount := rfl
@[simp] theorem MemSide.quiet_stmtNumber (m : MemSide) : (m.quiet).stmtNumber = m.stmtNumber := rfl
@[simp] theorem MemSide.quiet_stmtOwed (m : MemSide) : (m.quiet).stmtOwed = m.stmtOwed := rfl

end Sys2Proof.Machine
end

