-- ==== Sys2Proof/Laws/Memory.lean ====
section
/-! SUPPORT. What the shared operations on the notice queue, the output queue, the report slots, the writing pass and the
register window can do, and what each leaves unchanged. -/

namespace Sys2Proof.Machine

set_option Elab.async false

/-! ### Posting a notice (R154) -/

/-- All that posting a notice can do. -/
theorem State.post_cases (s : State) (n : Notice) :
    (s.mem.notices.length < 32 ∧
      s.post n = { s with mem := { s.mem with notices := s.mem.notices ++ [n] } }) ∨
    (32 ≤ s.mem.notices.length ∧ s.post n = { s with mem := { s.mem with lapsed := s.mem.lapsed + 1 } }) := by
  unfold State.post Config.noticeDepth
  split
  · exact .inl ⟨‹_›, rfl⟩
  · exact .inr ⟨by omega, rfl⟩

@[simp] theorem State.post_link (s : State) (n : Notice) : (s.post n).link = s.link := by unfold State.post; split <;> rfl
@[simp] theorem State.post_ports (s : State) (n : Notice) : (s.post n).ports = s.ports := by unfold State.post; split <;> rfl
@[simp] theorem State.post_conduct (s : State) (n : Notice) : (s.post n).conduct = s.conduct := by unfold State.post; split <;> rfl
@[simp] theorem State.post_scan (s : State) (n : Notice) : (s.post n).scan = s.scan := by unfold State.post; split <;> rfl
@[simp] theorem State.post_timer (s : State) (n : Notice) : (s.post n).timer = s.timer := by unfold State.post; split <;> rfl
@[simp] theorem State.post_plans (s : State) (n : Notice) : (s.post n).plans = s.plans := by unfold State.post; split <;> rfl
@[simp] theorem State.post_win (s : State) (n : Notice) : (s.post n).win = s.win := by unfold State.post; split <;> rfl
@[simp] theorem State.post_pending (s : State) (n : Notice) : (s.post n).pending = s.pending := by unfold State.post; split <;> rfl
@[simp] theorem State.post_mem_mode (s : State) (n : Notice) :
    (s.post n).mem.mode = s.mem.mode := by unfold State.post; split <;> rfl
@[simp] theorem State.post_mem_region (s : State) (n : Notice) :
    (s.post n).mem.region = s.mem.region := by unfold State.post; split <;> rfl
@[simp] theorem State.post_mem_journalBase (s : State) (n : Notice) :
    (s.post n).mem.journalBase = s.mem.journalBase := by unfold State.post; split <;> rfl
@[simp] theorem State.post_mem_capacity (s : State) (n : Notice) :
    (s.post n).mem.capacity = s.mem.capacity := by unfold State.post; split <;> rfl
@[simp] theorem State.post_mem_usageBase (s : State) (n : Notice) :
    (s.post n).mem.usageBase = s.mem.usageBase := by unfold State.post; split <;> rfl
@[simp] theorem State.post_mem_signalAddr (s : State) (n : Notice) :
    (s.post n).mem.signalAddr = s.mem.signalAddr := by unfold State.post; split <;> rfl
@[simp] theorem State.post_mem_signalValue (s : State) (n : Notice) :
    (s.post n).mem.signalValue = s.mem.signalValue := by unfold State.post; split <;> rfl
@[simp] theorem State.post_mem_signalMask (s : State) (n : Notice) :
    (s.post n).mem.signalMask = s.mem.signalMask := by unfold State.post; split <;> rfl
@[simp] theorem State.post_mem_produced (s : State) (n : Notice) :
    (s.post n).mem.produced = s.mem.produced := by unfold State.post; split <;> rfl
@[simp] theorem State.post_mem_consumed (s : State) (n : Notice) :
    (s.post n).mem.consumed = s.mem.consumed := by unfold State.post; split <;> rfl
@[simp] theorem State.post_mem_slots (s : State) (n : Notice) :
    (s.post n).mem.slots = s.mem.slots := by unfold State.post; split <;> rfl
@[simp] theorem State.post_mem_armed (s : State) (n : Notice) :
    (s.post n).mem.armed = s.mem.armed := by unfold State.post; split <;> rfl
@[simp] theorem State.post_mem_noted (s : State) (n : Notice) :
    (s.post n).mem.noted = s.mem.noted := by unfold State.post; split <;> rfl
@[simp] theorem State.post_mem_rewrite (s : State) (n : Notice) :
    (s.post n).mem.rewrite = s.mem.rewrite := by unfold State.post; split <;> rfl
@[simp] theorem State.post_mem_signalDue (s : State) (n : Notice) :
    (s.post n).mem.signalDue = s.mem.signalDue := by unfold State.post; split <;> rfl
@[simp] theorem State.post_mem_stmtCount (s : State) (n : Notice) :
    (s.post n).mem.stmtCount = s.mem.stmtCount := by unfold State.post; split <;> rfl
@[simp] theorem State.post_mem_stmtNumber (s : State) (n : Notice) :
    (s.post n).mem.stmtNumber = s.mem.stmtNumber := by unfold State.post; split <;> rfl
@[simp] theorem State.post_mem_stmtOwed (s : State) (n : Notice) :
    (s.post n).mem.stmtOwed = s.mem.stmtOwed := by unfold State.post; split <;> rfl
@[simp] theorem State.post_mem_statement (s : State) (n : Notice) :
    (s.post n).mem.statement = s.mem.statement := by unfold State.post; split <;> rfl
@[simp] theorem State.post_mem_read (s : State) (n : Notice) :
    (s.post n).mem.read = s.mem.read := by unfold State.post; split <;> rfl
@[simp] theorem State.post_mem_abandoned (s : State) (n : Notice) :
    (s.post n).mem.abandoned = s.mem.abandoned := by unfold State.post; split <;> rfl
@[simp] theorem State.post_mem_pass (s : State) (n : Notice) :
    (s.post n).mem.pass = s.mem.pass := by unfold State.post; split <;> rfl
@[simp] theorem State.post_mem_passQueue (s : State) (n : Notice) :
    (s.post n).mem.passQueue = s.mem.passQueue := by unfold State.post; split <;> rfl
@[simp] theorem State.post_mem_journalWrite (s : State) (n : Notice) :
    (s.post n).mem.journalWrite = s.mem.journalWrite := by unfold State.post; split <;> rfl
@[simp] theorem State.post_mem_partHalf (s : State) (n : Notice) :
    (s.post n).mem.partHalf = s.mem.partHalf := by unfold State.post; split <;> rfl
@[simp] theorem State.post_mem_writesOwed (s : State) (n : Notice) :
    (s.post n).mem.writesOwed = s.mem.writesOwed := by unfold State.post; split <;> rfl
@[simp] theorem State.post_mem_signalWrites (s : State) (n : Notice) :
    (s.post n).mem.signalWrites = s.mem.signalWrites := by unfold State.post; split <;> rfl

/-- Posting keeps the notice queue within its depth (R152). -/
theorem State.post_notices_length (s : State) (n : Notice) (h : s.mem.notices.length ≤ 32) :
    (s.post n).mem.notices.length ≤ 32 := by
  rcases s.post_cases n with ⟨_, e⟩ | ⟨_, e⟩ <;> (rw [e]; simp; omega)

/-- What a post does to the memory side depends on the memory side alone. -/
theorem State.post_mem_congr {s t : State} (n : Notice) (h : s.mem = t.mem) : (s.post n).mem = (t.post n).mem := by
  unfold State.post
  rw [h]
  split <;> simp

/-- A fact about the state that every post keeps is kept by posting many. -/
theorem State.postAll_induct {P : State → Prop} (hp : ∀ s n, P s → P (s.post n)) (s : State) (ns : List Notice)
    (h : P s) : P (s.postAll ns) := by
  unfold State.postAll
  induction ns generalizing s with
  | nil => exact h
  | cons n ns ih => exact ih _ (hp s n h)

@[simp] theorem State.postAll_link (s : State) (ns : List Notice) : (s.postAll ns).link = s.link :=
  State.postAll_induct (P := fun t => t.link = s.link) (by intro t n h; simpa using h) s ns rfl
@[simp] theorem State.postAll_ports (s : State) (ns : List Notice) : (s.postAll ns).ports = s.ports :=
  State.postAll_induct (P := fun t => t.ports = s.ports) (by intro t n h; simpa using h) s ns rfl
@[simp] theorem State.postAll_conduct (s : State) (ns : List Notice) : (s.postAll ns).conduct = s.conduct :=
  State.postAll_induct (P := fun t => t.conduct = s.conduct) (by intro t n h; simpa using h) s ns rfl
@[simp] theorem State.postAll_scan (s : State) (ns : List Notice) : (s.postAll ns).scan = s.scan :=
  State.postAll_induct (P := fun t => t.scan = s.scan) (by intro t n h; simpa using h) s ns rfl
@[simp] theorem State.postAll_timer (s : State) (ns : List Notice) : (s.postAll ns).timer = s.timer :=
  State.postAll_induct (P := fun t => t.timer = s.timer) (by intro t n h; simpa using h) s ns rfl
@[simp] theorem State.postAll_plans (s : State) (ns : List Notice) : (s.postAll ns).plans = s.plans :=
  State.postAll_induct (P := fun t => t.plans = s.plans) (by intro t n h; simpa using h) s ns rfl
@[simp] theorem State.postAll_win (s : State) (ns : List Notice) : (s.postAll ns).win = s.win :=
  State.postAll_induct (P := fun t => t.win = s.win) (by intro t n h; simpa using h) s ns rfl
@[simp] theorem State.postAll_pending (s : State) (ns : List Notice) : (s.postAll ns).pending = s.pending :=
  State.postAll_induct (P := fun t => t.pending = s.pending) (by intro t n h; simpa using h) s ns rfl
@[simp] theorem State.postAll_mem_mode (s : State) (ns : List Notice) : (s.postAll ns).mem.mode = s.mem.mode :=
  State.postAll_induct (P := fun t => t.mem.mode = s.mem.mode) (by intro t n h; simpa using h) s ns rfl
@[simp] theorem State.postAll_mem_region (s : State) (ns : List Notice) : (s.postAll ns).mem.region = s.mem.region :=
  State.postAll_induct (P := fun t => t.mem.region = s.mem.region) (by intro t n h; simpa using h) s ns rfl
@[simp] theorem State.postAll_mem_journalBase (s : State) (ns : List Notice) : (s.postAll ns).mem.journalBase = s.mem.journalBase :=
  State.postAll_induct (P := fun t => t.mem.journalBase = s.mem.journalBase) (by intro t n h; simpa using h) s ns rfl
@[simp] theorem State.postAll_mem_capacity (s : State) (ns : List Notice) : (s.postAll ns).mem.capacity = s.mem.capacity :=
  State.postAll_induct (P := fun t => t.mem.capacity = s.mem.capacity) (by intro t n h; simpa using h) s ns rfl
@[simp] theorem State.postAll_mem_usageBase (s : State) (ns : List Notice) : (s.postAll ns).mem.usageBase = s.mem.usageBase :=
  State.postAll_induct (P := fun t => t.mem.usageBase = s.mem.usageBase) (by intro t n h; simpa using h) s ns rfl
@[simp] theorem State.postAll_mem_signalAddr (s : State) (ns : List Notice) : (s.postAll ns).mem.signalAddr = s.mem.signalAddr :=
  State.postAll_induct (P := fun t => t.mem.signalAddr = s.mem.signalAddr) (by intro t n h; simpa using h) s ns rfl
@[simp] theorem State.postAll_mem_signalValue (s : State) (ns : List Notice) : (s.postAll ns).mem.signalValue = s.mem.signalValue :=
  State.postAll_induct (P := fun t => t.mem.signalValue = s.mem.signalValue) (by intro t n h; simpa using h) s ns rfl
@[simp] theorem State.postAll_mem_signalMask (s : State) (ns : List Notice) : (s.postAll ns).mem.signalMask = s.mem.signalMask :=
  State.postAll_induct (P := fun t => t.mem.signalMask = s.mem.signalMask) (by intro t n h; simpa using h) s ns rfl
@[simp] theorem State.postAll_mem_produced (s : State) (ns : List Notice) : (s.postAll ns).mem.produced = s.mem.produced :=
  State.postAll_induct (P := fun t => t.mem.produced = s.mem.produced) (by intro t n h; simpa using h) s ns rfl
@[simp] theorem State.postAll_mem_consumed (s : State) (ns : List Notice) : (s.postAll ns).mem.consumed = s.mem.consumed :=
  State.postAll_induct (P := fun t => t.mem.consumed = s.mem.consumed) (by intro t n h; simpa using h) s ns rfl
@[simp] theorem State.postAll_mem_slots (s : State) (ns : List Notice) : (s.postAll ns).mem.slots = s.mem.slots :=
  State.postAll_induct (P := fun t => t.mem.slots = s.mem.slots) (by intro t n h; simpa using h) s ns rfl
@[simp] theorem State.postAll_mem_armed (s : State) (ns : List Notice) : (s.postAll ns).mem.armed = s.mem.armed :=
  State.postAll_induct (P := fun t => t.mem.armed = s.mem.armed) (by intro t n h; simpa using h) s ns rfl
@[simp] theorem State.postAll_mem_noted (s : State) (ns : List Notice) : (s.postAll ns).mem.noted = s.mem.noted :=
  State.postAll_induct (P := fun t => t.mem.noted = s.mem.noted) (by intro t n h; simpa using h) s ns rfl
@[simp] theorem State.postAll_mem_rewrite (s : State) (ns : List Notice) : (s.postAll ns).mem.rewrite = s.mem.rewrite :=
  State.postAll_induct (P := fun t => t.mem.rewrite = s.mem.rewrite) (by intro t n h; simpa using h) s ns rfl
@[simp] theorem State.postAll_mem_signalDue (s : State) (ns : List Notice) : (s.postAll ns).mem.signalDue = s.mem.signalDue :=
  State.postAll_induct (P := fun t => t.mem.signalDue = s.mem.signalDue) (by intro t n h; simpa using h) s ns rfl
@[simp] theorem State.postAll_mem_stmtCount (s : State) (ns : List Notice) : (s.postAll ns).mem.stmtCount = s.mem.stmtCount :=
  State.postAll_induct (P := fun t => t.mem.stmtCount = s.mem.stmtCount) (by intro t n h; simpa using h) s ns rfl
@[simp] theorem State.postAll_mem_stmtNumber (s : State) (ns : List Notice) : (s.postAll ns).mem.stmtNumber = s.mem.stmtNumber :=
  State.postAll_induct (P := fun t => t.mem.stmtNumber = s.mem.stmtNumber) (by intro t n h; simpa using h) s ns rfl
@[simp] theorem State.postAll_mem_stmtOwed (s : State) (ns : List Notice) : (s.postAll ns).mem.stmtOwed = s.mem.stmtOwed :=
  State.postAll_induct (P := fun t => t.mem.stmtOwed = s.mem.stmtOwed) (by intro t n h; simpa using h) s ns rfl
@[simp] theorem State.postAll_mem_statement (s : State) (ns : List Notice) : (s.postAll ns).mem.statement = s.mem.statement :=
  State.postAll_induct (P := fun t => t.mem.statement = s.mem.statement) (by intro t n h; simpa using h) s ns rfl
@[simp] theorem State.postAll_mem_read (s : State) (ns : List Notice) : (s.postAll ns).mem.read = s.mem.read :=
  State.postAll_induct (P := fun t => t.mem.read = s.mem.read) (by intro t n h; simpa using h) s ns rfl
@[simp] theorem State.postAll_mem_abandoned (s : State) (ns : List Notice) : (s.postAll ns).mem.abandoned = s.mem.abandoned :=
  State.postAll_induct (P := fun t => t.mem.abandoned = s.mem.abandoned) (by intro t n h; simpa using h) s ns rfl
@[simp] theorem State.postAll_mem_pass (s : State) (ns : List Notice) : (s.postAll ns).mem.pass = s.mem.pass :=
  State.postAll_induct (P := fun t => t.mem.pass = s.mem.pass) (by intro t n h; simpa using h) s ns rfl
@[simp] theorem State.postAll_mem_passQueue (s : State) (ns : List Notice) : (s.postAll ns).mem.passQueue = s.mem.passQueue :=
  State.postAll_induct (P := fun t => t.mem.passQueue = s.mem.passQueue) (by intro t n h; simpa using h) s ns rfl
@[simp] theorem State.postAll_mem_journalWrite (s : State) (ns : List Notice) : (s.postAll ns).mem.journalWrite = s.mem.journalWrite :=
  State.postAll_induct (P := fun t => t.mem.journalWrite = s.mem.journalWrite) (by intro t n h; simpa using h) s ns rfl
@[simp] theorem State.postAll_mem_partHalf (s : State) (ns : List Notice) : (s.postAll ns).mem.partHalf = s.mem.partHalf :=
  State.postAll_induct (P := fun t => t.mem.partHalf = s.mem.partHalf) (by intro t n h; simpa using h) s ns rfl
@[simp] theorem State.postAll_mem_writesOwed (s : State) (ns : List Notice) : (s.postAll ns).mem.writesOwed = s.mem.writesOwed :=
  State.postAll_induct (P := fun t => t.mem.writesOwed = s.mem.writesOwed) (by intro t n h; simpa using h) s ns rfl
@[simp] theorem State.postAll_mem_signalWrites (s : State) (ns : List Notice) : (s.postAll ns).mem.signalWrites = s.mem.signalWrites :=
  State.postAll_induct (P := fun t => t.mem.signalWrites = s.mem.signalWrites) (by intro t n h; simpa using h) s ns rfl

theorem State.postAll_notices_length (s : State) (ns : List Notice) (h : s.mem.notices.length ≤ 32) :
    (s.postAll ns).mem.notices.length ≤ 32 :=
  State.postAll_induct (P := fun t => t.mem.notices.length ≤ 32) (fun t n => t.post_notices_length n) s ns h

/-! ### Placing a message (R73, R75) -/

/-- All that placing a message can do. -/
theorem State.place_cases (s : State) (m : OutMsg) :
    (s.link.output.length < 64 ∧ s.place m = { s with link := { s.link with output := s.link.output ++ [m] } }) ∨
    (64 ≤ s.link.output.length ∧ s.place m = s) := by
  unfold State.place State.hasRoom Config.outputDepth
  split
  · rename_i h; exact .inl ⟨by simpa using h, rfl⟩
  · rename_i h; exact .inr ⟨by simpa using h, rfl⟩

@[simp] theorem State.place_ports (s : State) (m : OutMsg) : (s.place m).ports = s.ports := by unfold State.place; split <;> rfl
@[simp] theorem State.place_conduct (s : State) (m : OutMsg) : (s.place m).conduct = s.conduct := by unfold State.place; split <;> rfl
@[simp] theorem State.place_scan (s : State) (m : OutMsg) : (s.place m).scan = s.scan := by unfold State.place; split <;> rfl
@[simp] theorem State.place_timer (s : State) (m : OutMsg) : (s.place m).timer = s.timer := by unfold State.place; split <;> rfl
@[simp] theorem State.place_plans (s : State) (m : OutMsg) : (s.place m).plans = s.plans := by unfold State.place; split <;> rfl
@[simp] theorem State.place_mem (s : State) (m : OutMsg) : (s.place m).mem = s.mem := by unfold State.place; split <;> rfl
@[simp] theorem State.place_win (s : State) (m : OutMsg) : (s.place m).win = s.win := by unfold State.place; split <;> rfl
@[simp] theorem State.place_pending (s : State) (m : OutMsg) : (s.place m).pending = s.pending := by unfold State.place; split <;> rfl
@[simp] theorem State.place_link_discards (s : State) (m : OutMsg) : (s.place m).link.discards = s.link.discards := by unfold State.place; split <;> rfl
@[simp] theorem State.place_link_partialRx (s : State) (m : OutMsg) : (s.place m).link.partialRx = s.link.partialRx := by unfold State.place; split <;> rfl
@[simp] theorem State.place_link_sending (s : State) (m : OutMsg) : (s.place m).link.sending = s.link.sending := by unfold State.place; split <;> rfl

theorem State.place_output_length (s : State) (m : OutMsg) (h : s.link.output.length ≤ 64) :
    (s.place m).link.output.length ≤ 64 := by
  rcases s.place_cases m with ⟨_, e⟩ | ⟨_, e⟩
  · rw [e]; simp; omega
  · rw [e]; exact h

/-- Messages already in the output queue keep their places (R73). -/
theorem State.place_output_prefix (s : State) (m : OutMsg) : s.link.output <+: (s.place m).link.output := by
  rcases s.place_cases m with ⟨_, e⟩ | ⟨_, e⟩
  · rw [e]; exact List.prefix_append _ _
  · rw [e]

theorem State.placeAll_induct {P : State → Prop} (hp : ∀ s m, P s → P (s.place m)) (s : State) (ms : List OutMsg)
    (h : P s) : P (s.placeAll ms) := by
  unfold State.placeAll
  induction ms generalizing s with
  | nil => exact h
  | cons m ms ih => exact ih _ (hp s m h)

@[simp] theorem State.placeAll_ports (s : State) (ms : List OutMsg) : (s.placeAll ms).ports = s.ports :=
  State.placeAll_induct (P := fun t => t.ports = s.ports) (by intro t n h; simpa using h) s ms rfl
@[simp] theorem State.placeAll_conduct (s : State) (ms : List OutMsg) : (s.placeAll ms).conduct = s.conduct :=
  State.placeAll_induct (P := fun t => t.conduct = s.conduct) (by intro t n h; simpa using h) s ms rfl
@[simp] theorem State.placeAll_scan (s : State) (ms : List OutMsg) : (s.placeAll ms).scan = s.scan :=
  State.placeAll_induct (P := fun t => t.scan = s.scan) (by intro t n h; simpa using h) s ms rfl
@[simp] theorem State.placeAll_timer (s : State) (ms : List OutMsg) : (s.placeAll ms).timer = s.timer :=
  State.placeAll_induct (P := fun t => t.timer = s.timer) (by intro t n h; simpa using h) s ms rfl
@[simp] theorem State.placeAll_plans (s : State) (ms : List OutMsg) : (s.placeAll ms).plans = s.plans :=
  State.placeAll_induct (P := fun t => t.plans = s.plans) (by intro t n h; simpa using h) s ms rfl
@[simp] theorem State.placeAll_mem (s : State) (ms : List OutMsg) : (s.placeAll ms).mem = s.mem :=
  State.placeAll_induct (P := fun t => t.mem = s.mem) (by intro t n h; simpa using h) s ms rfl
@[simp] theorem State.placeAll_win (s : State) (ms : List OutMsg) : (s.placeAll ms).win = s.win :=
  State.placeAll_induct (P := fun t => t.win = s.win) (by intro t n h; simpa using h) s ms rfl
@[simp] theorem State.placeAll_pending (s : State) (ms : List OutMsg) : (s.placeAll ms).pending = s.pending :=
  State.placeAll_induct (P := fun t => t.pending = s.pending) (by intro t n h; simpa using h) s ms rfl

theorem State.placeAll_output_length (s : State) (ms : List OutMsg) (h : s.link.output.length ≤ 64) :
    (s.placeAll ms).link.output.length ≤ 64 :=
  State.placeAll_induct (P := fun t => t.link.output.length ≤ 64) (fun t m => t.place_output_length m) s ms h

/-! ### Handing a report over (R155) -/

@[simp] theorem State.handOver_link (s : State) (r : Report) : (s.handOver r).link = s.link := rfl
@[simp] theorem State.handOver_ports (s : State) (r : Report) : (s.handOver r).ports = s.ports := rfl
@[simp] theorem State.handOver_conduct (s : State) (r : Report) : (s.handOver r).conduct = s.conduct := rfl
@[simp] theorem State.handOver_scan (s : State) (r : Report) : (s.handOver r).scan = s.scan := rfl
@[simp] theorem State.handOver_timer (s : State) (r : Report) : (s.handOver r).timer = s.timer := rfl
@[simp] theorem State.handOver_plans (s : State) (r : Report) : (s.handOver r).plans = s.plans := rfl
@[simp] theorem State.handOver_win (s : State) (r : Report) : (s.handOver r).win = s.win := rfl
@[simp] theorem State.handOver_pending (s : State) (r : Report) : (s.handOver r).pending = s.pending := rfl
@[simp] theorem State.handOver_mem_mode (s : State) (r : Report) :
    (s.handOver r).mem.mode = s.mem.mode := rfl
@[simp] theorem State.handOver_mem_region (s : State) (r : Report) :
    (s.handOver r).mem.region = s.mem.region := rfl
@[simp] theorem State.handOver_mem_journalBase (s : State) (r : Report) :
    (s.handOver r).mem.journalBase = s.mem.journalBase := rfl
@[simp] theorem State.handOver_mem_capacity (s : State) (r : Report) :
    (s.handOver r).mem.capacity = s.mem.capacity := rfl
@[simp] theorem State.handOver_mem_usageBase (s : State) (r : Report) :
    (s.handOver r).mem.usageBase = s.mem.usageBase := rfl
@[simp] theorem State.handOver_mem_signalAddr (s : State) (r : Report) :
    (s.handOver r).mem.signalAddr = s.mem.signalAddr := rfl
@[simp] theorem State.handOver_mem_signalValue (s : State) (r : Report) :
    (s.handOver r).mem.signalValue = s.mem.signalValue := rfl
@[simp] theorem State.handOver_mem_signalMask (s : State) (r : Report) :
    (s.handOver r).mem.signalMask = s.mem.signalMask := rfl
@[simp] theorem State.handOver_mem_produced (s : State) (r : Report) :
    (s.handOver r).mem.produced = s.mem.produced := rfl
@[simp] theorem State.handOver_mem_consumed (s : State) (r : Report) :
    (s.handOver r).mem.consumed = s.mem.consumed := rfl
@[simp] theorem State.handOver_mem_notices (s : State) (r : Report) :
    (s.handOver r).mem.notices = s.mem.notices := rfl
@[simp] theorem State.handOver_mem_lapsed (s : State) (r : Report) :
    (s.handOver r).mem.lapsed = s.mem.lapsed := rfl
@[simp] theorem State.handOver_mem_armed (s : State) (r : Report) :
    (s.handOver r).mem.armed = s.mem.armed := rfl
@[simp] theorem State.handOver_mem_noted (s : State) (r : Report) :
    (s.handOver r).mem.noted = s.mem.noted := rfl
@[simp] theorem State.handOver_mem_rewrite (s : State) (r : Report) :
    (s.handOver r).mem.rewrite = s.mem.rewrite := rfl
@[simp] theorem State.handOver_mem_signalDue (s : State) (r : Report) :
    (s.handOver r).mem.signalDue = s.mem.signalDue := rfl
@[simp] theorem State.handOver_mem_stmtCount (s : State) (r : Report) :
    (s.handOver r).mem.stmtCount = s.mem.stmtCount := rfl
@[simp] theorem State.handOver_mem_stmtNumber (s : State) (r : Report) :
    (s.handOver r).mem.stmtNumber = s.mem.stmtNumber := rfl
@[simp] theorem State.handOver_mem_stmtOwed (s : State) (r : Report) :
    (s.handOver r).mem.stmtOwed = s.mem.stmtOwed := rfl
@[simp] theorem State.handOver_mem_statement (s : State) (r : Report) :
    (s.handOver r).mem.statement = s.mem.statement := rfl
@[simp] theorem State.handOver_mem_read (s : State) (r : Report) :
    (s.handOver r).mem.read = s.mem.read := rfl
@[simp] theorem State.handOver_mem_abandoned (s : State) (r : Report) :
    (s.handOver r).mem.abandoned = s.mem.abandoned := rfl
@[simp] theorem State.handOver_mem_pass (s : State) (r : Report) :
    (s.handOver r).mem.pass = s.mem.pass := rfl
@[simp] theorem State.handOver_mem_passQueue (s : State) (r : Report) :
    (s.handOver r).mem.passQueue = s.mem.passQueue := rfl
@[simp] theorem State.handOver_mem_journalWrite (s : State) (r : Report) :
    (s.handOver r).mem.journalWrite = s.mem.journalWrite := rfl
@[simp] theorem State.handOver_mem_partHalf (s : State) (r : Report) :
    (s.handOver r).mem.partHalf = s.mem.partHalf := rfl
@[simp] theorem State.handOver_mem_writesOwed (s : State) (r : Report) :
    (s.handOver r).mem.writesOwed = s.mem.writesOwed := rfl
@[simp] theorem State.handOver_mem_signalWrites (s : State) (r : Report) :
    (s.handOver r).mem.signalWrites = s.mem.signalWrites := rfl

/-- The slot of a port after a report of it is handed over: merged into the held one, or into the waiting one while the
held one is being written. -/
theorem State.handOver_slot (s : State) (r : Report) :
    (s.handOver r).mem.slots.get r.port =
      if s.mem.writingReport r.port then
        { s.mem.slots.get r.port with waiting := mergeInto (s.mem.slots.get r.port).waiting r }
      else { s.mem.slots.get r.port with held := mergeInto (s.mem.slots.get r.port).held r } := by
  simp [State.handOver]

theorem State.handOver_slot_ne (s : State) (r : Report) {p : Port} (h : r.port ≠ p) :
    (s.handOver r).mem.slots.get p = s.mem.slots.get p := by
  simp [State.handOver, Tab.get_modify_ne _ _ h]

/-! ### The journal writer (R153, R157, R151) -/

@[simp] theorem State.issueRecord_link (s : State) (i : JournalItem) (c : Word32) : (s.issueRecord i c).link = s.link := rfl
@[simp] theorem State.issueRecord_ports (s : State) (i : JournalItem) (c : Word32) : (s.issueRecord i c).ports = s.ports := rfl
@[simp] theorem State.issueRecord_conduct (s : State) (i : JournalItem) (c : Word32) : (s.issueRecord i c).conduct = s.conduct := rfl
@[simp] theorem State.issueRecord_scan (s : State) (i : JournalItem) (c : Word32) : (s.issueRecord i c).scan = s.scan := rfl
@[simp] theorem State.issueRecord_timer (s : State) (i : JournalItem) (c : Word32) : (s.issueRecord i c).timer = s.timer := rfl
@[simp] theorem State.issueRecord_plans (s : State) (i : JournalItem) (c : Word32) : (s.issueRecord i c).plans = s.plans := rfl
@[simp] theorem State.issueRecord_win (s : State) (i : JournalItem) (c : Word32) : (s.issueRecord i c).win = s.win := rfl
@[simp] theorem State.issueRecord_pending (s : State) (i : JournalItem) (c : Word32) : (s.issueRecord i c).pending = s.pending := rfl
@[simp] theorem State.issueRecord_mem_mode (s : State) (i : JournalItem) (c : Word32) :
    (s.issueRecord i c).mem.mode = s.mem.mode := rfl
@[simp] theorem State.issueRecord_mem_region (s : State) (i : JournalItem) (c : Word32) :
    (s.issueRecord i c).mem.region = s.mem.region := rfl
@[simp] theorem State.issueRecord_mem_journalBase (s : State) (i : JournalItem) (c : Word32) :
    (s.issueRecord i c).mem.journalBase = s.mem.journalBase := rfl
@[simp] theorem State.issueRecord_mem_capacity (s : State) (i : JournalItem) (c : Word32) :
    (s.issueRecord i c).mem.capacity = s.mem.capacity := rfl
@[simp] theorem State.issueRecord_mem_usageBase (s : State) (i : JournalItem) (c : Word32) :
    (s.issueRecord i c).mem.usageBase = s.mem.usageBase := rfl
@[simp] theorem State.issueRecord_mem_signalAddr (s : State) (i : JournalItem) (c : Word32) :
    (s.issueRecord i c).mem.signalAddr = s.mem.signalAddr := rfl
@[simp] theorem State.issueRecord_mem_signalValue (s : State) (i : JournalItem) (c : Word32) :
    (s.issueRecord i c).mem.signalValue = s.mem.signalValue := rfl
@[simp] theorem State.issueRecord_mem_signalMask (s : State) (i : JournalItem) (c : Word32) :
    (s.issueRecord i c).mem.signalMask = s.mem.signalMask := rfl
@[simp] theorem State.issueRecord_mem_produced (s : State) (i : JournalItem) (c : Word32) :
    (s.issueRecord i c).mem.produced = s.mem.produced := rfl
@[simp] theorem State.issueRecord_mem_consumed (s : State) (i : JournalItem) (c : Word32) :
    (s.issueRecord i c).mem.consumed = s.mem.consumed := rfl
@[simp] theorem State.issueRecord_mem_notices (s : State) (i : JournalItem) (c : Word32) :
    (s.issueRecord i c).mem.notices = s.mem.notices := rfl
@[simp] theorem State.issueRecord_mem_slots (s : State) (i : JournalItem) (c : Word32) :
    (s.issueRecord i c).mem.slots = s.mem.slots := rfl
@[simp] theorem State.issueRecord_mem_lapsed (s : State) (i : JournalItem) (c : Word32) :
    (s.issueRecord i c).mem.lapsed = s.mem.lapsed := rfl
@[simp] theorem State.issueRecord_mem_armed (s : State) (i : JournalItem) (c : Word32) :
    (s.issueRecord i c).mem.armed = s.mem.armed := rfl
@[simp] theorem State.issueRecord_mem_noted (s : State) (i : JournalItem) (c : Word32) :
    (s.issueRecord i c).mem.noted = s.mem.noted := rfl
@[simp] theorem State.issueRecord_mem_rewrite (s : State) (i : JournalItem) (c : Word32) :
    (s.issueRecord i c).mem.rewrite = s.mem.rewrite := rfl
@[simp] theorem State.issueRecord_mem_signalDue (s : State) (i : JournalItem) (c : Word32) :
    (s.issueRecord i c).mem.signalDue = s.mem.signalDue := rfl
@[simp] theorem State.issueRecord_mem_stmtCount (s : State) (i : JournalItem) (c : Word32) :
    (s.issueRecord i c).mem.stmtCount = s.mem.stmtCount := rfl
@[simp] theorem State.issueRecord_mem_stmtNumber (s : State) (i : JournalItem) (c : Word32) :
    (s.issueRecord i c).mem.stmtNumber = s.mem.stmtNumber := rfl
@[simp] theorem State.issueRecord_mem_stmtOwed (s : State) (i : JournalItem) (c : Word32) :
    (s.issueRecord i c).mem.stmtOwed = s.mem.stmtOwed := rfl
@[simp] theorem State.issueRecord_mem_statement (s : State) (i : JournalItem) (c : Word32) :
    (s.issueRecord i c).mem.statement = s.mem.statement := rfl
@[simp] theorem State.issueRecord_mem_read (s : State) (i : JournalItem) (c : Word32) :
    (s.issueRecord i c).mem.read = s.mem.read := rfl
@[simp] theorem State.issueRecord_mem_abandoned (s : State) (i : JournalItem) (c : Word32) :
    (s.issueRecord i c).mem.abandoned = s.mem.abandoned := rfl
@[simp] theorem State.issueRecord_mem_pass (s : State) (i : JournalItem) (c : Word32) :
    (s.issueRecord i c).mem.pass = s.mem.pass := rfl
@[simp] theorem State.issueRecord_mem_passQueue (s : State) (i : JournalItem) (c : Word32) :
    (s.issueRecord i c).mem.passQueue = s.mem.passQueue := rfl
@[simp] theorem State.issueRecord_mem_partHalf (s : State) (i : JournalItem) (c : Word32) :
    (s.issueRecord i c).mem.partHalf = s.mem.partHalf := rfl
@[simp] theorem State.issueRecord_mem_writesOwed (s : State) (i : JournalItem) (c : Word32) :
    (s.issueRecord i c).mem.writesOwed = s.mem.writesOwed := rfl
@[simp] theorem State.issueRecord_mem_signalWrites (s : State) (i : JournalItem) (c : Word32) :
    (s.issueRecord i c).mem.signalWrites = s.mem.signalWrites := rfl
@[simp] theorem State.issuePartHalf_link (s : State) (f : Bool) : (s.issuePartHalf f).link = s.link := rfl
@[simp] theorem State.issuePartHalf_ports (s : State) (f : Bool) : (s.issuePartHalf f).ports = s.ports := rfl
@[simp] theorem State.issuePartHalf_conduct (s : State) (f : Bool) : (s.issuePartHalf f).conduct = s.conduct := rfl
@[simp] theorem State.issuePartHalf_scan (s : State) (f : Bool) : (s.issuePartHalf f).scan = s.scan := rfl
@[simp] theorem State.issuePartHalf_timer (s : State) (f : Bool) : (s.issuePartHalf f).timer = s.timer := rfl
@[simp] theorem State.issuePartHalf_plans (s : State) (f : Bool) : (s.issuePartHalf f).plans = s.plans := rfl
@[simp] theorem State.issuePartHalf_win (s : State) (f : Bool) : (s.issuePartHalf f).win = s.win := rfl
@[simp] theorem State.issuePartHalf_pending (s : State) (f : Bool) : (s.issuePartHalf f).pending = s.pending := rfl
@[simp] theorem State.issuePartHalf_mem_mode (s : State) (f : Bool) :
    (s.issuePartHalf f).mem.mode = s.mem.mode := rfl
@[simp] theorem State.issuePartHalf_mem_region (s : State) (f : Bool) :
    (s.issuePartHalf f).mem.region = s.mem.region := rfl
@[simp] theorem State.issuePartHalf_mem_journalBase (s : State) (f : Bool) :
    (s.issuePartHalf f).mem.journalBase = s.mem.journalBase := rfl
@[simp] theorem State.issuePartHalf_mem_capacity (s : State) (f : Bool) :
    (s.issuePartHalf f).mem.capacity = s.mem.capacity := rfl
@[simp] theorem State.issuePartHalf_mem_usageBase (s : State) (f : Bool) :
    (s.issuePartHalf f).mem.usageBase = s.mem.usageBase := rfl
@[simp] theorem State.issuePartHalf_mem_signalAddr (s : State) (f : Bool) :
    (s.issuePartHalf f).mem.signalAddr = s.mem.signalAddr := rfl
@[simp] theorem State.issuePartHalf_mem_signalValue (s : State) (f : Bool) :
    (s.issuePartHalf f).mem.signalValue = s.mem.signalValue := rfl
@[simp] theorem State.issuePartHalf_mem_signalMask (s : State) (f : Bool) :
    (s.issuePartHalf f).mem.signalMask = s.mem.signalMask := rfl
@[simp] theorem State.issuePartHalf_mem_produced (s : State) (f : Bool) :
    (s.issuePartHalf f).mem.produced = s.mem.produced := rfl
@[simp] theorem State.issuePartHalf_mem_consumed (s : State) (f : Bool) :
    (s.issuePartHalf f).mem.consumed = s.mem.consumed := rfl
@[simp] theorem State.issuePartHalf_mem_notices (s : State) (f : Bool) :
    (s.issuePartHalf f).mem.notices = s.mem.notices := rfl
@[simp] theorem State.issuePartHalf_mem_slots (s : State) (f : Bool) :
    (s.issuePartHalf f).mem.slots = s.mem.slots := rfl
@[simp] theorem State.issuePartHalf_mem_lapsed (s : State) (f : Bool) :
    (s.issuePartHalf f).mem.lapsed = s.mem.lapsed := rfl
@[simp] theorem State.issuePartHalf_mem_armed (s : State) (f : Bool) :
    (s.issuePartHalf f).mem.armed = s.mem.armed := rfl
@[simp] theorem State.issuePartHalf_mem_noted (s : State) (f : Bool) :
    (s.issuePartHalf f).mem.noted = s.mem.noted := rfl
@[simp] theorem State.issuePartHalf_mem_rewrite (s : State) (f : Bool) :
    (s.issuePartHalf f).mem.rewrite = s.mem.rewrite := rfl
@[simp] theorem State.issuePartHalf_mem_stmtCount (s : State) (f : Bool) :
    (s.issuePartHalf f).mem.stmtCount = s.mem.stmtCount := rfl
@[simp] theorem State.issuePartHalf_mem_stmtNumber (s : State) (f : Bool) :
    (s.issuePartHalf f).mem.stmtNumber = s.mem.stmtNumber := rfl
@[simp] theorem State.issuePartHalf_mem_stmtOwed (s : State) (f : Bool) :
    (s.issuePartHalf f).mem.stmtOwed = s.mem.stmtOwed := rfl
@[simp] theorem State.issuePartHalf_mem_statement (s : State) (f : Bool) :
    (s.issuePartHalf f).mem.statement = s.mem.statement := rfl
@[simp] theorem State.issuePartHalf_mem_read (s : State) (f : Bool) :
    (s.issuePartHalf f).mem.read = s.mem.read := rfl
@[simp] theorem State.issuePartHalf_mem_abandoned (s : State) (f : Bool) :
    (s.issuePartHalf f).mem.abandoned = s.mem.abandoned := rfl
@[simp] theorem State.issuePartHalf_mem_pass (s : State) (f : Bool) :
    (s.issuePartHalf f).mem.pass = s.mem.pass := rfl
@[simp] theorem State.issuePartHalf_mem_passQueue (s : State) (f : Bool) :
    (s.issuePartHalf f).mem.passQueue = s.mem.passQueue := rfl
@[simp] theorem State.issuePartHalf_mem_journalWrite (s : State) (f : Bool) :
    (s.issuePartHalf f).mem.journalWrite = s.mem.journalWrite := rfl
@[simp] theorem State.issuePartHalf_mem_writesOwed (s : State) (f : Bool) :
    (s.issuePartHalf f).mem.writesOwed = s.mem.writesOwed := rfl
@[simp] theorem State.issuePartHalf_mem_signalWrites (s : State) (f : Bool) :
    (s.issuePartHalf f).mem.signalWrites = s.mem.signalWrites := rfl
/-- All that a part-half write which falls due can do (R147, R151). -/
theorem State.duePartHalf_cases (s : State) (f : Bool) :
    (s.mem.finalDue = true ∧ s.duePartHalf f = s) ∨
    (s.mem.finalDue = false ∧ s.mem.partHalf = none ∧ s.duePartHalf f = s.issuePartHalf f) ∨
    (s.mem.finalDue = false ∧ s.mem.partHalf.isSome = true ∧
      s.duePartHalf f = { s with mem := { s.mem with writesOwed := s.mem.writesOwed ++ [f] } }) := by
  unfold State.duePartHalf
  split
  · exact .inl ⟨‹_›, rfl⟩
  · split
    · exact .inr (.inl ⟨by simp_all, by simp_all, rfl⟩)
    · refine .inr (.inr ⟨by simp_all, ?_, rfl⟩)
      cases h : s.mem.partHalf <;> simp_all

@[simp] theorem State.duePartHalf_link (s : State) (f : Bool) : (s.duePartHalf f).link = s.link := by unfold State.duePartHalf; split <;> [rfl; (split <;> rfl)]
@[simp] theorem State.duePartHalf_ports (s : State) (f : Bool) : (s.duePartHalf f).ports = s.ports := by unfold State.duePartHalf; split <;> [rfl; (split <;> rfl)]
@[simp] theorem State.duePartHalf_conduct (s : State) (f : Bool) : (s.duePartHalf f).conduct = s.conduct := by unfold State.duePartHalf; split <;> [rfl; (split <;> rfl)]
@[simp] theorem State.duePartHalf_scan (s : State) (f : Bool) : (s.duePartHalf f).scan = s.scan := by unfold State.duePartHalf; split <;> [rfl; (split <;> rfl)]
@[simp] theorem State.duePartHalf_timer (s : State) (f : Bool) : (s.duePartHalf f).timer = s.timer := by unfold State.duePartHalf; split <;> [rfl; (split <;> rfl)]
@[simp] theorem State.duePartHalf_plans (s : State) (f : Bool) : (s.duePartHalf f).plans = s.plans := by unfold State.duePartHalf; split <;> [rfl; (split <;> rfl)]
@[simp] theorem State.duePartHalf_win (s : State) (f : Bool) : (s.duePartHalf f).win = s.win := by unfold State.duePartHalf; split <;> [rfl; (split <;> rfl)]
@[simp] theorem State.duePartHalf_pending (s : State) (f : Bool) : (s.duePartHalf f).pending = s.pending := by unfold State.duePartHalf; split <;> [rfl; (split <;> rfl)]
@[simp] theorem State.duePartHalf_mem_mode (s : State) (f : Bool) :
    (s.duePartHalf f).mem.mode = s.mem.mode := by unfold State.duePartHalf; split <;> [rfl; (split <;> rfl)]
@[simp] theorem State.duePartHalf_mem_region (s : State) (f : Bool) :
    (s.duePartHalf f).mem.region = s.mem.region := by unfold State.duePartHalf; split <;> [rfl; (split <;> rfl)]
@[simp] theorem State.duePartHalf_mem_journalBase (s : State) (f : Bool) :
    (s.duePartHalf f).mem.journalBase = s.mem.journalBase := by unfold State.duePartHalf; split <;> [rfl; (split <;> rfl)]
@[simp] theorem State.duePartHalf_mem_capacity (s : State) (f : Bool) :
    (s.duePartHalf f).mem.capacity = s.mem.capacity := by unfold State.duePartHalf; split <;> [rfl; (split <;> rfl)]
@[simp] theorem State.duePartHalf_mem_usageBase (s : State) (f : Bool) :
    (s.duePartHalf f).mem.usageBase = s.mem.usageBase := by unfold State.duePartHalf; split <;> [rfl; (split <;> rfl)]
@[simp] theorem State.duePartHalf_mem_signalAddr (s : State) (f : Bool) :
    (s.duePartHalf f).mem.signalAddr = s.mem.signalAddr := by unfold State.duePartHalf; split <;> [rfl; (split <;> rfl)]
@[simp] theorem State.duePartHalf_mem_signalValue (s : State) (f : Bool) :
    (s.duePartHalf f).mem.signalValue = s.mem.signalValue := by unfold State.duePartHalf; split <;> [rfl; (split <;> rfl)]
@[simp] theorem State.duePartHalf_mem_signalMask (s : State) (f : Bool) :
    (s.duePartHalf f).mem.signalMask = s.mem.signalMask := by unfold State.duePartHalf; split <;> [rfl; (split <;> rfl)]
@[simp] theorem State.duePartHalf_mem_produced (s : State) (f : Bool) :
    (s.duePartHalf f).mem.produced = s.mem.produced := by unfold State.duePartHalf; split <;> [rfl; (split <;> rfl)]
@[simp] theorem State.duePartHalf_mem_consumed (s : State) (f : Bool) :
    (s.duePartHalf f).mem.consumed = s.mem.consumed := by unfold State.duePartHalf; split <;> [rfl; (split <;> rfl)]
@[simp] theorem State.duePartHalf_mem_notices (s : State) (f : Bool) :
    (s.duePartHalf f).mem.notices = s.mem.notices := by unfold State.duePartHalf; split <;> [rfl; (split <;> rfl)]
@[simp] theorem State.duePartHalf_mem_slots (s : State) (f : Bool) :
    (s.duePartHalf f).mem.slots = s.mem.slots := by unfold State.duePartHalf; split <;> [rfl; (split <;> rfl)]
@[simp] theorem State.duePartHalf_mem_lapsed (s : State) (f : Bool) :
    (s.duePartHalf f).mem.lapsed = s.mem.lapsed := by unfold State.duePartHalf; split <;> [rfl; (split <;> rfl)]
@[simp] theorem State.duePartHalf_mem_armed (s : State) (f : Bool) :
    (s.duePartHalf f).mem.armed = s.mem.armed := by unfold State.duePartHalf; split <;> [rfl; (split <;> rfl)]
@[simp] theorem State.duePartHalf_mem_noted (s : State) (f : Bool) :
    (s.duePartHalf f).mem.noted = s.mem.noted := by unfold State.duePartHalf; split <;> [rfl; (split <;> rfl)]
@[simp] theorem State.duePartHalf_mem_rewrite (s : State) (f : Bool) :
    (s.duePartHalf f).mem.rewrite = s.mem.rewrite := by unfold State.duePartHalf; split <;> [rfl; (split <;> rfl)]
@[simp] theorem State.duePartHalf_mem_stmtCount (s : State) (f : Bool) :
    (s.duePartHalf f).mem.stmtCount = s.mem.stmtCount := by unfold State.duePartHalf; split <;> [rfl; (split <;> rfl)]
@[simp] theorem State.duePartHalf_mem_stmtNumber (s : State) (f : Bool) :
    (s.duePartHalf f).mem.stmtNumber = s.mem.stmtNumber := by unfold State.duePartHalf; split <;> [rfl; (split <;> rfl)]
@[simp] theorem State.duePartHalf_mem_stmtOwed (s : State) (f : Bool) :
    (s.duePartHalf f).mem.stmtOwed = s.mem.stmtOwed := by unfold State.duePartHalf; split <;> [rfl; (split <;> rfl)]
@[simp] theorem State.duePartHalf_mem_statement (s : State) (f : Bool) :
    (s.duePartHalf f).mem.statement = s.mem.statement := by unfold State.duePartHalf; split <;> [rfl; (split <;> rfl)]
@[simp] theorem State.duePartHalf_mem_read (s : State) (f : Bool) :
    (s.duePartHalf f).mem.read = s.mem.read := by unfold State.duePartHalf; split <;> [rfl; (split <;> rfl)]
@[simp] theorem State.duePartHalf_mem_abandoned (s : State) (f : Bool) :
    (s.duePartHalf f).mem.abandoned = s.mem.abandoned := by unfold State.duePartHalf; split <;> [rfl; (split <;> rfl)]
@[simp] theorem State.duePartHalf_mem_passQueue (s : State) (f : Bool) :
    (s.duePartHalf f).mem.passQueue = s.mem.passQueue := by unfold State.duePartHalf; split <;> [rfl; (split <;> rfl)]
@[simp] theorem State.duePartHalf_mem_journalWrite (s : State) (f : Bool) :
    (s.duePartHalf f).mem.journalWrite = s.mem.journalWrite := by unfold State.duePartHalf; split <;> [rfl; (split <;> rfl)]
@[simp] theorem State.duePartHalf_mem_signalWrites (s : State) (f : Bool) :
    (s.duePartHalf f).mem.signalWrites = s.mem.signalWrites := by unfold State.duePartHalf; split <;> [rfl; (split <;> rfl)]
@[simp] theorem State.duePartHalf_mem_pass (s : State) (f : Bool) :
    (s.duePartHalf f).mem.pass = s.mem.pass := by unfold State.duePartHalf; split <;> [rfl; (split <;> rfl)]

@[simp] theorem State.endPass_link (s : State) (o : Occasion) : (s.endPass o).link = s.link := by unfold State.endPass; dsimp only; split <;> simp
@[simp] theorem State.endPass_ports (s : State) (o : Occasion) : (s.endPass o).ports = s.ports := by unfold State.endPass; dsimp only; split <;> simp
@[simp] theorem State.endPass_conduct (s : State) (o : Occasion) : (s.endPass o).conduct = s.conduct := by unfold State.endPass; dsimp only; split <;> simp
@[simp] theorem State.endPass_scan (s : State) (o : Occasion) : (s.endPass o).scan = s.scan := by unfold State.endPass; dsimp only; split <;> simp
@[simp] theorem State.endPass_timer (s : State) (o : Occasion) : (s.endPass o).timer = s.timer := by unfold State.endPass; dsimp only; split <;> simp
@[simp] theorem State.endPass_plans (s : State) (o : Occasion) : (s.endPass o).plans = s.plans := by unfold State.endPass; dsimp only; split <;> simp
@[simp] theorem State.endPass_win (s : State) (o : Occasion) : (s.endPass o).win = s.win := by unfold State.endPass; dsimp only; split <;> simp
@[simp] theorem State.endPass_pending (s : State) (o : Occasion) : (s.endPass o).pending = s.pending := by unfold State.endPass; dsimp only; split <;> simp
@[simp] theorem State.endPass_mem_mode (s : State) (o : Occasion) :
    (s.endPass o).mem.mode = s.mem.mode := by unfold State.endPass; dsimp only; split <;> simp
@[simp] theorem State.endPass_mem_region (s : State) (o : Occasion) :
    (s.endPass o).mem.region = s.mem.region := by unfold State.endPass; dsimp only; split <;> simp
@[simp] theorem State.endPass_mem_journalBase (s : State) (o : Occasion) :
    (s.endPass o).mem.journalBase = s.mem.journalBase := by unfold State.endPass; dsimp only; split <;> simp
@[simp] theorem State.endPass_mem_capacity (s : State) (o : Occasion) :
    (s.endPass o).mem.capacity = s.mem.capacity := by unfold State.endPass; dsimp only; split <;> simp
@[simp] theorem State.endPass_mem_usageBase (s : State) (o : Occasion) :
    (s.endPass o).mem.usageBase = s.mem.usageBase := by unfold State.endPass; dsimp only; split <;> simp
@[simp] theorem State.endPass_mem_signalAddr (s : State) (o : Occasion) :
    (s.endPass o).mem.signalAddr = s.mem.signalAddr := by unfold State.endPass; dsimp only; split <;> simp
@[simp] theorem State.endPass_mem_signalValue (s : State) (o : Occasion) :
    (s.endPass o).mem.signalValue = s.mem.signalValue := by unfold State.endPass; dsimp only; split <;> simp
@[simp] theorem State.endPass_mem_signalMask (s : State) (o : Occasion) :
    (s.endPass o).mem.signalMask = s.mem.signalMask := by unfold State.endPass; dsimp only; split <;> simp
@[simp] theorem State.endPass_mem_produced (s : State) (o : Occasion) :
    (s.endPass o).mem.produced = s.mem.produced := by unfold State.endPass; dsimp only; split <;> simp
@[simp] theorem State.endPass_mem_consumed (s : State) (o : Occasion) :
    (s.endPass o).mem.consumed = s.mem.consumed := by unfold State.endPass; dsimp only; split <;> simp
@[simp] theorem State.endPass_mem_notices (s : State) (o : Occasion) :
    (s.endPass o).mem.notices = s.mem.notices := by unfold State.endPass; dsimp only; split <;> simp
@[simp] theorem State.endPass_mem_slots (s : State) (o : Occasion) :
    (s.endPass o).mem.slots = s.mem.slots := by unfold State.endPass; dsimp only; split <;> simp
@[simp] theorem State.endPass_mem_lapsed (s : State) (o : Occasion) :
    (s.endPass o).mem.lapsed = s.mem.lapsed := by unfold State.endPass; dsimp only; split <;> simp
@[simp] theorem State.endPass_mem_armed (s : State) (o : Occasion) :
    (s.endPass o).mem.armed = s.mem.armed := by unfold State.endPass; dsimp only; split <;> simp
@[simp] theorem State.endPass_mem_noted (s : State) (o : Occasion) :
    (s.endPass o).mem.noted = s.mem.noted := by unfold State.endPass; dsimp only; split <;> simp
@[simp] theorem State.endPass_mem_rewrite (s : State) (o : Occasion) :
    (s.endPass o).mem.rewrite = s.mem.rewrite := by unfold State.endPass; dsimp only; split <;> simp
@[simp] theorem State.endPass_mem_stmtCount (s : State) (o : Occasion) :
    (s.endPass o).mem.stmtCount = s.mem.stmtCount := by unfold State.endPass; dsimp only; split <;> simp
@[simp] theorem State.endPass_mem_stmtNumber (s : State) (o : Occasion) :
    (s.endPass o).mem.stmtNumber = s.mem.stmtNumber := by unfold State.endPass; dsimp only; split <;> simp
@[simp] theorem State.endPass_mem_stmtOwed (s : State) (o : Occasion) :
    (s.endPass o).mem.stmtOwed = s.mem.stmtOwed := by unfold State.endPass; dsimp only; split <;> simp
@[simp] theorem State.endPass_mem_statement (s : State) (o : Occasion) :
    (s.endPass o).mem.statement = s.mem.statement := by unfold State.endPass; dsimp only; split <;> simp
@[simp] theorem State.endPass_mem_read (s : State) (o : Occasion) :
    (s.endPass o).mem.read = s.mem.read := by unfold State.endPass; dsimp only; split <;> simp
@[simp] theorem State.endPass_mem_abandoned (s : State) (o : Occasion) :
    (s.endPass o).mem.abandoned = s.mem.abandoned := by unfold State.endPass; dsimp only; split <;> simp
@[simp] theorem State.endPass_mem_passQueue (s : State) (o : Occasion) :
    (s.endPass o).mem.passQueue = s.mem.passQueue := by unfold State.endPass; dsimp only; split <;> simp
@[simp] theorem State.endPass_mem_journalWrite (s : State) (o : Occasion) :
    (s.endPass o).mem.journalWrite = s.mem.journalWrite := by unfold State.endPass; dsimp only; split <;> simp
@[simp] theorem State.endPass_mem_signalWrites (s : State) (o : Occasion) :
    (s.endPass o).mem.signalWrites = s.mem.signalWrites := by unfold State.endPass; dsimp only; split <;> simp
@[simp] theorem State.endPass_mem_pass (s : State) (o : Occasion) :
    (s.endPass o).mem.pass = none := by unfold State.endPass; dsimp only; split <;> simp

/-- A fact about the state that ending a pass, beginning one and issuing a record keep is kept by the journal writer going
on. -/
theorem pumpPasses_induct {P : State → Prop}
    (he : ∀ s pass, s.mem.pass = some pass → s.mem.nextItem pass.stage = none → P s → P (s.endPass pass.occasion))
    (hb : ∀ (s : State) o os, s.mem.pass = none → s.mem.passQueue = o :: os → P s →
      P { s with mem := { s.mem with pass := some { occasion := o, stage := .again }, passQueue := os } })
    (hi : ∀ (s : State) pass item, s.mem.pass = some pass → s.mem.nextItem pass.stage = some item → P s →
      P ({ s with mem := { s.mem with pass := some { pass with stage := s.mem.stageOf pass.stage item } } }.issueRecord
        item s.mem.produced))
    (fuel : Nat) (s : State) (h : P s) : P (pumpPasses fuel s) := by
  induction fuel generalizing s with
  | zero => exact h
  | succ fuel ih =>
    unfold pumpPasses
    split
    · rename_i pass hp
      split
      · exact hi s pass _ hp ‹_› h
      · exact ih _ (he s pass hp ‹_› h)
    · rename_i hn
      split
      · exact h
      · exact ih _ (hb s _ _ hn ‹_› h)

theorem pumpPasses_link (k : Nat) (s : State) : (pumpPasses k s).link = s.link :=
  pumpPasses_induct (P := fun t => t.link = s.link) (by intro t _ _ _ h; simpa using h)
    (by intro t _ _ _ _ h; simpa using h) (by intro t _ _ _ _ h; simpa using h) k s rfl
theorem pumpPasses_ports (k : Nat) (s : State) : (pumpPasses k s).ports = s.ports :=
  pumpPasses_induct (P := fun t => t.ports = s.ports) (by intro t _ _ _ h; simpa using h)
    (by intro t _ _ _ _ h; simpa using h) (by intro t _ _ _ _ h; simpa using h) k s rfl
theorem pumpPasses_conduct (k : Nat) (s : State) : (pumpPasses k s).conduct = s.conduct :=
  pumpPasses_induct (P := fun t => t.conduct = s.conduct) (by intro t _ _ _ h; simpa using h)
    (by intro t _ _ _ _ h; simpa using h) (by intro t _ _ _ _ h; simpa using h) k s rfl
theorem pumpPasses_scan (k : Nat) (s : State) : (pumpPasses k s).scan = s.scan :=
  pumpPasses_induct (P := fun t => t.scan = s.scan) (by intro t _ _ _ h; simpa using h)
    (by intro t _ _ _ _ h; simpa using h) (by intro t _ _ _ _ h; simpa using h) k s rfl
theorem pumpPasses_timer (k : Nat) (s : State) : (pumpPasses k s).timer = s.timer :=
  pumpPasses_induct (P := fun t => t.timer = s.timer) (by intro t _ _ _ h; simpa using h)
    (by intro t _ _ _ _ h; simpa using h) (by intro t _ _ _ _ h; simpa using h) k s rfl
theorem pumpPasses_plans (k : Nat) (s : State) : (pumpPasses k s).plans = s.plans :=
  pumpPasses_induct (P := fun t => t.plans = s.plans) (by intro t _ _ _ h; simpa using h)
    (by intro t _ _ _ _ h; simpa using h) (by intro t _ _ _ _ h; simpa using h) k s rfl
theorem pumpPasses_win (k : Nat) (s : State) : (pumpPasses k s).win = s.win :=
  pumpPasses_induct (P := fun t => t.win = s.win) (by intro t _ _ _ h; simpa using h)
    (by intro t _ _ _ _ h; simpa using h) (by intro t _ _ _ _ h; simpa using h) k s rfl
theorem pumpPasses_pending (k : Nat) (s : State) : (pumpPasses k s).pending = s.pending :=
  pumpPasses_induct (P := fun t => t.pending = s.pending) (by intro t _ _ _ h; simpa using h)
    (by intro t _ _ _ _ h; simpa using h) (by intro t _ _ _ _ h; simpa using h) k s rfl
theorem pumpPasses_mem_mode (k : Nat) (s : State) : (pumpPasses k s).mem.mode = s.mem.mode :=
  pumpPasses_induct (P := fun t => t.mem.mode = s.mem.mode) (by intro t _ _ _ h; simpa using h)
    (by intro t _ _ _ _ h; simpa using h) (by intro t _ _ _ _ h; simpa using h) k s rfl
theorem pumpPasses_mem_region (k : Nat) (s : State) : (pumpPasses k s).mem.region = s.mem.region :=
  pumpPasses_induct (P := fun t => t.mem.region = s.mem.region) (by intro t _ _ _ h; simpa using h)
    (by intro t _ _ _ _ h; simpa using h) (by intro t _ _ _ _ h; simpa using h) k s rfl
theorem pumpPasses_mem_journalBase (k : Nat) (s : State) : (pumpPasses k s).mem.journalBase = s.mem.journalBase :=
  pumpPasses_induct (P := fun t => t.mem.journalBase = s.mem.journalBase) (by intro t _ _ _ h; simpa using h)
    (by intro t _ _ _ _ h; simpa using h) (by intro t _ _ _ _ h; simpa using h) k s rfl
theorem pumpPasses_mem_capacity (k : Nat) (s : State) : (pumpPasses k s).mem.capacity = s.mem.capacity :=
  pumpPasses_induct (P := fun t => t.mem.capacity = s.mem.capacity) (by intro t _ _ _ h; simpa using h)
    (by intro t _ _ _ _ h; simpa using h) (by intro t _ _ _ _ h; simpa using h) k s rfl
theorem pumpPasses_mem_usageBase (k : Nat) (s : State) : (pumpPasses k s).mem.usageBase = s.mem.usageBase :=
  pumpPasses_induct (P := fun t => t.mem.usageBase = s.mem.usageBase) (by intro t _ _ _ h; simpa using h)
    (by intro t _ _ _ _ h; simpa using h) (by intro t _ _ _ _ h; simpa using h) k s rfl
theorem pumpPasses_mem_signalAddr (k : Nat) (s : State) : (pumpPasses k s).mem.signalAddr = s.mem.signalAddr :=
  pumpPasses_induct (P := fun t => t.mem.signalAddr = s.mem.signalAddr) (by intro t _ _ _ h; simpa using h)
    (by intro t _ _ _ _ h; simpa using h) (by intro t _ _ _ _ h; simpa using h) k s rfl
theorem pumpPasses_mem_signalValue (k : Nat) (s : State) : (pumpPasses k s).mem.signalValue = s.mem.signalValue :=
  pumpPasses_induct (P := fun t => t.mem.signalValue = s.mem.signalValue) (by intro t _ _ _ h; simpa using h)
    (by intro t _ _ _ _ h; simpa using h) (by intro t _ _ _ _ h; simpa using h) k s rfl
theorem pumpPasses_mem_signalMask (k : Nat) (s : State) : (pumpPasses k s).mem.signalMask = s.mem.signalMask :=
  pumpPasses_induct (P := fun t => t.mem.signalMask = s.mem.signalMask) (by intro t _ _ _ h; simpa using h)
    (by intro t _ _ _ _ h; simpa using h) (by intro t _ _ _ _ h; simpa using h) k s rfl
theorem pumpPasses_mem_produced (k : Nat) (s : State) : (pumpPasses k s).mem.produced = s.mem.produced :=
  pumpPasses_induct (P := fun t => t.mem.produced = s.mem.produced) (by intro t _ _ _ h; simpa using h)
    (by intro t _ _ _ _ h; simpa using h) (by intro t _ _ _ _ h; simpa using h) k s rfl
theorem pumpPasses_mem_consumed (k : Nat) (s : State) : (pumpPasses k s).mem.consumed = s.mem.consumed :=
  pumpPasses_induct (P := fun t => t.mem.consumed = s.mem.consumed) (by intro t _ _ _ h; simpa using h)
    (by intro t _ _ _ _ h; simpa using h) (by intro t _ _ _ _ h; simpa using h) k s rfl
theorem pumpPasses_mem_notices (k : Nat) (s : State) : (pumpPasses k s).mem.notices = s.mem.notices :=
  pumpPasses_induct (P := fun t => t.mem.notices = s.mem.notices) (by intro t _ _ _ h; simpa using h)
    (by intro t _ _ _ _ h; simpa using h) (by intro t _ _ _ _ h; simpa using h) k s rfl
theorem pumpPasses_mem_slots (k : Nat) (s : State) : (pumpPasses k s).mem.slots = s.mem.slots :=
  pumpPasses_induct (P := fun t => t.mem.slots = s.mem.slots) (by intro t _ _ _ h; simpa using h)
    (by intro t _ _ _ _ h; simpa using h) (by intro t _ _ _ _ h; simpa using h) k s rfl
theorem pumpPasses_mem_lapsed (k : Nat) (s : State) : (pumpPasses k s).mem.lapsed = s.mem.lapsed :=
  pumpPasses_induct (P := fun t => t.mem.lapsed = s.mem.lapsed) (by intro t _ _ _ h; simpa using h)
    (by intro t _ _ _ _ h; simpa using h) (by intro t _ _ _ _ h; simpa using h) k s rfl
theorem pumpPasses_mem_armed (k : Nat) (s : State) : (pumpPasses k s).mem.armed = s.mem.armed :=
  pumpPasses_induct (P := fun t => t.mem.armed = s.mem.armed) (by intro t _ _ _ h; simpa using h)
    (by intro t _ _ _ _ h; simpa using h) (by intro t _ _ _ _ h; simpa using h) k s rfl
theorem pumpPasses_mem_noted (k : Nat) (s : State) : (pumpPasses k s).mem.noted = s.mem.noted :=
  pumpPasses_induct (P := fun t => t.mem.noted = s.mem.noted) (by intro t _ _ _ h; simpa using h)
    (by intro t _ _ _ _ h; simpa using h) (by intro t _ _ _ _ h; simpa using h) k s rfl
theorem pumpPasses_mem_rewrite (k : Nat) (s : State) : (pumpPasses k s).mem.rewrite = s.mem.rewrite :=
  pumpPasses_induct (P := fun t => t.mem.rewrite = s.mem.rewrite) (by intro t _ _ _ h; simpa using h)
    (by intro t _ _ _ _ h; simpa using h) (by intro t _ _ _ _ h; simpa using h) k s rfl
theorem pumpPasses_mem_stmtCount (k : Nat) (s : State) : (pumpPasses k s).mem.stmtCount = s.mem.stmtCount :=
  pumpPasses_induct (P := fun t => t.mem.stmtCount = s.mem.stmtCount) (by intro t _ _ _ h; simpa using h)
    (by intro t _ _ _ _ h; simpa using h) (by intro t _ _ _ _ h; simpa using h) k s rfl
theorem pumpPasses_mem_stmtNumber (k : Nat) (s : State) : (pumpPasses k s).mem.stmtNumber = s.mem.stmtNumber :=
  pumpPasses_induct (P := fun t => t.mem.stmtNumber = s.mem.stmtNumber) (by intro t _ _ _ h; simpa using h)
    (by intro t _ _ _ _ h; simpa using h) (by intro t _ _ _ _ h; simpa using h) k s rfl
theorem pumpPasses_mem_stmtOwed (k : Nat) (s : State) : (pumpPasses k s).mem.stmtOwed = s.mem.stmtOwed :=
  pumpPasses_induct (P := fun t => t.mem.stmtOwed = s.mem.stmtOwed) (by intro t _ _ _ h; simpa using h)
    (by intro t _ _ _ _ h; simpa using h) (by intro t _ _ _ _ h; simpa using h) k s rfl
theorem pumpPasses_mem_statement (k : Nat) (s : State) : (pumpPasses k s).mem.statement = s.mem.statement :=
  pumpPasses_induct (P := fun t => t.mem.statement = s.mem.statement) (by intro t _ _ _ h; simpa using h)
    (by intro t _ _ _ _ h; simpa using h) (by intro t _ _ _ _ h; simpa using h) k s rfl
theorem pumpPasses_mem_read (k : Nat) (s : State) : (pumpPasses k s).mem.read = s.mem.read :=
  pumpPasses_induct (P := fun t => t.mem.read = s.mem.read) (by intro t _ _ _ h; simpa using h)
    (by intro t _ _ _ _ h; simpa using h) (by intro t _ _ _ _ h; simpa using h) k s rfl
theorem pumpPasses_mem_abandoned (k : Nat) (s : State) : (pumpPasses k s).mem.abandoned = s.mem.abandoned :=
  pumpPasses_induct (P := fun t => t.mem.abandoned = s.mem.abandoned) (by intro t _ _ _ h; simpa using h)
    (by intro t _ _ _ _ h; simpa using h) (by intro t _ _ _ _ h; simpa using h) k s rfl
theorem pumpPasses_mem_signalWrites (k : Nat) (s : State) : (pumpPasses k s).mem.signalWrites = s.mem.signalWrites :=
  pumpPasses_induct (P := fun t => t.mem.signalWrites = s.mem.signalWrites) (by intro t _ _ _ h; simpa using h)
    (by intro t _ _ _ _ h; simpa using h) (by intro t _ _ _ _ h; simpa using h) k s rfl
@[simp] theorem State.pump_link (s : State) : s.pump.link = s.link := pumpPasses_link ..
@[simp] theorem State.pump_ports (s : State) : s.pump.ports = s.ports := pumpPasses_ports ..
@[simp] theorem State.pump_conduct (s : State) : s.pump.conduct = s.conduct := pumpPasses_conduct ..
@[simp] theorem State.pump_scan (s : State) : s.pump.scan = s.scan := pumpPasses_scan ..
@[simp] theorem State.pump_timer (s : State) : s.pump.timer = s.timer := pumpPasses_timer ..
@[simp] theorem State.pump_plans (s : State) : s.pump.plans = s.plans := pumpPasses_plans ..
@[simp] theorem State.pump_win (s : State) : s.pump.win = s.win := pumpPasses_win ..
@[simp] theorem State.pump_pending (s : State) : s.pump.pending = s.pending := pumpPasses_pending ..
@[simp] theorem State.pump_mem_mode (s : State) : s.pump.mem.mode = s.mem.mode := pumpPasses_mem_mode ..
@[simp] theorem State.pump_mem_region (s : State) : s.pump.mem.region = s.mem.region := pumpPasses_mem_region ..
@[simp] theorem State.pump_mem_journalBase (s : State) : s.pump.mem.journalBase = s.mem.journalBase := pumpPasses_mem_journalBase ..
@[simp] theorem State.pump_mem_capacity (s : State) : s.pump.mem.capacity = s.mem.capacity := pumpPasses_mem_capacity ..
@[simp] theorem State.pump_mem_usageBase (s : State) : s.pump.mem.usageBase = s.mem.usageBase := pumpPasses_mem_usageBase ..
@[simp] theorem State.pump_mem_signalAddr (s : State) : s.pump.mem.signalAddr = s.mem.signalAddr := pumpPasses_mem_signalAddr ..
@[simp] theorem State.pump_mem_signalValue (s : State) : s.pump.mem.signalValue = s.mem.signalValue := pumpPasses_mem_signalValue ..
@[simp] theorem State.pump_mem_signalMask (s : State) : s.pump.mem.signalMask = s.mem.signalMask := pumpPasses_mem_signalMask ..
@[simp] theorem State.pump_mem_produced (s : State) : s.pump.mem.produced = s.mem.produced := pumpPasses_mem_produced ..
@[simp] theorem State.pump_mem_consumed (s : State) : s.pump.mem.consumed = s.mem.consumed := pumpPasses_mem_consumed ..
@[simp] theorem State.pump_mem_notices (s : State) : s.pump.mem.notices = s.mem.notices := pumpPasses_mem_notices ..
@[simp] theorem State.pump_mem_slots (s : State) : s.pump.mem.slots = s.mem.slots := pumpPasses_mem_slots ..
@[simp] theorem State.pump_mem_lapsed (s : State) : s.pump.mem.lapsed = s.mem.lapsed := pumpPasses_mem_lapsed ..
@[simp] theorem State.pump_mem_armed (s : State) : s.pump.mem.armed = s.mem.armed := pumpPasses_mem_armed ..
@[simp] theorem State.pump_mem_noted (s : State) : s.pump.mem.noted = s.mem.noted := pumpPasses_mem_noted ..
@[simp] theorem State.pump_mem_rewrite (s : State) : s.pump.mem.rewrite = s.mem.rewrite := pumpPasses_mem_rewrite ..
@[simp] theorem State.pump_mem_stmtCount (s : State) : s.pump.mem.stmtCount = s.mem.stmtCount := pumpPasses_mem_stmtCount ..
@[simp] theorem State.pump_mem_stmtNumber (s : State) : s.pump.mem.stmtNumber = s.mem.stmtNumber := pumpPasses_mem_stmtNumber ..
@[simp] theorem State.pump_mem_stmtOwed (s : State) : s.pump.mem.stmtOwed = s.mem.stmtOwed := pumpPasses_mem_stmtOwed ..
@[simp] theorem State.pump_mem_statement (s : State) : s.pump.mem.statement = s.mem.statement := pumpPasses_mem_statement ..
@[simp] theorem State.pump_mem_read (s : State) : s.pump.mem.read = s.mem.read := pumpPasses_mem_read ..
@[simp] theorem State.pump_mem_abandoned (s : State) : s.pump.mem.abandoned = s.mem.abandoned := pumpPasses_mem_abandoned ..
@[simp] theorem State.pump_mem_signalWrites (s : State) : s.pump.mem.signalWrites = s.mem.signalWrites := pumpPasses_mem_signalWrites ..
@[simp] theorem State.startPass_link (s : State) (o : Occasion) : (s.startPass o).link = s.link := by unfold State.startPass; dsimp only; split <;> [simp; rfl]
@[simp] theorem State.startPass_ports (s : State) (o : Occasion) : (s.startPass o).ports = s.ports := by unfold State.startPass; dsimp only; split <;> [simp; rfl]
@[simp] theorem State.startPass_conduct (s : State) (o : Occasion) : (s.startPass o).conduct = s.conduct := by unfold State.startPass; dsimp only; split <;> [simp; rfl]
@[simp] theorem State.startPass_scan (s : State) (o : Occasion) : (s.startPass o).scan = s.scan := by unfold State.startPass; dsimp only; split <;> [simp; rfl]
@[simp] theorem State.startPass_timer (s : State) (o : Occasion) : (s.startPass o).timer = s.timer := by unfold State.startPass; dsimp only; split <;> [simp; rfl]
@[simp] theorem State.startPass_plans (s : State) (o : Occasion) : (s.startPass o).plans = s.plans := by unfold State.startPass; dsimp only; split <;> [simp; rfl]
@[simp] theorem State.startPass_win (s : State) (o : Occasion) : (s.startPass o).win = s.win := by unfold State.startPass; dsimp only; split <;> [simp; rfl]
@[simp] theorem State.startPass_pending (s : State) (o : Occasion) : (s.startPass o).pending = s.pending := by unfold State.startPass; dsimp only; split <;> [simp; rfl]
@[simp] theorem State.startPass_mem_mode (s : State) (o : Occasion) :
    (s.startPass o).mem.mode = s.mem.mode := by unfold State.startPass; dsimp only; split <;> [simp; rfl]
@[simp] theorem State.startPass_mem_region (s : State) (o : Occasion) :
    (s.startPass o).mem.region = s.mem.region := by unfold State.startPass; dsimp only; split <;> [simp; rfl]
@[simp] theorem State.startPass_mem_journalBase (s : State) (o : Occasion) :
    (s.startPass o).mem.journalBase = s.mem.journalBase := by unfold State.startPass; dsimp only; split <;> [simp; rfl]
@[simp] theorem State.startPass_mem_capacity (s : State) (o : Occasion) :
    (s.startPass o).mem.capacity = s.mem.capacity := by unfold State.startPass; dsimp only; split <;> [simp; rfl]
@[simp] theorem State.startPass_mem_usageBase (s : State) (o : Occasion) :
    (s.startPass o).mem.usageBase = s.mem.usageBase := by unfold State.startPass; dsimp only; split <;> [simp; rfl]
@[simp] theorem State.startPass_mem_signalAddr (s : State) (o : Occasion) :
    (s.startPass o).mem.signalAddr = s.mem.signalAddr := by unfold State.startPass; dsimp only; split <;> [simp; rfl]
@[simp] theorem State.startPass_mem_signalValue (s : State) (o : Occasion) :
    (s.startPass o).mem.signalValue = s.mem.signalValue := by unfold State.startPass; dsimp only; split <;> [simp; rfl]
@[simp] theorem State.startPass_mem_signalMask (s : State) (o : Occasion) :
    (s.startPass o).mem.signalMask = s.mem.signalMask := by unfold State.startPass; dsimp only; split <;> [simp; rfl]
@[simp] theorem State.startPass_mem_produced (s : State) (o : Occasion) :
    (s.startPass o).mem.produced = s.mem.produced := by unfold State.startPass; dsimp only; split <;> [simp; rfl]
@[simp] theorem State.startPass_mem_consumed (s : State) (o : Occasion) :
    (s.startPass o).mem.consumed = s.mem.consumed := by unfold State.startPass; dsimp only; split <;> [simp; rfl]
@[simp] theorem State.startPass_mem_notices (s : State) (o : Occasion) :
    (s.startPass o).mem.notices = s.mem.notices := by unfold State.startPass; dsimp only; split <;> [simp; rfl]
@[simp] theorem State.startPass_mem_slots (s : State) (o : Occasion) :
    (s.startPass o).mem.slots = s.mem.slots := by unfold State.startPass; dsimp only; split <;> [simp; rfl]
@[simp] theorem State.startPass_mem_lapsed (s : State) (o : Occasion) :
    (s.startPass o).mem.lapsed = s.mem.lapsed := by unfold State.startPass; dsimp only; split <;> [simp; rfl]
@[simp] theorem State.startPass_mem_armed (s : State) (o : Occasion) :
    (s.startPass o).mem.armed = s.mem.armed := by unfold State.startPass; dsimp only; split <;> [simp; rfl]
@[simp] theorem State.startPass_mem_noted (s : State) (o : Occasion) :
    (s.startPass o).mem.noted = s.mem.noted := by unfold State.startPass; dsimp only; split <;> [simp; rfl]
@[simp] theorem State.startPass_mem_rewrite (s : State) (o : Occasion) :
    (s.startPass o).mem.rewrite = s.mem.rewrite := by unfold State.startPass; dsimp only; split <;> [simp; rfl]
@[simp] theorem State.startPass_mem_stmtCount (s : State) (o : Occasion) :
    (s.startPass o).mem.stmtCount = s.mem.stmtCount := by unfold State.startPass; dsimp only; split <;> [simp; rfl]
@[simp] theorem State.startPass_mem_stmtNumber (s : State) (o : Occasion) :
    (s.startPass o).mem.stmtNumber = s.mem.stmtNumber := by unfold State.startPass; dsimp only; split <;> [simp; rfl]
@[simp] theorem State.startPass_mem_stmtOwed (s : State) (o : Occasion) :
    (s.startPass o).mem.stmtOwed = s.mem.stmtOwed := by unfold State.startPass; dsimp only; split <;> [simp; rfl]
@[simp] theorem State.startPass_mem_statement (s : State) (o : Occasion) :
    (s.startPass o).mem.statement = s.mem.statement := by unfold State.startPass; dsimp only; split <;> [simp; rfl]
@[simp] theorem State.startPass_mem_read (s : State) (o : Occasion) :
    (s.startPass o).mem.read = s.mem.read := by unfold State.startPass; dsimp only; split <;> [simp; rfl]
@[simp] theorem State.startPass_mem_abandoned (s : State) (o : Occasion) :
    (s.startPass o).mem.abandoned = s.mem.abandoned := by unfold State.startPass; dsimp only; split <;> [simp; rfl]
@[simp] theorem State.startPass_mem_signalWrites (s : State) (o : Occasion) :
    (s.startPass o).mem.signalWrites = s.mem.signalWrites := by unfold State.startPass; dsimp only; split <;> [simp; rfl]

/-! ### Entry to PARKED (R147, R120, R130) -/

@[simp] theorem State.park_link (s : State) : (s.park).link = s.link := rfl
@[simp] theorem State.park_conduct (s : State) : (s.park).conduct = s.conduct := rfl
@[simp] theorem State.park_pending (s : State) : (s.park).pending = s.pending := rfl
@[simp] theorem State.park_mem_mode (s : State) :
    (s.park).mem.mode = s.mem.mode := rfl
@[simp] theorem State.park_mem_region (s : State) :
    (s.park).mem.region = s.mem.region := rfl
@[simp] theorem State.park_mem_journalBase (s : State) :
    (s.park).mem.journalBase = s.mem.journalBase := rfl
@[simp] theorem State.park_mem_capacity (s : State) :
    (s.park).mem.capacity = s.mem.capacity := rfl
@[simp] theorem State.park_mem_usageBase (s : State) :
    (s.park).mem.usageBase = s.mem.usageBase := rfl
@[simp] theorem State.park_mem_signalAddr (s : State) :
    (s.park).mem.signalAddr = s.mem.signalAddr := rfl
@[simp] theorem State.park_mem_signalValue (s : State) :
    (s.park).mem.signalValue = s.mem.signalValue := rfl
@[simp] theorem State.park_mem_signalMask (s : State) :
    (s.park).mem.signalMask = s.mem.signalMask := rfl
@[simp] theorem State.park_mem_produced (s : State) :
    (s.park).mem.produced = s.mem.produced := rfl
@[simp] theorem State.park_mem_consumed (s : State) :
    (s.park).mem.consumed = s.mem.consumed := rfl
@[simp] theorem State.park_mem_notices (s : State) :
    (s.park).mem.notices = s.mem.notices := rfl
@[simp] theorem State.park_mem_slots (s : State) :
    (s.park).mem.slots = s.mem.slots := rfl
@[simp] theorem State.park_mem_lapsed (s : State) :
    (s.park).mem.lapsed = s.mem.lapsed := rfl
@[simp] theorem State.park_mem_armed (s : State) :
    (s.park).mem.armed = s.mem.armed := rfl
@[simp] theorem State.park_mem_noted (s : State) :
    (s.park).mem.noted = s.mem.noted := rfl
@[simp] theorem State.park_mem_rewrite (s : State) :
    (s.park).mem.rewrite = s.mem.rewrite := rfl
@[simp] theorem State.park_mem_signalDue (s : State) :
    (s.park).mem.signalDue = s.mem.signalDue := rfl
@[simp] theorem State.park_mem_stmtCount (s : State) :
    (s.park).mem.stmtCount = s.mem.stmtCount := rfl
@[simp] theorem State.park_mem_stmtNumber (s : State) :
    (s.park).mem.stmtNumber = s.mem.stmtNumber := rfl
@[simp] theorem State.park_mem_stmtOwed (s : State) :
    (s.park).mem.stmtOwed = s.mem.stmtOwed := rfl

/-- A port after entry to PARKED: nothing owed, all else kept. -/
@[simp] theorem State.park_ports_get (s : State) (p : Port) :
    s.park.ports.get p = { s.ports.get p with closeOwed := [], changeOwed := [], allocDue := false } := by
  simp [State.park]

@[simp] theorem State.park_conductOf (s : State) (a : Account) : s.park.conductOf a = s.conductOf a := rfl

/-- All that beginning to park can do. -/
theorem State.beginParking_cases (s : State) :
    (s.mem.mode = .faulted ∧ s.beginParking = s.park) ∨
    (s.mem.mode = .serving ∧ s.beginParking = { s with win := { s.win with parking := true } }.startPass .parking) := by
  unfold State.beginParking
  split
  · exact .inl ⟨‹_›, rfl⟩
  · refine .inr ⟨?_, rfl⟩
    cases h : s.mem.mode <;> simp_all

/-- All that the check for parking can do. -/
theorem State.parkIfDone_cases (s : State) :
    s.parkIfDone = s ∨
    (s.win.mode = .stopping ∧ s.allStandby = true ∧ s.win.parking = false ∧ s.parkIfDone = s.beginParking) := by
  unfold State.parkIfDone
  split
  · rename_i h; exact .inr ⟨h.1, h.2.1, h.2.2, rfl⟩
  · exact .inl rfl

@[simp] theorem State.beginParking_link (s : State) : s.beginParking.link = s.link := by
  rcases s.beginParking_cases with ⟨_, e⟩ | ⟨_, e⟩ <;> simp [e]
@[simp] theorem State.beginParking_conduct (s : State) : s.beginParking.conduct = s.conduct := by
  rcases s.beginParking_cases with ⟨_, e⟩ | ⟨_, e⟩ <;> simp [e]
@[simp] theorem State.beginParking_pending (s : State) : s.beginParking.pending = s.pending := by
  rcases s.beginParking_cases with ⟨_, e⟩ | ⟨_, e⟩ <;> simp [e]
@[simp] theorem State.beginParking_ports_mode (s : State) (p : Port) :
    (s.beginParking.ports.get p).mode = (s.ports.get p).mode := by
  rcases s.beginParking_cases with ⟨_, e⟩ | ⟨_, e⟩ <;> simp [e]
@[simp] theorem State.beginParking_ports_openEpoch (s : State) (p : Port) :
    (s.beginParking.ports.get p).openEpoch = (s.ports.get p).openEpoch := by
  rcases s.beginParking_cases with ⟨_, e⟩ | ⟨_, e⟩ <;> simp [e]
@[simp] theorem State.beginParking_ports_table (s : State) (p : Port) :
    (s.beginParking.ports.get p).table = (s.ports.get p).table := by
  rcases s.beginParking_cases with ⟨_, e⟩ | ⟨_, e⟩ <;> simp [e]
@[simp] theorem State.beginParking_ports_tagCounter (s : State) (p : Port) :
    (s.beginParking.ports.get p).tagCounter = (s.ports.get p).tagCounter := by
  rcases s.beginParking_cases with ⟨_, e⟩ | ⟨_, e⟩ <;> simp [e]
@[simp] theorem State.beginParking_ports_urgentLists (s : State) (p : Port) :
    (s.beginParking.ports.get p).urgentLists = (s.ports.get p).urgentLists := by
  rcases s.beginParking_cases with ⟨_, e⟩ | ⟨_, e⟩ <;> simp [e]
@[simp] theorem State.beginParking_ports_bulkLists (s : State) (p : Port) :
    (s.beginParking.ports.get p).bulkLists = (s.ports.get p).bulkLists := by
  rcases s.beginParking_cases with ⟨_, e⟩ | ⟨_, e⟩ <;> simp [e]
@[simp] theorem State.beginParking_ports_urgentPtr (s : State) (p : Port) :
    (s.beginParking.ports.get p).urgentPtr = (s.ports.get p).urgentPtr := by
  rcases s.beginParking_cases with ⟨_, e⟩ | ⟨_, e⟩ <;> simp [e]
@[simp] theorem State.beginParking_ports_bulkPtr (s : State) (p : Port) :
    (s.beginParking.ports.get p).bulkPtr = (s.ports.get p).bulkPtr := by
  rcases s.beginParking_cases with ⟨_, e⟩ | ⟨_, e⟩ <;> simp [e]
@[simp] theorem State.beginParking_ports_counts (s : State) (p : Port) :
    (s.beginParking.ports.get p).counts = (s.ports.get p).counts := by
  rcases s.beginParking_cases with ⟨_, e⟩ | ⟨_, e⟩ <;> simp [e]
@[simp] theorem State.beginParking_ports_cells (s : State) (p : Port) :
    (s.beginParking.ports.get p).cells = (s.ports.get p).cells := by
  rcases s.beginParking_cases with ⟨_, e⟩ | ⟨_, e⟩ <;> simp [e]
@[simp] theorem State.beginParking_ports_capacity (s : State) (p : Port) :
    (s.beginParking.ports.get p).capacity = (s.ports.get p).capacity := by
  rcases s.beginParking_cases with ⟨_, e⟩ | ⟨_, e⟩ <;> simp [e]
@[simp] theorem State.beginParking_ports_served (s : State) (p : Port) :
    (s.beginParking.ports.get p).served = (s.ports.get p).served := by
  rcases s.beginParking_cases with ⟨_, e⟩ | ⟨_, e⟩ <;> simp [e]
@[simp] theorem State.beginParking_ports_totals (s : State) (p : Port) :
    (s.beginParking.ports.get p).totals = (s.ports.get p).totals := by
  rcases s.beginParking_cases with ⟨_, e⟩ | ⟨_, e⟩ <;> simp [e]
@[simp] theorem State.beginParking_ports_filter (s : State) (p : Port) :
    (s.beginParking.ports.get p).filter = (s.ports.get p).filter := by
  rcases s.beginParking_cases with ⟨_, e⟩ | ⟨_, e⟩ <;> simp [e]
@[simp] theorem State.beginParking_ports_inFlight (s : State) (p : Port) :
    (s.beginParking.ports.get p).inFlight = (s.ports.get p).inFlight := by
  rcases s.beginParking_cases with ⟨_, e⟩ | ⟨_, e⟩ <;> simp [e]
@[simp] theorem State.beginParking_ports_queues (s : State) (p : Port) :
    (s.beginParking.ports.get p).queues = (s.ports.get p).queues := by
  rcases s.beginParking_cases with ⟨_, e⟩ | ⟨_, e⟩ <;> simp [e]
@[simp] theorem State.beginParking_ports_refused (s : State) (p : Port) :
    (s.beginParking.ports.get p).refused = (s.ports.get p).refused := by
  rcases s.beginParking_cases with ⟨_, e⟩ | ⟨_, e⟩ <;> simp [e]
@[simp] theorem State.beginParking_ports_values (s : State) (p : Port) :
    (s.beginParking.ports.get p).values = (s.ports.get p).values := by
  rcases s.beginParking_cases with ⟨_, e⟩ | ⟨_, e⟩ <;> simp [e]
@[simp] theorem State.beginParking_ports_deferred (s : State) (p : Port) :
    (s.beginParking.ports.get p).deferred = (s.ports.get p).deferred := by
  rcases s.beginParking_cases with ⟨_, e⟩ | ⟨_, e⟩ <;> simp [e]
@[simp] theorem State.beginParking_mem_notices (s : State) : s.beginParking.mem.notices = s.mem.notices := by
  rcases s.beginParking_cases with ⟨_, e⟩ | ⟨_, e⟩ <;> simp [e]
@[simp] theorem State.beginParking_mem_lapsed (s : State) : s.beginParking.mem.lapsed = s.mem.lapsed := by
  rcases s.beginParking_cases with ⟨_, e⟩ | ⟨_, e⟩ <;> simp [e]
@[simp] theorem State.beginParking_mem_slots (s : State) : s.beginParking.mem.slots = s.mem.slots := by
  rcases s.beginParking_cases with ⟨_, e⟩ | ⟨_, e⟩ <;> simp [e]
@[simp] theorem State.beginParking_mem_produced (s : State) : s.beginParking.mem.produced = s.mem.produced := by
  rcases s.beginParking_cases with ⟨_, e⟩ | ⟨_, e⟩ <;> simp [e]
@[simp] theorem State.beginParking_mem_consumed (s : State) : s.beginParking.mem.consumed = s.mem.consumed := by
  rcases s.beginParking_cases with ⟨_, e⟩ | ⟨_, e⟩ <;> simp [e]
@[simp] theorem State.beginParking_mem_mode (s : State) : s.beginParking.mem.mode = s.mem.mode := by
  rcases s.beginParking_cases with ⟨_, e⟩ | ⟨_, e⟩ <;> simp [e]
@[simp] theorem State.beginParking_mem_region (s : State) : s.beginParking.mem.region = s.mem.region := by
  rcases s.beginParking_cases with ⟨_, e⟩ | ⟨_, e⟩ <;> simp [e]
@[simp] theorem State.beginParking_mem_armed (s : State) : s.beginParking.mem.armed = s.mem.armed := by
  rcases s.beginParking_cases with ⟨_, e⟩ | ⟨_, e⟩ <;> simp [e]
@[simp] theorem State.beginParking_mem_noted (s : State) : s.beginParking.mem.noted = s.mem.noted := by
  rcases s.beginParking_cases with ⟨_, e⟩ | ⟨_, e⟩ <;> simp [e]
@[simp] theorem State.beginParking_mem_rewrite (s : State) : s.beginParking.mem.rewrite = s.mem.rewrite := by
  rcases s.beginParking_cases with ⟨_, e⟩ | ⟨_, e⟩ <;> simp [e]
@[simp] theorem State.parkIfDone_link (s : State) : s.parkIfDone.link = s.link := by
  rcases s.parkIfDone_cases with e | ⟨_, _, _, e⟩ <;> simp [e]
@[simp] theorem State.parkIfDone_conduct (s : State) : s.parkIfDone.conduct = s.conduct := by
  rcases s.parkIfDone_cases with e | ⟨_, _, _, e⟩ <;> simp [e]
@[simp] theorem State.parkIfDone_pending (s : State) : s.parkIfDone.pending = s.pending := by
  rcases s.parkIfDone_cases with e | ⟨_, _, _, e⟩ <;> simp [e]
@[simp] theorem State.parkIfDone_ports_mode (s : State) (p : Port) :
    (s.parkIfDone.ports.get p).mode = (s.ports.get p).mode := by
  rcases s.parkIfDone_cases with e | ⟨_, _, _, e⟩ <;> simp [e]
@[simp] theorem State.parkIfDone_ports_openEpoch (s : State) (p : Port) :
    (s.parkIfDone.ports.get p).openEpoch = (s.ports.get p).openEpoch := by
  rcases s.parkIfDone_cases with e | ⟨_, _, _, e⟩ <;> simp [e]
@[simp] theorem State.parkIfDone_ports_table (s : State) (p : Port) :
    (s.parkIfDone.ports.get p).table = (s.ports.get p).table := by
  rcases s.parkIfDone_cases with e | ⟨_, _, _, e⟩ <;> simp [e]
@[simp] theorem State.parkIfDone_ports_tagCounter (s : State) (p : Port) :
    (s.parkIfDone.ports.get p).tagCounter = (s.ports.get p).tagCounter := by
  rcases s.parkIfDone_cases with e | ⟨_, _, _, e⟩ <;> simp [e]
@[simp] theorem State.parkIfDone_ports_urgentLists (s : State) (p : Port) :
    (s.parkIfDone.ports.get p).urgentLists = (s.ports.get p).urgentLists := by
  rcases s.parkIfDone_cases with e | ⟨_, _, _, e⟩ <;> simp [e]
@[simp] theorem State.parkIfDone_ports_bulkLists (s : State) (p : Port) :
    (s.parkIfDone.ports.get p).bulkLists = (s.ports.get p).bulkLists := by
  rcases s.parkIfDone_cases with e | ⟨_, _, _, e⟩ <;> simp [e]
@[simp] theorem State.parkIfDone_ports_urgentPtr (s : State) (p : Port) :
    (s.parkIfDone.ports.get p).urgentPtr = (s.ports.get p).urgentPtr := by
  rcases s.parkIfDone_cases with e | ⟨_, _, _, e⟩ <;> simp [e]
@[simp] theorem State.parkIfDone_ports_bulkPtr (s : State) (p : Port) :
    (s.parkIfDone.ports.get p).bulkPtr = (s.ports.get p).bulkPtr := by
  rcases s.parkIfDone_cases with e | ⟨_, _, _, e⟩ <;> simp [e]
@[simp] theorem State.parkIfDone_ports_counts (s : State) (p : Port) :
    (s.parkIfDone.ports.get p).counts = (s.ports.get p).counts := by
  rcases s.parkIfDone_cases with e | ⟨_, _, _, e⟩ <;> simp [e]
@[simp] theorem State.parkIfDone_ports_cells (s : State) (p : Port) :
    (s.parkIfDone.ports.get p).cells = (s.ports.get p).cells := by
  rcases s.parkIfDone_cases with e | ⟨_, _, _, e⟩ <;> simp [e]
@[simp] theorem State.parkIfDone_ports_capacity (s : State) (p : Port) :
    (s.parkIfDone.ports.get p).capacity = (s.ports.get p).capacity := by
  rcases s.parkIfDone_cases with e | ⟨_, _, _, e⟩ <;> simp [e]
@[simp] theorem State.parkIfDone_ports_served (s : State) (p : Port) :
    (s.parkIfDone.ports.get p).served = (s.ports.get p).served := by
  rcases s.parkIfDone_cases with e | ⟨_, _, _, e⟩ <;> simp [e]
@[simp] theorem State.parkIfDone_ports_totals (s : State) (p : Port) :
    (s.parkIfDone.ports.get p).totals = (s.ports.get p).totals := by
  rcases s.parkIfDone_cases with e | ⟨_, _, _, e⟩ <;> simp [e]
@[simp] theorem State.parkIfDone_ports_filter (s : State) (p : Port) :
    (s.parkIfDone.ports.get p).filter = (s.ports.get p).filter := by
  rcases s.parkIfDone_cases with e | ⟨_, _, _, e⟩ <;> simp [e]
@[simp] theorem State.parkIfDone_ports_inFlight (s : State) (p : Port) :
    (s.parkIfDone.ports.get p).inFlight = (s.ports.get p).inFlight := by
  rcases s.parkIfDone_cases with e | ⟨_, _, _, e⟩ <;> simp [e]
@[simp] theorem State.parkIfDone_ports_queues (s : State) (p : Port) :
    (s.parkIfDone.ports.get p).queues = (s.ports.get p).queues := by
  rcases s.parkIfDone_cases with e | ⟨_, _, _, e⟩ <;> simp [e]
@[simp] theorem State.parkIfDone_ports_refused (s : State) (p : Port) :
    (s.parkIfDone.ports.get p).refused = (s.ports.get p).refused := by
  rcases s.parkIfDone_cases with e | ⟨_, _, _, e⟩ <;> simp [e]
@[simp] theorem State.parkIfDone_ports_values (s : State) (p : Port) :
    (s.parkIfDone.ports.get p).values = (s.ports.get p).values := by
  rcases s.parkIfDone_cases with e | ⟨_, _, _, e⟩ <;> simp [e]
@[simp] theorem State.parkIfDone_ports_deferred (s : State) (p : Port) :
    (s.parkIfDone.ports.get p).deferred = (s.ports.get p).deferred := by
  rcases s.parkIfDone_cases with e | ⟨_, _, _, e⟩ <;> simp [e]
@[simp] theorem State.parkIfDone_mem_notices (s : State) : s.parkIfDone.mem.notices = s.mem.notices := by
  rcases s.parkIfDone_cases with e | ⟨_, _, _, e⟩ <;> simp [e]
@[simp] theorem State.parkIfDone_mem_lapsed (s : State) : s.parkIfDone.mem.lapsed = s.mem.lapsed := by
  rcases s.parkIfDone_cases with e | ⟨_, _, _, e⟩ <;> simp [e]
@[simp] theorem State.parkIfDone_mem_slots (s : State) : s.parkIfDone.mem.slots = s.mem.slots := by
  rcases s.parkIfDone_cases with e | ⟨_, _, _, e⟩ <;> simp [e]
@[simp] theorem State.parkIfDone_mem_produced (s : State) : s.parkIfDone.mem.produced = s.mem.produced := by
  rcases s.parkIfDone_cases with e | ⟨_, _, _, e⟩ <;> simp [e]
@[simp] theorem State.parkIfDone_mem_consumed (s : State) : s.parkIfDone.mem.consumed = s.mem.consumed := by
  rcases s.parkIfDone_cases with e | ⟨_, _, _, e⟩ <;> simp [e]
@[simp] theorem State.parkIfDone_mem_mode (s : State) : s.parkIfDone.mem.mode = s.mem.mode := by
  rcases s.parkIfDone_cases with e | ⟨_, _, _, e⟩ <;> simp [e]
@[simp] theorem State.parkIfDone_mem_region (s : State) : s.parkIfDone.mem.region = s.mem.region := by
  rcases s.parkIfDone_cases with e | ⟨_, _, _, e⟩ <;> simp [e]
@[simp] theorem State.parkIfDone_mem_armed (s : State) : s.parkIfDone.mem.armed = s.mem.armed := by
  rcases s.parkIfDone_cases with e | ⟨_, _, _, e⟩ <;> simp [e]
@[simp] theorem State.parkIfDone_mem_noted (s : State) : s.parkIfDone.mem.noted = s.mem.noted := by
  rcases s.parkIfDone_cases with e | ⟨_, _, _, e⟩ <;> simp [e]

@[simp] theorem State.parkIfDone_mem_rewrite (s : State) : s.parkIfDone.mem.rewrite = s.mem.rewrite := by
  rcases s.parkIfDone_cases with e | ⟨_, _, _, e⟩ <;> simp [e]

end Sys2Proof.Machine
end

