-- ==== Sys2Proof/Laws/Conduct.lean ====
section
/-! SUPPORT. What a cut-off and a charge can do, and what they leave unchanged (R63, R98, R102). -/

namespace Sys2Proof.Machine

set_option Elab.async false

/-! ### The band of a score (R96) -/

theorem band_eq_cutOff (n : Nat) : band n = .cutOff ↔ 256 ≤ n := by
  unfold band; split <;> [skip; split <;> [skip; split]] <;> simp <;> omega

theorem band_eq_good (n : Nat) : band n = .good ↔ n ≤ 95 := by
  unfold band; split <;> [skip; split <;> [skip; split]] <;> simp <;> omega

/-! ### Cut-off (R102) -/

@[simp] theorem State.enterCutOff_scan (s : State) (a : Account) (sched : List Port) : (s.enterCutOff a sched).scan = s.scan := by simp [State.enterCutOff]
@[simp] theorem State.enterCutOff_timer (s : State) (a : Account) (sched : List Port) : (s.enterCutOff a sched).timer = s.timer := by simp [State.enterCutOff]
@[simp] theorem State.enterCutOff_plans (s : State) (a : Account) (sched : List Port) : (s.enterCutOff a sched).plans = s.plans := by simp [State.enterCutOff]
@[simp] theorem State.enterCutOff_win (s : State) (a : Account) (sched : List Port) : (s.enterCutOff a sched).win = s.win := by simp [State.enterCutOff]
@[simp] theorem State.enterCutOff_pending (s : State) (a : Account) (sched : List Port) : (s.enterCutOff a sched).pending = s.pending := by simp [State.enterCutOff]
@[simp] theorem State.enterCutOff_conduct (s : State) (a : Account) (sched : List Port) :
    (s.enterCutOff a sched).conduct = (s.modConduct a ConductRec.cutOff).conduct := by simp [State.enterCutOff]

/-- Every port takes the cut-off in the same event. -/
@[simp] theorem State.enterCutOff_ports_get (s : State) (a : Account) (sched : List Port) (p : Port) :
    (s.enterCutOff a sched).ports.get p = (s.ports.get p).cutOff a := by simp [State.enterCutOff]

theorem State.enterCutOff_mem (s : State) (a : Account) (sched : List Port) :
    (s.enterCutOff a sched).mem =
      (s.post (.conductChange a (s.conductOf a) .cutOff Config.cutOffScore s.timer.epoch)).mem := by
  simp only [State.enterCutOff, State.placeAll_mem]
  exact State.post_mem_congr _ (by simp)

theorem State.enterCutOff_output_length (s : State) (a : Account) (sched : List Port)
    (h : s.link.output.length ≤ 64) : (s.enterCutOff a sched).link.output.length ≤ 64 := by
  unfold State.enterCutOff
  exact State.placeAll_output_length _ _ (by simpa using h)

@[simp] theorem PortBlock.cutOff_mode (b : PortBlock) (a : Account) : (b.cutOff a).mode = b.mode := rfl
@[simp] theorem PortBlock.cutOff_openEpoch (b : PortBlock) (a : Account) : (b.cutOff a).openEpoch = b.openEpoch := rfl
@[simp] theorem PortBlock.cutOff_tagCounter (b : PortBlock) (a : Account) : (b.cutOff a).tagCounter = b.tagCounter := rfl
@[simp] theorem PortBlock.cutOff_urgentPtr (b : PortBlock) (a : Account) : (b.cutOff a).urgentPtr = b.urgentPtr := rfl
@[simp] theorem PortBlock.cutOff_bulkPtr (b : PortBlock) (a : Account) : (b.cutOff a).bulkPtr = b.bulkPtr := rfl
@[simp] theorem PortBlock.cutOff_counts (b : PortBlock) (a : Account) : (b.cutOff a).counts = b.counts := rfl
@[simp] theorem PortBlock.cutOff_capacity (b : PortBlock) (a : Account) : (b.cutOff a).capacity = b.capacity := rfl
@[simp] theorem PortBlock.cutOff_served (b : PortBlock) (a : Account) : (b.cutOff a).served = b.served := rfl
@[simp] theorem PortBlock.cutOff_totals (b : PortBlock) (a : Account) : (b.cutOff a).totals = b.totals := rfl
@[simp] theorem PortBlock.cutOff_filter (b : PortBlock) (a : Account) : (b.cutOff a).filter = b.filter := rfl
@[simp] theorem PortBlock.cutOff_refused (b : PortBlock) (a : Account) : (b.cutOff a).refused = b.refused := rfl
@[simp] theorem PortBlock.cutOff_values (b : PortBlock) (a : Account) : (b.cutOff a).values = b.values := rfl
@[simp] theorem PortBlock.cutOff_deferred (b : PortBlock) (a : Account) : (b.cutOff a).deferred = b.deferred := rfl
@[simp] theorem PortBlock.cutOff_closeOwed (b : PortBlock) (a : Account) : (b.cutOff a).closeOwed = b.closeOwed := rfl
@[simp] theorem PortBlock.cutOff_changeOwed (b : PortBlock) (a : Account) : (b.cutOff a).changeOwed = b.changeOwed := rfl
@[simp] theorem PortBlock.cutOff_allocDue (b : PortBlock) (a : Account) : (b.cutOff a).allocDue = b.allocDue := rfl

theorem PortBlock.cutOff_cell (b : PortBlock) (a c : Account) :
    (b.cutOff a).cells.get c = if a = c then (b.cells.get c).cutOff b.inFlight.isSome else b.cells.get c := by
  simp [PortBlock.cutOff, Tab.get_modify]

/-- The service lists of the cut-off account are empty, the others unchanged. -/
theorem PortBlock.cutOff_list (b : PortBlock) (a c : Account) (l : Lane) :
    (b.cutOff a).list l c = if a = c then [] else b.list l c := by
  cases l <;> simp [PortBlock.cutOff, PortBlock.list, Tab.get_set]

theorem PortBlock.cutOff_queue (b : PortBlock) (a : Account) (q : QueueId) :
    (b.cutOff a).queues.get q =
      if (b.queues.get q).bound = true ∧ (b.queues.get q).account = a then (b.queues.get q).cleared
      else b.queues.get q := by
  simp [PortBlock.cutOff]

/-- No LIVE entry of the account is left (R63). -/
theorem PortBlock.cutOff_table (b : PortBlock) (a : Account) (h : b.mode ≠ .standby) :
    (b.cutOff a).table = b.table.map fun e => if e.liveOf a then e.lapse else e := by
  simp [PortBlock.cutOff, h]

/-- A cut-off changes no tag (R63). -/
theorem PortBlock.cutOff_tags (b : PortBlock) (a : Account) :
    (b.cutOff a).table.map Entry.tag = b.table.map Entry.tag := by
  unfold PortBlock.cutOff
  dsimp only
  split
  · rfl
  · rw [List.map_map]
    apply List.map_congr_left
    intro e _
    simp only [Function.comp_apply]
    split <;> rfl

/-! ### Charges (R98) -/

/-- All that a charge can do: the flag alone for an account already in CUT_OFF; a cut-off; or a new score below 256, with
CONDUCT_CHANGE where its band differs. -/
theorem State.charge_cases (s : State) (a : Account) (n : Nat) (sched : List Port) :
    let r := s.conduct.recs.get a
    let s0 := s.modConduct a fun r => { r with fault := true }
    (256 ≤ r.score ∧ s.charge a n sched = s0) ∨
    (r.score < 256 ∧ 256 ≤ r.score + n ∧ s.charge a n sched = s0.enterCutOff a sched) ∨
    (r.score + n < 256 ∧
      let s1 := s0.modConduct a fun r => { r with score := (s.conduct.recs.get a).score + n }
      (s.charge a n sched = s1 ∧ band (r.score + n) = band r.score ∨
        s.charge a n sched =
          s1.post (.conductChange a (band r.score) (band (r.score + n)) (r.score + n) s.timer.epoch))) := by
  intro r s0
  have hst : s.conductOf a = band r.score := rfl
  have hr : (s.conduct.recs.get a).score = r.score := rfl
  unfold State.charge
  simp only [hst, hr, band_eq_cutOff, Config.cutOffScore]
  by_cases h1 : 256 ≤ r.score
  · left; exact ⟨h1, by rw [if_pos h1]⟩
  · rw [if_neg h1]
    by_cases h2 : 256 ≤ r.score + n
    · right; left
      exact ⟨by omega, h2, by rw [if_pos (by omega)]⟩
    · right; right
      refine ⟨by omega, ?_⟩
      rw [if_neg (by omega), show min 256 (r.score + n) = r.score + n by omega]
      by_cases h3 : band (r.score + n) = band r.score
      · left; exact ⟨by rw [if_pos h3], h3⟩
      · right; rw [if_neg h3]

@[simp] theorem State.charge_scan (s : State) (a : Account) (n : Nat) (sched : List Port) :
    (s.charge a n sched).scan = s.scan := by
  rcases s.charge_cases a n sched with ⟨_, e⟩ | ⟨_, _, e⟩ | ⟨_, ⟨e, _⟩ | e⟩ <;> simp [e]
@[simp] theorem State.charge_timer (s : State) (a : Account) (n : Nat) (sched : List Port) :
    (s.charge a n sched).timer = s.timer := by
  rcases s.charge_cases a n sched with ⟨_, e⟩ | ⟨_, _, e⟩ | ⟨_, ⟨e, _⟩ | e⟩ <;> simp [e]
@[simp] theorem State.charge_plans (s : State) (a : Account) (n : Nat) (sched : List Port) :
    (s.charge a n sched).plans = s.plans := by
  rcases s.charge_cases a n sched with ⟨_, e⟩ | ⟨_, _, e⟩ | ⟨_, ⟨e, _⟩ | e⟩ <;> simp [e]
@[simp] theorem State.charge_win (s : State) (a : Account) (n : Nat) (sched : List Port) :
    (s.charge a n sched).win = s.win := by
  rcases s.charge_cases a n sched with ⟨_, e⟩ | ⟨_, _, e⟩ | ⟨_, ⟨e, _⟩ | e⟩ <;> simp [e]
@[simp] theorem State.charge_pending (s : State) (a : Account) (n : Nat) (sched : List Port) :
    (s.charge a n sched).pending = s.pending := by
  rcases s.charge_cases a n sched with ⟨_, e⟩ | ⟨_, _, e⟩ | ⟨_, ⟨e, _⟩ | e⟩ <;> simp [e]

/-- A port after a charge: as before, or, where the charge cut the account off, with the cut-off taken. -/
theorem State.charge_ports (s : State) (a : Account) (n : Nat) (sched : List Port) :
    (∀ p, (s.charge a n sched).ports.get p = s.ports.get p) ∨
    ((s.conduct.recs.get a).score < 256 ∧ 256 ≤ (s.conduct.recs.get a).score + n ∧
      ∀ p, (s.charge a n sched).ports.get p = (s.ports.get p).cutOff a) := by
  rcases s.charge_cases a n sched with ⟨_, e⟩ | ⟨h1, h2, e⟩ | ⟨_, ⟨e, _⟩ | e⟩
  · left; simp [e]
  · right; exact ⟨h1, h2, by simp [e]⟩
  · left; simp [e]
  · left; simp [e]

@[simp] theorem State.charge_ports_mode (s : State) (a : Account) (n : Nat) (sched : List Port) (p : Port) :
    ((s.charge a n sched).ports.get p).mode = (s.ports.get p).mode := by
  rcases s.charge_ports a n sched with h | ⟨_, _, h⟩ <;> simp [h]
@[simp] theorem State.charge_ports_openEpoch (s : State) (a : Account) (n : Nat) (sched : List Port) (p : Port) :
    ((s.charge a n sched).ports.get p).openEpoch = (s.ports.get p).openEpoch := by
  rcases s.charge_ports a n sched with h | ⟨_, _, h⟩ <;> simp [h]
@[simp] theorem State.charge_ports_tagCounter (s : State) (a : Account) (n : Nat) (sched : List Port) (p : Port) :
    ((s.charge a n sched).ports.get p).tagCounter = (s.ports.get p).tagCounter := by
  rcases s.charge_ports a n sched with h | ⟨_, _, h⟩ <;> simp [h]
@[simp] theorem State.charge_ports_urgentPtr (s : State) (a : Account) (n : Nat) (sched : List Port) (p : Port) :
    ((s.charge a n sched).ports.get p).urgentPtr = (s.ports.get p).urgentPtr := by
  rcases s.charge_ports a n sched with h | ⟨_, _, h⟩ <;> simp [h]
@[simp] theorem State.charge_ports_bulkPtr (s : State) (a : Account) (n : Nat) (sched : List Port) (p : Port) :
    ((s.charge a n sched).ports.get p).bulkPtr = (s.ports.get p).bulkPtr := by
  rcases s.charge_ports a n sched with h | ⟨_, _, h⟩ <;> simp [h]
@[simp] theorem State.charge_ports_counts (s : State) (a : Account) (n : Nat) (sched : List Port) (p : Port) :
    ((s.charge a n sched).ports.get p).counts = (s.ports.get p).counts := by
  rcases s.charge_ports a n sched with h | ⟨_, _, h⟩ <;> simp [h]
@[simp] theorem State.charge_ports_capacity (s : State) (a : Account) (n : Nat) (sched : List Port) (p : Port) :
    ((s.charge a n sched).ports.get p).capacity = (s.ports.get p).capacity := by
  rcases s.charge_ports a n sched with h | ⟨_, _, h⟩ <;> simp [h]
@[simp] theorem State.charge_ports_served (s : State) (a : Account) (n : Nat) (sched : List Port) (p : Port) :
    ((s.charge a n sched).ports.get p).served = (s.ports.get p).served := by
  rcases s.charge_ports a n sched with h | ⟨_, _, h⟩ <;> simp [h]
@[simp] theorem State.charge_ports_totals (s : State) (a : Account) (n : Nat) (sched : List Port) (p : Port) :
    ((s.charge a n sched).ports.get p).totals = (s.ports.get p).totals := by
  rcases s.charge_ports a n sched with h | ⟨_, _, h⟩ <;> simp [h]
@[simp] theorem State.charge_ports_filter (s : State) (a : Account) (n : Nat) (sched : List Port) (p : Port) :
    ((s.charge a n sched).ports.get p).filter = (s.ports.get p).filter := by
  rcases s.charge_ports a n sched with h | ⟨_, _, h⟩ <;> simp [h]
@[simp] theorem State.charge_ports_refused (s : State) (a : Account) (n : Nat) (sched : List Port) (p : Port) :
    ((s.charge a n sched).ports.get p).refused = (s.ports.get p).refused := by
  rcases s.charge_ports a n sched with h | ⟨_, _, h⟩ <;> simp [h]
@[simp] theorem State.charge_ports_values (s : State) (a : Account) (n : Nat) (sched : List Port) (p : Port) :
    ((s.charge a n sched).ports.get p).values = (s.ports.get p).values := by
  rcases s.charge_ports a n sched with h | ⟨_, _, h⟩ <;> simp [h]
@[simp] theorem State.charge_ports_deferred (s : State) (a : Account) (n : Nat) (sched : List Port) (p : Port) :
    ((s.charge a n sched).ports.get p).deferred = (s.ports.get p).deferred := by
  rcases s.charge_ports a n sched with h | ⟨_, _, h⟩ <;> simp [h]
@[simp] theorem State.charge_ports_closeOwed (s : State) (a : Account) (n : Nat) (sched : List Port) (p : Port) :
    ((s.charge a n sched).ports.get p).closeOwed = (s.ports.get p).closeOwed := by
  rcases s.charge_ports a n sched with h | ⟨_, _, h⟩ <;> simp [h]
@[simp] theorem State.charge_ports_changeOwed (s : State) (a : Account) (n : Nat) (sched : List Port) (p : Port) :
    ((s.charge a n sched).ports.get p).changeOwed = (s.ports.get p).changeOwed := by
  rcases s.charge_ports a n sched with h | ⟨_, _, h⟩ <;> simp [h]
@[simp] theorem State.charge_ports_allocDue (s : State) (a : Account) (n : Nat) (sched : List Port) (p : Port) :
    ((s.charge a n sched).ports.get p).allocDue = (s.ports.get p).allocDue := by
  rcases s.charge_ports a n sched with h | ⟨_, _, h⟩ <;> simp [h]

/-- A port's tags after a charge. -/
theorem State.charge_tags (s : State) (a : Account) (n : Nat) (sched : List Port) (p : Port) :
    ((s.charge a n sched).ports.get p).table.map Entry.tag = (s.ports.get p).table.map Entry.tag := by
  rcases s.charge_ports a n sched with h | ⟨_, _, h⟩
  · rw [h]
  · rw [h, PortBlock.cutOff_tags]

/-- The records after a charge: the charged account's score saturates at 256, the others are unchanged. -/
theorem State.charge_recs (s : State) (a b : Account) (n : Nat) (sched : List Port)
    (h : (s.conduct.recs.get a).score ≤ 256) :
    ((s.charge a n sched).conduct.recs.get b).score =
      if a = b then min 256 ((s.conduct.recs.get b).score + n) else (s.conduct.recs.get b).score := by
  rcases s.charge_cases a n sched with ⟨_, e⟩ | ⟨_, _, e⟩ | ⟨_, ⟨e, _⟩ | e⟩
  all_goals
    simp only [e, State.enterCutOff_conduct, State.post_conduct, State.modConduct_recs_get]
    split
    · subst b; simp [ConductRec.cutOff, Config.cutOffScore]; omega
    · rfl

theorem State.charge_notices_length (s : State) (a : Account) (n : Nat) (sched : List Port)
    (h : s.mem.notices.length ≤ 32) : (s.charge a n sched).mem.notices.length ≤ 32 := by
  rcases s.charge_cases a n sched with ⟨_, e⟩ | ⟨_, _, e⟩ | ⟨_, ⟨e, _⟩ | e⟩
  · rw [e]; simpa using h
  · rw [e, State.enterCutOff_mem]; exact State.post_notices_length _ _ (by simpa using h)
  · rw [e]; simpa using h
  · rw [e]; exact State.post_notices_length _ _ (by simpa using h)

theorem State.charge_output_length (s : State) (a : Account) (n : Nat) (sched : List Port)
    (h : s.link.output.length ≤ 64) : (s.charge a n sched).link.output.length ≤ 64 := by
  rcases s.charge_cases a n sched with ⟨_, e⟩ | ⟨_, _, e⟩ | ⟨_, ⟨e, _⟩ | e⟩
  · rw [e]; simpa using h
  · rw [e]; exact State.enterCutOff_output_length _ _ _ (by simpa using h)
  · rw [e]; simpa using h
  · rw [e]; simpa using h

/-! ### Leaving CUT_OFF (R104 to R106) -/

@[simp] theorem State.beginAnew_link (s : State) (left : Account → Bool) : (s.beginAnew left).link = s.link := rfl
@[simp] theorem State.beginAnew_conduct (s : State) (left : Account → Bool) : (s.beginAnew left).conduct = s.conduct := rfl
@[simp] theorem State.beginAnew_scan (s : State) (left : Account → Bool) : (s.beginAnew left).scan = s.scan := rfl
@[simp] theorem State.beginAnew_timer (s : State) (left : Account → Bool) : (s.beginAnew left).timer = s.timer := rfl
@[simp] theorem State.beginAnew_plans (s : State) (left : Account → Bool) : (s.beginAnew left).plans = s.plans := rfl
@[simp] theorem State.beginAnew_mem (s : State) (left : Account → Bool) : (s.beginAnew left).mem = s.mem := rfl
@[simp] theorem State.beginAnew_win (s : State) (left : Account → Bool) : (s.beginAnew left).win = s.win := rfl
@[simp] theorem State.beginAnew_pending (s : State) (left : Account → Bool) : (s.beginAnew left).pending = s.pending := rfl

/-- A port after accounts have left CUT_OFF: their cells' starved counts and reported flags clear, all else kept (R106). -/
@[simp] theorem State.beginAnew_ports_get (s : State) (left : Account → Bool) (p : Port) :
    (s.beginAnew left).ports.get p =
      { s.ports.get p with
        cells := (s.ports.get p).cells.mapIdx fun a c => if left a then c.unstarved else c } := by
  simp [State.beginAnew]

@[simp] theorem Cell.unstarved_allowance (c : Cell) : c.unstarved.allowance = c.allowance := rfl
@[simp] theorem Cell.unstarved_issued (c : Cell) : c.unstarved.issued = c.issued := rfl
@[simp] theorem Cell.unstarved_credit (c : Cell) : c.unstarved.credit = c.credit := rfl
@[simp] theorem Cell.unstarved_claim (c : Cell) : c.unstarved.claim = c.claim := rfl
@[simp] theorem Cell.unstarved_epochFloor (c : Cell) : c.unstarved.epochFloor = c.epochFloor := rfl
@[simp] theorem Cell.unstarved_demand (c : Cell) : c.unstarved.demand = c.demand := rfl
@[simp] theorem Cell.unstarved_ramp (c : Cell) : c.unstarved.ramp = c.ramp := rfl
@[simp] theorem Cell.unstarved_cumAllocated (c : Cell) : c.unstarved.cumAllocated = c.cumAllocated := rfl
@[simp] theorem Cell.unstarved_cumIssued (c : Cell) : c.unstarved.cumIssued = c.cumIssued := rfl
@[simp] theorem Cell.unstarved_cumUsed (c : Cell) : c.unstarved.cumUsed = c.cumUsed := rfl
@[simp] theorem Cell.unstarved_cumOverrun (c : Cell) : c.unstarved.cumOverrun = c.cumOverrun := rfl
@[simp] theorem Cell.unstarved_cumExpiries (c : Cell) : c.unstarved.cumExpiries = c.cumExpiries := rfl
@[simp] theorem Cell.unstarved_lastFloor (c : Cell) : c.unstarved.lastFloor = c.lastFloor := rfl
@[simp] theorem Cell.unstarved_lastNet (c : Cell) : c.unstarved.lastNet = c.lastNet := rfl

end Sys2Proof.Machine
end

