-- ==== Sys2Proof/Laws/Standby.lean ====
section
/-! SUPPORT. What entry to STANDBY and to DRAINING can do, and what they leave unchanged (R42, R43). -/

namespace Sys2Proof.Machine

set_option Elab.async false

/-! ### The port itself -/

@[simp] theorem PortBlock.rest_openEpoch (b : PortBlock) : b.rest.openEpoch = b.openEpoch := rfl
@[simp] theorem PortBlock.rest_table (b : PortBlock) : b.rest.table = b.table := rfl
@[simp] theorem PortBlock.rest_tagCounter (b : PortBlock) : b.rest.tagCounter = b.tagCounter := rfl
@[simp] theorem PortBlock.rest_urgentPtr (b : PortBlock) : b.rest.urgentPtr = b.urgentPtr := rfl
@[simp] theorem PortBlock.rest_bulkPtr (b : PortBlock) : b.rest.bulkPtr = b.bulkPtr := rfl
@[simp] theorem PortBlock.rest_counts (b : PortBlock) : b.rest.counts = b.counts := rfl
@[simp] theorem PortBlock.rest_capacity (b : PortBlock) : b.rest.capacity = b.capacity := rfl
@[simp] theorem PortBlock.rest_served (b : PortBlock) : b.rest.served = b.served := rfl
@[simp] theorem PortBlock.rest_totals (b : PortBlock) : b.rest.totals = b.totals := rfl
@[simp] theorem PortBlock.rest_inFlight (b : PortBlock) : b.rest.inFlight = b.inFlight := rfl
@[simp] theorem PortBlock.rest_refused (b : PortBlock) : b.rest.refused = b.refused := rfl
@[simp] theorem PortBlock.rest_values (b : PortBlock) : b.rest.values = b.values := rfl
@[simp] theorem PortBlock.rest_deferred (b : PortBlock) : b.rest.deferred = b.deferred := rfl
@[simp] theorem PortBlock.rest_closeOwed (b : PortBlock) : b.rest.closeOwed = b.closeOwed := rfl
@[simp] theorem PortBlock.rest_changeOwed (b : PortBlock) : b.rest.changeOwed = b.changeOwed := rfl
@[simp] theorem PortBlock.rest_allocDue (b : PortBlock) : b.rest.allocDue = b.allocDue := rfl
@[simp] theorem PortBlock.rest_mode (b : PortBlock) : b.rest.mode = .standby := rfl

@[simp] theorem PortBlock.rest_list (b : PortBlock) (l : Lane) (a : Account) : b.rest.list l a = [] := by
  cases l <;> simp [PortBlock.rest, PortBlock.emptyLists, PortBlock.list]

@[simp] theorem PortBlock.rest_cell (b : PortBlock) (a : Account) :
    b.rest.cells.get a = (b.cells.get a).settle.unstarved := by simp [PortBlock.rest]

@[simp] theorem PortBlock.rest_queue (b : PortBlock) (q : QueueId) :
    b.rest.queues.get q = (b.queues.get q).cleared := by simp [PortBlock.rest]

@[simp] theorem PortBlock.afterReport_mode (b : PortBlock) : b.afterReport.mode = b.mode := rfl
@[simp] theorem PortBlock.afterReport_openEpoch (b : PortBlock) : b.afterReport.openEpoch = b.openEpoch := rfl
@[simp] theorem PortBlock.afterReport_table (b : PortBlock) : b.afterReport.table = b.table := rfl
@[simp] theorem PortBlock.afterReport_tagCounter (b : PortBlock) : b.afterReport.tagCounter = b.tagCounter := rfl
@[simp] theorem PortBlock.afterReport_urgentLists (b : PortBlock) : b.afterReport.urgentLists = b.urgentLists := rfl
@[simp] theorem PortBlock.afterReport_bulkLists (b : PortBlock) : b.afterReport.bulkLists = b.bulkLists := rfl
@[simp] theorem PortBlock.afterReport_urgentPtr (b : PortBlock) : b.afterReport.urgentPtr = b.urgentPtr := rfl
@[simp] theorem PortBlock.afterReport_bulkPtr (b : PortBlock) : b.afterReport.bulkPtr = b.bulkPtr := rfl
@[simp] theorem PortBlock.afterReport_cells (b : PortBlock) : b.afterReport.cells = b.cells := rfl
@[simp] theorem PortBlock.afterReport_capacity (b : PortBlock) : b.afterReport.capacity = b.capacity := rfl
@[simp] theorem PortBlock.afterReport_filter (b : PortBlock) : b.afterReport.filter = b.filter := rfl
@[simp] theorem PortBlock.afterReport_inFlight (b : PortBlock) : b.afterReport.inFlight = b.inFlight := rfl
@[simp] theorem PortBlock.afterReport_queues (b : PortBlock) : b.afterReport.queues = b.queues := rfl
@[simp] theorem PortBlock.afterReport_values (b : PortBlock) : b.afterReport.values = b.values := rfl
@[simp] theorem PortBlock.afterReport_deferred (b : PortBlock) : b.afterReport.deferred = b.deferred := rfl
@[simp] theorem PortBlock.afterReport_closeOwed (b : PortBlock) : b.afterReport.closeOwed = b.closeOwed := rfl
@[simp] theorem PortBlock.afterReport_changeOwed (b : PortBlock) : b.afterReport.changeOwed = b.changeOwed := rfl
@[simp] theorem PortBlock.afterReport_allocDue (b : PortBlock) : b.afterReport.allocDue = b.allocDue := rfl
@[simp] theorem PortBlock.takeDeferred_mode (b : PortBlock) : b.takeDeferred.mode = b.mode := by
  unfold PortBlock.takeDeferred; split <;> rfl
@[simp] theorem PortBlock.takeDeferred_openEpoch (b : PortBlock) : b.takeDeferred.openEpoch = b.openEpoch := by
  unfold PortBlock.takeDeferred; split <;> rfl
@[simp] theorem PortBlock.takeDeferred_table (b : PortBlock) : b.takeDeferred.table = b.table := by
  unfold PortBlock.takeDeferred; split <;> rfl
@[simp] theorem PortBlock.takeDeferred_tagCounter (b : PortBlock) : b.takeDeferred.tagCounter = b.tagCounter := by
  unfold PortBlock.takeDeferred; split <;> rfl
@[simp] theorem PortBlock.takeDeferred_urgentLists (b : PortBlock) : b.takeDeferred.urgentLists = b.urgentLists := by
  unfold PortBlock.takeDeferred; split <;> rfl
@[simp] theorem PortBlock.takeDeferred_bulkLists (b : PortBlock) : b.takeDeferred.bulkLists = b.bulkLists := by
  unfold PortBlock.takeDeferred; split <;> rfl
@[simp] theorem PortBlock.takeDeferred_urgentPtr (b : PortBlock) : b.takeDeferred.urgentPtr = b.urgentPtr := by
  unfold PortBlock.takeDeferred; split <;> rfl
@[simp] theorem PortBlock.takeDeferred_bulkPtr (b : PortBlock) : b.takeDeferred.bulkPtr = b.bulkPtr := by
  unfold PortBlock.takeDeferred; split <;> rfl
@[simp] theorem PortBlock.takeDeferred_counts (b : PortBlock) : b.takeDeferred.counts = b.counts := by
  unfold PortBlock.takeDeferred; split <;> rfl
@[simp] theorem PortBlock.takeDeferred_cells (b : PortBlock) : b.takeDeferred.cells = b.cells := by
  unfold PortBlock.takeDeferred; split <;> rfl
@[simp] theorem PortBlock.takeDeferred_capacity (b : PortBlock) : b.takeDeferred.capacity = b.capacity := by
  unfold PortBlock.takeDeferred; split <;> rfl
@[simp] theorem PortBlock.takeDeferred_served (b : PortBlock) : b.takeDeferred.served = b.served := by
  unfold PortBlock.takeDeferred; split <;> rfl
@[simp] theorem PortBlock.takeDeferred_totals (b : PortBlock) : b.takeDeferred.totals = b.totals := by
  unfold PortBlock.takeDeferred; split <;> rfl
@[simp] theorem PortBlock.takeDeferred_filter (b : PortBlock) : b.takeDeferred.filter = b.filter := by
  unfold PortBlock.takeDeferred; split <;> rfl
@[simp] theorem PortBlock.takeDeferred_inFlight (b : PortBlock) : b.takeDeferred.inFlight = b.inFlight := by
  unfold PortBlock.takeDeferred; split <;> rfl
@[simp] theorem PortBlock.takeDeferred_queues (b : PortBlock) : b.takeDeferred.queues = b.queues := by
  unfold PortBlock.takeDeferred; split <;> rfl
@[simp] theorem PortBlock.takeDeferred_refused (b : PortBlock) : b.takeDeferred.refused = b.refused := by
  unfold PortBlock.takeDeferred; split <;> rfl
@[simp] theorem PortBlock.takeDeferred_closeOwed (b : PortBlock) : b.takeDeferred.closeOwed = b.closeOwed := by
  unfold PortBlock.takeDeferred; split <;> rfl
@[simp] theorem PortBlock.takeDeferred_changeOwed (b : PortBlock) : b.takeDeferred.changeOwed = b.changeOwed := by
  unfold PortBlock.takeDeferred; split <;> rfl
@[simp] theorem PortBlock.takeDeferred_allocDue (b : PortBlock) : b.takeDeferred.allocDue = b.allocDue := by
  unfold PortBlock.takeDeferred; split <;> rfl

@[simp] theorem PortBlock.takeDeferred_list (b : PortBlock) (l : Lane) (a : Account) :
    b.takeDeferred.list l a = b.list l a := by cases l <;> simp [PortBlock.list]

@[simp] theorem PortBlock.afterReport_list (b : PortBlock) (l : Lane) (a : Account) :
    b.afterReport.list l a = b.list l a := by cases l <;> rfl

/-! ### The part's deferred slot (R140) -/

/-- All that the part's slot can do when a port enters STANDBY. -/
theorem State.takePartDeferred_cases (s : State) :
    s.takePartDeferred = s ∨
    ∃ d, s.plans.partDeferred = some d ∧ s.allStandby = true ∧
      s.takePartDeferred =
        ({ s with
            timer := s.timer.handOver d.timing
            plans := { s.plans with partDeferred := none } }).post (.deferredApplied d.gen s.timer.epoch none) := by
  unfold State.takePartDeferred
  split
  · exact .inl rfl
  · split
    · exact .inr ⟨_, ‹_›, ‹_›, rfl⟩
    · exact .inl rfl

@[simp] theorem State.takePartDeferred_link (s : State) : s.takePartDeferred.link = s.link := by
  rcases s.takePartDeferred_cases with e | ⟨_, _, _, e⟩ <;> simp [e]
@[simp] theorem State.takePartDeferred_ports (s : State) : s.takePartDeferred.ports = s.ports := by
  rcases s.takePartDeferred_cases with e | ⟨_, _, _, e⟩ <;> simp [e]
@[simp] theorem State.takePartDeferred_conduct (s : State) : s.takePartDeferred.conduct = s.conduct := by
  rcases s.takePartDeferred_cases with e | ⟨_, _, _, e⟩ <;> simp [e]
@[simp] theorem State.takePartDeferred_scan (s : State) : s.takePartDeferred.scan = s.scan := by
  rcases s.takePartDeferred_cases with e | ⟨_, _, _, e⟩ <;> simp [e]
@[simp] theorem State.takePartDeferred_win (s : State) : s.takePartDeferred.win = s.win := by
  rcases s.takePartDeferred_cases with e | ⟨_, _, _, e⟩ <;> simp [e]
@[simp] theorem State.takePartDeferred_pending (s : State) : s.takePartDeferred.pending = s.pending := by
  rcases s.takePartDeferred_cases with e | ⟨_, _, _, e⟩ <;> simp [e]
@[simp] theorem State.takePartDeferred_timer_running (s : State) :
    s.takePartDeferred.timer.running = s.timer.running := by
  rcases s.takePartDeferred_cases with e | ⟨_, _, _, e⟩ <;> simp [e, Timer.handOver]
@[simp] theorem State.takePartDeferred_timer_epoch (s : State) :
    s.takePartDeferred.timer.epoch = s.timer.epoch := by
  rcases s.takePartDeferred_cases with e | ⟨_, _, _, e⟩ <;> simp [e, Timer.handOver]
@[simp] theorem State.takePartDeferred_timer_last (s : State) :
    s.takePartDeferred.timer.last = s.timer.last := by
  rcases s.takePartDeferred_cases with e | ⟨_, _, _, e⟩ <;> simp [e, Timer.handOver]
@[simp] theorem State.takePartDeferred_timer_due (s : State) :
    s.takePartDeferred.timer.due = s.timer.due := by
  rcases s.takePartDeferred_cases with e | ⟨_, _, _, e⟩ <;> simp [e, Timer.handOver]
@[simp] theorem State.takePartDeferred_timer_started (s : State) :
    s.takePartDeferred.timer.started = s.timer.started := by
  rcases s.takePartDeferred_cases with e | ⟨_, _, _, e⟩ <;> simp [e, Timer.handOver]
@[simp] theorem State.takePartDeferred_timer_timing (s : State) :
    s.takePartDeferred.timer.timing = s.timer.timing := by
  rcases s.takePartDeferred_cases with e | ⟨_, _, _, e⟩ <;> simp [e, Timer.handOver]
@[simp] theorem State.takePartDeferred_timer_sync (s : State) :
    s.takePartDeferred.timer.sync = s.timer.sync := by
  rcases s.takePartDeferred_cases with e | ⟨_, _, _, e⟩ <;> simp [e, Timer.handOver]
@[simp] theorem State.takePartDeferred_timer_driving (s : State) :
    s.takePartDeferred.timer.driving = s.timer.driving := by
  rcases s.takePartDeferred_cases with e | ⟨_, _, _, e⟩ <;> simp [e, Timer.handOver]
@[simp] theorem State.takePartDeferred_plans_inForce (s : State) :
    s.takePartDeferred.plans.inForce = s.plans.inForce := by
  rcases s.takePartDeferred_cases with e | ⟨_, _, _, e⟩ <;> simp [e]
@[simp] theorem State.takePartDeferred_plans_appliedEpoch (s : State) :
    s.takePartDeferred.plans.appliedEpoch = s.plans.appliedEpoch := by
  rcases s.takePartDeferred_cases with e | ⟨_, _, _, e⟩ <;> simp [e]
@[simp] theorem State.takePartDeferred_plans_staged (s : State) :
    s.takePartDeferred.plans.staged = s.plans.staged := by
  rcases s.takePartDeferred_cases with e | ⟨_, _, _, e⟩ <;> simp [e]
@[simp] theorem State.takePartDeferred_plans_wanted (s : State) :
    s.takePartDeferred.plans.wanted = s.plans.wanted := by
  rcases s.takePartDeferred_cases with e | ⟨_, _, _, e⟩ <;> simp [e]
@[simp] theorem State.takePartDeferred_plans_fetch (s : State) :
    s.takePartDeferred.plans.fetch = s.plans.fetch := by
  rcases s.takePartDeferred_cases with e | ⟨_, _, _, e⟩ <;> simp [e]
@[simp] theorem State.takePartDeferred_plans_fetched (s : State) :
    s.takePartDeferred.plans.fetched = s.plans.fetched := by
  rcases s.takePartDeferred_cases with e | ⟨_, _, _, e⟩ <;> simp [e]
@[simp] theorem State.takePartDeferred_plans_refused (s : State) :
    s.takePartDeferred.plans.refused = s.plans.refused := by
  rcases s.takePartDeferred_cases with e | ⟨_, _, _, e⟩ <;> simp [e]
@[simp] theorem State.takePartDeferred_plans_hold (s : State) :
    s.takePartDeferred.plans.hold = s.plans.hold := by
  rcases s.takePartDeferred_cases with e | ⟨_, _, _, e⟩ <;> simp [e]
@[simp] theorem State.takePartDeferred_plans_owed (s : State) :
    s.takePartDeferred.plans.owed = s.plans.owed := by
  rcases s.takePartDeferred_cases with e | ⟨_, _, _, e⟩ <;> simp [e]
@[simp] theorem State.takePartDeferred_mem_mode (s : State) : s.takePartDeferred.mem.mode = s.mem.mode := by
  rcases s.takePartDeferred_cases with e | ⟨_, _, _, e⟩ <;> simp [e]
@[simp] theorem State.takePartDeferred_mem_region (s : State) : s.takePartDeferred.mem.region = s.mem.region := by
  rcases s.takePartDeferred_cases with e | ⟨_, _, _, e⟩ <;> simp [e]
@[simp] theorem State.takePartDeferred_mem_journalBase (s : State) : s.takePartDeferred.mem.journalBase = s.mem.journalBase := by
  rcases s.takePartDeferred_cases with e | ⟨_, _, _, e⟩ <;> simp [e]
@[simp] theorem State.takePartDeferred_mem_capacity (s : State) : s.takePartDeferred.mem.capacity = s.mem.capacity := by
  rcases s.takePartDeferred_cases with e | ⟨_, _, _, e⟩ <;> simp [e]
@[simp] theorem State.takePartDeferred_mem_usageBase (s : State) : s.takePartDeferred.mem.usageBase = s.mem.usageBase := by
  rcases s.takePartDeferred_cases with e | ⟨_, _, _, e⟩ <;> simp [e]
@[simp] theorem State.takePartDeferred_mem_signalAddr (s : State) : s.takePartDeferred.mem.signalAddr = s.mem.signalAddr := by
  rcases s.takePartDeferred_cases with e | ⟨_, _, _, e⟩ <;> simp [e]
@[simp] theorem State.takePartDeferred_mem_signalValue (s : State) : s.takePartDeferred.mem.signalValue = s.mem.signalValue := by
  rcases s.takePartDeferred_cases with e | ⟨_, _, _, e⟩ <;> simp [e]
@[simp] theorem State.takePartDeferred_mem_signalMask (s : State) : s.takePartDeferred.mem.signalMask = s.mem.signalMask := by
  rcases s.takePartDeferred_cases with e | ⟨_, _, _, e⟩ <;> simp [e]
@[simp] theorem State.takePartDeferred_mem_produced (s : State) : s.takePartDeferred.mem.produced = s.mem.produced := by
  rcases s.takePartDeferred_cases with e | ⟨_, _, _, e⟩ <;> simp [e]
@[simp] theorem State.takePartDeferred_mem_consumed (s : State) : s.takePartDeferred.mem.consumed = s.mem.consumed := by
  rcases s.takePartDeferred_cases with e | ⟨_, _, _, e⟩ <;> simp [e]
@[simp] theorem State.takePartDeferred_mem_slots (s : State) : s.takePartDeferred.mem.slots = s.mem.slots := by
  rcases s.takePartDeferred_cases with e | ⟨_, _, _, e⟩ <;> simp [e]
@[simp] theorem State.takePartDeferred_mem_armed (s : State) : s.takePartDeferred.mem.armed = s.mem.armed := by
  rcases s.takePartDeferred_cases with e | ⟨_, _, _, e⟩ <;> simp [e]
@[simp] theorem State.takePartDeferred_mem_noted (s : State) : s.takePartDeferred.mem.noted = s.mem.noted := by
  rcases s.takePartDeferred_cases with e | ⟨_, _, _, e⟩ <;> simp [e]
@[simp] theorem State.takePartDeferred_mem_rewrite (s : State) : s.takePartDeferred.mem.rewrite = s.mem.rewrite := by
  rcases s.takePartDeferred_cases with e | ⟨_, _, _, e⟩ <;> simp [e]
@[simp] theorem State.takePartDeferred_mem_signalDue (s : State) : s.takePartDeferred.mem.signalDue = s.mem.signalDue := by
  rcases s.takePartDeferred_cases with e | ⟨_, _, _, e⟩ <;> simp [e]
@[simp] theorem State.takePartDeferred_mem_stmtCount (s : State) : s.takePartDeferred.mem.stmtCount = s.mem.stmtCount := by
  rcases s.takePartDeferred_cases with e | ⟨_, _, _, e⟩ <;> simp [e]
@[simp] theorem State.takePartDeferred_mem_stmtNumber (s : State) : s.takePartDeferred.mem.stmtNumber = s.mem.stmtNumber := by
  rcases s.takePartDeferred_cases with e | ⟨_, _, _, e⟩ <;> simp [e]
@[simp] theorem State.takePartDeferred_mem_stmtOwed (s : State) : s.takePartDeferred.mem.stmtOwed = s.mem.stmtOwed := by
  rcases s.takePartDeferred_cases with e | ⟨_, _, _, e⟩ <;> simp [e]
@[simp] theorem State.takePartDeferred_mem_statement (s : State) : s.takePartDeferred.mem.statement = s.mem.statement := by
  rcases s.takePartDeferred_cases with e | ⟨_, _, _, e⟩ <;> simp [e]
@[simp] theorem State.takePartDeferred_mem_read (s : State) : s.takePartDeferred.mem.read = s.mem.read := by
  rcases s.takePartDeferred_cases with e | ⟨_, _, _, e⟩ <;> simp [e]
@[simp] theorem State.takePartDeferred_mem_abandoned (s : State) : s.takePartDeferred.mem.abandoned = s.mem.abandoned := by
  rcases s.takePartDeferred_cases with e | ⟨_, _, _, e⟩ <;> simp [e]
@[simp] theorem State.takePartDeferred_mem_pass (s : State) : s.takePartDeferred.mem.pass = s.mem.pass := by
  rcases s.takePartDeferred_cases with e | ⟨_, _, _, e⟩ <;> simp [e]
@[simp] theorem State.takePartDeferred_mem_passQueue (s : State) : s.takePartDeferred.mem.passQueue = s.mem.passQueue := by
  rcases s.takePartDeferred_cases with e | ⟨_, _, _, e⟩ <;> simp [e]
@[simp] theorem State.takePartDeferred_mem_journalWrite (s : State) : s.takePartDeferred.mem.journalWrite = s.mem.journalWrite := by
  rcases s.takePartDeferred_cases with e | ⟨_, _, _, e⟩ <;> simp [e]
@[simp] theorem State.takePartDeferred_mem_partHalf (s : State) : s.takePartDeferred.mem.partHalf = s.mem.partHalf := by
  rcases s.takePartDeferred_cases with e | ⟨_, _, _, e⟩ <;> simp [e]
@[simp] theorem State.takePartDeferred_mem_writesOwed (s : State) : s.takePartDeferred.mem.writesOwed = s.mem.writesOwed := by
  rcases s.takePartDeferred_cases with e | ⟨_, _, _, e⟩ <;> simp [e]
@[simp] theorem State.takePartDeferred_mem_signalWrites (s : State) : s.takePartDeferred.mem.signalWrites = s.mem.signalWrites := by
  rcases s.takePartDeferred_cases with e | ⟨_, _, _, e⟩ <;> simp [e]

theorem State.takePartDeferred_notices_length (s : State) (h : s.mem.notices.length ≤ 32) :
    s.takePartDeferred.mem.notices.length ≤ 32 := by
  rcases s.takePartDeferred_cases with e | ⟨_, _, _, e⟩
  · rw [e]; exact h
  · rw [e]; exact State.post_notices_length _ _ h

/-! ### Entry to STANDBY (R43) -/

@[simp] theorem State.enterStandby_link (s : State) (p : Port) : (s.enterStandby p).link = s.link := by simp [State.enterStandby]
@[simp] theorem State.enterStandby_conduct (s : State) (p : Port) : (s.enterStandby p).conduct = s.conduct := by simp [State.enterStandby]
@[simp] theorem State.enterStandby_pending (s : State) (p : Port) : (s.enterStandby p).pending = s.pending := by simp [State.enterStandby]

/-- The state in which a port has entered STANDBY, before the check for parking. -/
def State.standbyEntered (s : State) (p : Port) : State :=
  let b := s.ports.get p
  ((((s.modPort p fun _ => b.rest.afterReport.takeDeferred).handOver (formReport p b b.rest)).post
    (.portState p b.mode .standby s.timer.epoch)).postAll (b.deferredNotices p s.timer.epoch)).takePartDeferred

theorem State.enterStandby_eq (s : State) (p : Port) : s.enterStandby p = (s.standbyEntered p).parkIfDone := rfl

@[simp] theorem State.standbyEntered_ports (s : State) (p : Port) :
    (s.standbyEntered p).ports = (s.modPort p fun b => b.rest.afterReport.takeDeferred).ports := by
  simp [State.standbyEntered, State.modPort, Tab.modify]

/-- A port after one has entered STANDBY, in every field but the boundaries owed: the entering port has cleared its queues
and settled, the others are unchanged. -/
theorem State.enterStandby_ports_mode (s : State) (p q : Port) :
    ((s.enterStandby p).ports.get q).mode =
      if p = q then ((s.ports.get q).rest.afterReport.takeDeferred).mode else (s.ports.get q).mode := by
  rw [State.enterStandby_eq, State.parkIfDone_ports_mode, State.standbyEntered_ports, State.modPort_ports_get]
  split <;> rfl
theorem State.enterStandby_ports_openEpoch (s : State) (p q : Port) :
    ((s.enterStandby p).ports.get q).openEpoch =
      if p = q then ((s.ports.get q).rest.afterReport.takeDeferred).openEpoch else (s.ports.get q).openEpoch := by
  rw [State.enterStandby_eq, State.parkIfDone_ports_openEpoch, State.standbyEntered_ports, State.modPort_ports_get]
  split <;> rfl
theorem State.enterStandby_ports_table (s : State) (p q : Port) :
    ((s.enterStandby p).ports.get q).table =
      if p = q then ((s.ports.get q).rest.afterReport.takeDeferred).table else (s.ports.get q).table := by
  rw [State.enterStandby_eq, State.parkIfDone_ports_table, State.standbyEntered_ports, State.modPort_ports_get]
  split <;> rfl
theorem State.enterStandby_ports_tagCounter (s : State) (p q : Port) :
    ((s.enterStandby p).ports.get q).tagCounter =
      if p = q then ((s.ports.get q).rest.afterReport.takeDeferred).tagCounter else (s.ports.get q).tagCounter := by
  rw [State.enterStandby_eq, State.parkIfDone_ports_tagCounter, State.standbyEntered_ports, State.modPort_ports_get]
  split <;> rfl
theorem State.enterStandby_ports_urgentLists (s : State) (p q : Port) :
    ((s.enterStandby p).ports.get q).urgentLists =
      if p = q then ((s.ports.get q).rest.afterReport.takeDeferred).urgentLists else (s.ports.get q).urgentLists := by
  rw [State.enterStandby_eq, State.parkIfDone_ports_urgentLists, State.standbyEntered_ports, State.modPort_ports_get]
  split <;> rfl
theorem State.enterStandby_ports_bulkLists (s : State) (p q : Port) :
    ((s.enterStandby p).ports.get q).bulkLists =
      if p = q then ((s.ports.get q).rest.afterReport.takeDeferred).bulkLists else (s.ports.get q).bulkLists := by
  rw [State.enterStandby_eq, State.parkIfDone_ports_bulkLists, State.standbyEntered_ports, State.modPort_ports_get]
  split <;> rfl
theorem State.enterStandby_ports_urgentPtr (s : State) (p q : Port) :
    ((s.enterStandby p).ports.get q).urgentPtr =
      if p = q then ((s.ports.get q).rest.afterReport.takeDeferred).urgentPtr else (s.ports.get q).urgentPtr := by
  rw [State.enterStandby_eq, State.parkIfDone_ports_urgentPtr, State.standbyEntered_ports, State.modPort_ports_get]
  split <;> rfl
theorem State.enterStandby_ports_bulkPtr (s : State) (p q : Port) :
    ((s.enterStandby p).ports.get q).bulkPtr =
      if p = q then ((s.ports.get q).rest.afterReport.takeDeferred).bulkPtr else (s.ports.get q).bulkPtr := by
  rw [State.enterStandby_eq, State.parkIfDone_ports_bulkPtr, State.standbyEntered_ports, State.modPort_ports_get]
  split <;> rfl
theorem State.enterStandby_ports_counts (s : State) (p q : Port) :
    ((s.enterStandby p).ports.get q).counts =
      if p = q then ((s.ports.get q).rest.afterReport.takeDeferred).counts else (s.ports.get q).counts := by
  rw [State.enterStandby_eq, State.parkIfDone_ports_counts, State.standbyEntered_ports, State.modPort_ports_get]
  split <;> rfl
theorem State.enterStandby_ports_cells (s : State) (p q : Port) :
    ((s.enterStandby p).ports.get q).cells =
      if p = q then ((s.ports.get q).rest.afterReport.takeDeferred).cells else (s.ports.get q).cells := by
  rw [State.enterStandby_eq, State.parkIfDone_ports_cells, State.standbyEntered_ports, State.modPort_ports_get]
  split <;> rfl
theorem State.enterStandby_ports_capacity (s : State) (p q : Port) :
    ((s.enterStandby p).ports.get q).capacity =
      if p = q then ((s.ports.get q).rest.afterReport.takeDeferred).capacity else (s.ports.get q).capacity := by
  rw [State.enterStandby_eq, State.parkIfDone_ports_capacity, State.standbyEntered_ports, State.modPort_ports_get]
  split <;> rfl
theorem State.enterStandby_ports_served (s : State) (p q : Port) :
    ((s.enterStandby p).ports.get q).served =
      if p = q then ((s.ports.get q).rest.afterReport.takeDeferred).served else (s.ports.get q).served := by
  rw [State.enterStandby_eq, State.parkIfDone_ports_served, State.standbyEntered_ports, State.modPort_ports_get]
  split <;> rfl
theorem State.enterStandby_ports_totals (s : State) (p q : Port) :
    ((s.enterStandby p).ports.get q).totals =
      if p = q then ((s.ports.get q).rest.afterReport.takeDeferred).totals else (s.ports.get q).totals := by
  rw [State.enterStandby_eq, State.parkIfDone_ports_totals, State.standbyEntered_ports, State.modPort_ports_get]
  split <;> rfl
theorem State.enterStandby_ports_filter (s : State) (p q : Port) :
    ((s.enterStandby p).ports.get q).filter =
      if p = q then ((s.ports.get q).rest.afterReport.takeDeferred).filter else (s.ports.get q).filter := by
  rw [State.enterStandby_eq, State.parkIfDone_ports_filter, State.standbyEntered_ports, State.modPort_ports_get]
  split <;> rfl
theorem State.enterStandby_ports_inFlight (s : State) (p q : Port) :
    ((s.enterStandby p).ports.get q).inFlight =
      if p = q then ((s.ports.get q).rest.afterReport.takeDeferred).inFlight else (s.ports.get q).inFlight := by
  rw [State.enterStandby_eq, State.parkIfDone_ports_inFlight, State.standbyEntered_ports, State.modPort_ports_get]
  split <;> rfl
theorem State.enterStandby_ports_queues (s : State) (p q : Port) :
    ((s.enterStandby p).ports.get q).queues =
      if p = q then ((s.ports.get q).rest.afterReport.takeDeferred).queues else (s.ports.get q).queues := by
  rw [State.enterStandby_eq, State.parkIfDone_ports_queues, State.standbyEntered_ports, State.modPort_ports_get]
  split <;> rfl
theorem State.enterStandby_ports_refused (s : State) (p q : Port) :
    ((s.enterStandby p).ports.get q).refused =
      if p = q then ((s.ports.get q).rest.afterReport.takeDeferred).refused else (s.ports.get q).refused := by
  rw [State.enterStandby_eq, State.parkIfDone_ports_refused, State.standbyEntered_ports, State.modPort_ports_get]
  split <;> rfl
theorem State.enterStandby_ports_values (s : State) (p q : Port) :
    ((s.enterStandby p).ports.get q).values =
      if p = q then ((s.ports.get q).rest.afterReport.takeDeferred).values else (s.ports.get q).values := by
  rw [State.enterStandby_eq, State.parkIfDone_ports_values, State.standbyEntered_ports, State.modPort_ports_get]
  split <;> rfl
theorem State.enterStandby_ports_deferred (s : State) (p q : Port) :
    ((s.enterStandby p).ports.get q).deferred =
      if p = q then ((s.ports.get q).rest.afterReport.takeDeferred).deferred else (s.ports.get q).deferred := by
  rw [State.enterStandby_eq, State.parkIfDone_ports_deferred, State.standbyEntered_ports, State.modPort_ports_get]
  split <;> rfl

theorem State.standbyEntered_notices_length (s : State) (p : Port) (h : s.mem.notices.length ≤ 32) :
    (s.standbyEntered p).mem.notices.length ≤ 32 := by
  apply State.takePartDeferred_notices_length
  apply State.postAll_notices_length
  apply State.post_notices_length
  exact h

theorem State.enterStandby_notices_length (s : State) (p : Port) (h : s.mem.notices.length ≤ 32) :
    (s.enterStandby p).mem.notices.length ≤ 32 := by
  rw [State.enterStandby_eq, State.parkIfDone_mem_notices]
  exact s.standbyEntered_notices_length p h

/-- A DRAINING port with an empty table enters STANDBY; in every other case nothing happens (R43). -/
theorem State.restIfDrained_cases (s : State) (p : Port) :
    ((s.ports.get p).mode = .draining ∧ (s.ports.get p).table = [] ∧ s.restIfDrained p = s.enterStandby p) ∨
    (¬((s.ports.get p).mode = .draining ∧ (s.ports.get p).table = []) ∧ s.restIfDrained p = s) := by
  unfold State.restIfDrained
  split
  · rename_i h; exact .inl ⟨h.1, h.2, rfl⟩
  · exact .inr ⟨‹_›, rfl⟩

theorem State.restIfDrained_notices_length (s : State) (p : Port) (h : s.mem.notices.length ≤ 32) :
    (s.restIfDrained p).mem.notices.length ≤ 32 := by
  rcases s.restIfDrained_cases p with ⟨_, _, e⟩ | ⟨_, e⟩
  · rw [e]; exact s.enterStandby_notices_length p h
  · rw [e]; exact h

@[simp] theorem State.restIfDrained_link (s : State) (p : Port) : (s.restIfDrained p).link = s.link := by
  rcases s.restIfDrained_cases p with ⟨_, _, e⟩ | ⟨_, e⟩ <;> simp [e]
@[simp] theorem State.restIfDrained_conduct (s : State) (p : Port) : (s.restIfDrained p).conduct = s.conduct := by
  rcases s.restIfDrained_cases p with ⟨_, _, e⟩ | ⟨_, e⟩ <;> simp [e]
@[simp] theorem State.restIfDrained_pending (s : State) (p : Port) : (s.restIfDrained p).pending = s.pending := by
  rcases s.restIfDrained_cases p with ⟨_, _, e⟩ | ⟨_, e⟩ <;> simp [e]

/-! ### Entry to DRAINING (R42) -/

/-- A GRANTING or ALLOCATING port enters DRAINING, and goes on if its table is empty; in every other case nothing happens. -/
theorem State.enterDraining_cases (s : State) (p : Port) :
    (((s.ports.get p).mode = .granting ∨ (s.ports.get p).mode = .allocating) ∧
      s.enterDraining p =
        ((s.modPort p fun b => { b with mode := .draining }).post
          (.portState p (s.ports.get p).mode .draining s.timer.epoch)).restIfDrained p) ∨
    (¬((s.ports.get p).mode = .granting ∨ (s.ports.get p).mode = .allocating) ∧ s.enterDraining p = s) := by
  unfold State.enterDraining
  dsimp only
  split
  · exact .inl ⟨‹_›, rfl⟩
  · exact .inr ⟨‹_›, rfl⟩

theorem State.enterDraining_notices_length (s : State) (p : Port) (h : s.mem.notices.length ≤ 32) :
    (s.enterDraining p).mem.notices.length ≤ 32 := by
  rcases s.enterDraining_cases p with ⟨_, e⟩ | ⟨_, e⟩
  · rw [e]; exact State.restIfDrained_notices_length _ _ (State.post_notices_length _ _ h)
  · rw [e]; exact h

@[simp] theorem State.enterDraining_link (s : State) (p : Port) : (s.enterDraining p).link = s.link := by
  rcases s.enterDraining_cases p with ⟨_, e⟩ | ⟨_, e⟩ <;> simp [e]
@[simp] theorem State.enterDraining_conduct (s : State) (p : Port) : (s.enterDraining p).conduct = s.conduct := by
  rcases s.enterDraining_cases p with ⟨_, e⟩ | ⟨_, e⟩ <;> simp [e]
@[simp] theorem State.enterDraining_pending (s : State) (p : Port) : (s.enterDraining p).pending = s.pending := by
  rcases s.enterDraining_cases p with ⟨_, e⟩ | ⟨_, e⟩ <;> simp [e]

end Sys2Proof.Machine
end

