-- ==== Sys2Proof/Laws/Arbiter.lean ====
section
/-! SUPPORT. What the grant arbiter's operations can do: the next tag, the choice of an account, the issue of a grant, a
run, and stage 4's examinations (R47, R51 to R54, R61). -/

namespace Sys2Proof.Machine

set_option Elab.async false

/-! ### Tags (R47, R48) -/

theorem PortBlock.entry_none (b : PortBlock) (t : Tag) : b.entry t = none ↔ t ∉ b.table.map Entry.tag := by
  simp [PortBlock.entry]

/-- An entry found by its tag is in the table and carries that tag (R48). -/
theorem PortBlock.entry_some {b : PortBlock} {t : Tag} {e : Entry} (h : b.entry t = some e) :
    e ∈ b.table ∧ e.tag = t :=
  ⟨List.mem_of_find?_eq_some h, by simpa using List.find?_some h⟩

/-- The values following a tag counter run through every tag. -/
theorem mem_tagSearch (c t : Tag) : t ∈ (List.range 256).map fun i => c + 1 + BitVec.ofNat 8 i := by
  rw [List.mem_map]
  refine ⟨(t - (c + 1)).toNat, List.mem_range.2 (t - (c + 1)).isLt, ?_⟩
  rw [BitVec.ofNat_toNat, BitVec.setWidth_eq, BitVec.add_comm, BitVec.sub_add_cancel]

/-- With a free slot, the tag allocated is one that no entry carries (R47). -/
theorem PortBlock.nextTag_fresh (b : PortBlock) (h : b.table.length < 256) : b.nextTag ∉ b.table.map Entry.tag := by
  unfold PortBlock.nextTag
  cases hf : (((List.range 256).map fun i => b.tagCounter + 1 + BitVec.ofNat 8 i).find?
      fun t => (b.entry t).isNone) with
  | some t =>
    have := List.find?_some hf
    simpa [PortBlock.entry_none] using this
  | none =>
    exfalso
    rw [List.find?_eq_none] at hf
    have hall : ∀ t : Tag, t ∈ b.table.map Entry.tag := by
      intro t
      have := hf t (mem_tagSearch _ t)
      simp only [Option.isNone_iff_eq_none] at this
      rwa [PortBlock.entry_none, not_not] at this
    have hsub : (List.finRange 256).map (fun i => BitVec.ofFin (w := 8) i) ⊆ b.table.map Entry.tag :=
      fun t _ => hall t
    have hnd : ((List.finRange 256).map (fun i => BitVec.ofFin (w := 8) i)).Nodup :=
      (List.nodup_finRange 256).map (fun i j hij => by simpa using hij)
    have hle := (List.subperm_of_subset hnd hsub).length_le
    simp at hle
    omega

/-! ### Choosing an account (R53) -/

/-- The account chosen is eligible on the lane chosen: not in CUT_OFF, with remaining allowance and a waiting queue. -/
theorem State.choose_some {s : State} {p : Port} {l : Lane} {a : Account} (h : s.choose p = some (l, a)) :
    s.conductOf a ≠ .cutOff ∧ 0 < ((s.ports.get p).cells.get a).remaining ∧ (s.ports.get p).list l a ≠ [] := by
  have key : ∀ m c, s.search p m = some c → s.eligible p m c = true := by
    intro m c hc
    exact List.find?_some hc
  have he : s.eligible p l a = true := by
    unfold State.choose at h
    split at h
    · cases h; exact key _ _ ‹_›
    · split at h
      · cases h; exact key _ _ ‹_›
      · cases h
  simpa [State.eligible, and_assoc] using he

/-- The conditions under which a grant is issued, and to whom (R52). -/
theorem State.nextGrant_some {s : State} {p : Port} {l : Lane} {a : Account} (h : s.nextGrant p = some (l, a)) :
    (s.ports.get p).mode = .granting ∧ (s.ports.get p).table.length < 32 ∧ s.link.output.length < 64 ∧
      s.choose p = some (l, a) := by
  unfold State.nextGrant at h
  split at h
  · rename_i hc
    exact ⟨hc.1, hc.2.1, of_decide_eq_true hc.2.2, h⟩
  · cases h

/-! ### Issuing a grant (R54) -/

@[simp] theorem PortBlock.grantTo_mode (b : PortBlock) (l : Lane) (a : Account) (q : QueueId)
    (rest : List QueueId) : (b.grantTo l a q rest).mode = b.mode := by simp [PortBlock.grantTo]
@[simp] theorem PortBlock.grantTo_openEpoch (b : PortBlock) (l : Lane) (a : Account) (q : QueueId)
    (rest : List QueueId) : (b.grantTo l a q rest).openEpoch = b.openEpoch := by simp [PortBlock.grantTo]
@[simp] theorem PortBlock.grantTo_counts (b : PortBlock) (l : Lane) (a : Account) (q : QueueId)
    (rest : List QueueId) : (b.grantTo l a q rest).counts = b.counts := by simp [PortBlock.grantTo]
@[simp] theorem PortBlock.grantTo_capacity (b : PortBlock) (l : Lane) (a : Account) (q : QueueId)
    (rest : List QueueId) : (b.grantTo l a q rest).capacity = b.capacity := by simp [PortBlock.grantTo]
@[simp] theorem PortBlock.grantTo_served (b : PortBlock) (l : Lane) (a : Account) (q : QueueId)
    (rest : List QueueId) : (b.grantTo l a q rest).served = b.served := by simp [PortBlock.grantTo]
@[simp] theorem PortBlock.grantTo_totals (b : PortBlock) (l : Lane) (a : Account) (q : QueueId)
    (rest : List QueueId) : (b.grantTo l a q rest).totals = b.totals := by simp [PortBlock.grantTo]
@[simp] theorem PortBlock.grantTo_filter (b : PortBlock) (l : Lane) (a : Account) (q : QueueId)
    (rest : List QueueId) : (b.grantTo l a q rest).filter = b.filter := by simp [PortBlock.grantTo]
@[simp] theorem PortBlock.grantTo_inFlight (b : PortBlock) (l : Lane) (a : Account) (q : QueueId)
    (rest : List QueueId) : (b.grantTo l a q rest).inFlight = b.inFlight := by simp [PortBlock.grantTo]
@[simp] theorem PortBlock.grantTo_refused (b : PortBlock) (l : Lane) (a : Account) (q : QueueId)
    (rest : List QueueId) : (b.grantTo l a q rest).refused = b.refused := by simp [PortBlock.grantTo]
@[simp] theorem PortBlock.grantTo_values (b : PortBlock) (l : Lane) (a : Account) (q : QueueId)
    (rest : List QueueId) : (b.grantTo l a q rest).values = b.values := by simp [PortBlock.grantTo]
@[simp] theorem PortBlock.grantTo_deferred (b : PortBlock) (l : Lane) (a : Account) (q : QueueId)
    (rest : List QueueId) : (b.grantTo l a q rest).deferred = b.deferred := by simp [PortBlock.grantTo]
@[simp] theorem PortBlock.grantTo_closeOwed (b : PortBlock) (l : Lane) (a : Account) (q : QueueId)
    (rest : List QueueId) : (b.grantTo l a q rest).closeOwed = b.closeOwed := by simp [PortBlock.grantTo]
@[simp] theorem PortBlock.grantTo_changeOwed (b : PortBlock) (l : Lane) (a : Account) (q : QueueId)
    (rest : List QueueId) : (b.grantTo l a q rest).changeOwed = b.changeOwed := by simp [PortBlock.grantTo]
@[simp] theorem PortBlock.grantTo_allocDue (b : PortBlock) (l : Lane) (a : Account) (q : QueueId)
    (rest : List QueueId) : (b.grantTo l a q rest).allocDue = b.allocDue := by simp [PortBlock.grantTo]

/-- The new entry of the table (R54, step 3). -/
@[simp] theorem PortBlock.grantTo_table (b : PortBlock) (l : Lane) (a : Account) (q : QueueId) (rest : List QueueId) :
    (b.grantTo l a q rest).table = b.table ++
      [{ tag := b.nextTag, queue := q, account := a, units := b.grantSize a q, issued := b.openEpoch, age := 0,
         state := .live }] := by simp [PortBlock.grantTo]

@[simp] theorem PortBlock.grantTo_tagCounter (b : PortBlock) (l : Lane) (a : Account) (q : QueueId)
    (rest : List QueueId) : (b.grantTo l a q rest).tagCounter = b.nextTag := by simp [PortBlock.grantTo]

/-- The tally falls by the size, and the waiting flag stays while units are left (R54, steps 1 and 6). -/
theorem PortBlock.grantTo_queue (b : PortBlock) (l : Lane) (a : Account) (q r : QueueId) (rest : List QueueId) :
    (b.grantTo l a q rest).queues.get r =
      if q = r then
        { b.queues.get r with
          tally := (b.queues.get q).tally - b.grantSize a q
          waiting := decide (0 < (b.queues.get q).tally - b.grantSize a q) }
      else b.queues.get r := by
  simp [PortBlock.grantTo, PortBlock.modQueue_get]

/-- The cell's issued net rises by the size (R54, step 2). -/
theorem PortBlock.grantTo_cell (b : PortBlock) (l : Lane) (a c : Account) (q : QueueId) (rest : List QueueId) :
    (b.grantTo l a q rest).cells.get c =
      if a = c then { b.cells.get c with issued := (b.cells.get c).issued + b.grantSize a q } else b.cells.get c := by
  simp [PortBlock.grantTo, PortBlock.modCell_get]

/-- The queue goes to the tail of its list or leaves it (R54, step 6). -/
theorem PortBlock.grantTo_list (b : PortBlock) (l m : Lane) (a c : Account) (q : QueueId) (rest : List QueueId) :
    (b.grantTo l a q rest).list m c =
      if l = m ∧ a = c then
        (if 0 < (b.queues.get q).tally - b.grantSize a q then rest ++ [q] else rest)
      else b.list m c := by
  simp only [PortBlock.grantTo, PortBlock.setList_list, PortBlock.setPtr_list, PortBlock.modCell_list,
    PortBlock.modQueue_list]
  split
  · rfl
  · cases m <;> rfl

theorem PortBlock.grantTo_ptr (b : PortBlock) (l m : Lane) (a : Account) (q : QueueId) (rest : List QueueId) :
    (b.grantTo l a q rest).ptr m = if l = m then a else b.ptr m := by
  cases l <;> cases m <;> rfl

/-- All that issuing a grant can do. -/
theorem State.issueGrant_cases (s : State) (p : Port) (l : Lane) (a : Account) :
    ((s.ports.get p).list l a = [] ∧ s.issueGrant p l a = s) ∨
    ∃ q rest, (s.ports.get p).list l a = q :: rest ∧
      s.issueGrant p l a =
        ((s.modPort p fun b => b.grantTo l a q rest).place
          (.grant p (s.ports.get p).nextTag q ((s.ports.get p).grantSize a q))).modConduct a
          fun r => { r with activity := true } := by
  unfold State.issueGrant
  dsimp only
  split
  · exact .inl ⟨‹_›, rfl⟩
  · exact .inr ⟨_, _, ‹_›, rfl⟩

@[simp] theorem State.issueGrant_scan (s : State) (p : Port) (l : Lane) (a : Account) :
    (s.issueGrant p l a).scan = s.scan := by
  rcases s.issueGrant_cases p l a with ⟨_, e⟩ | ⟨_, _, _, e⟩ <;> simp [e]
@[simp] theorem State.issueGrant_timer (s : State) (p : Port) (l : Lane) (a : Account) :
    (s.issueGrant p l a).timer = s.timer := by
  rcases s.issueGrant_cases p l a with ⟨_, e⟩ | ⟨_, _, _, e⟩ <;> simp [e]
@[simp] theorem State.issueGrant_plans (s : State) (p : Port) (l : Lane) (a : Account) :
    (s.issueGrant p l a).plans = s.plans := by
  rcases s.issueGrant_cases p l a with ⟨_, e⟩ | ⟨_, _, _, e⟩ <;> simp [e]
@[simp] theorem State.issueGrant_mem (s : State) (p : Port) (l : Lane) (a : Account) :
    (s.issueGrant p l a).mem = s.mem := by
  rcases s.issueGrant_cases p l a with ⟨_, e⟩ | ⟨_, _, _, e⟩ <;> simp [e]
@[simp] theorem State.issueGrant_win (s : State) (p : Port) (l : Lane) (a : Account) :
    (s.issueGrant p l a).win = s.win := by
  rcases s.issueGrant_cases p l a with ⟨_, e⟩ | ⟨_, _, _, e⟩ <;> simp [e]
@[simp] theorem State.issueGrant_pending (s : State) (p : Port) (l : Lane) (a : Account) :
    (s.issueGrant p l a).pending = s.pending := by
  rcases s.issueGrant_cases p l a with ⟨_, e⟩ | ⟨_, _, _, e⟩ <;> simp [e]

theorem State.issueGrant_ports_ne (s : State) {p q : Port} (l : Lane) (a : Account) (h : p ≠ q) :
    (s.issueGrant p l a).ports.get q = s.ports.get q := by
  rcases s.issueGrant_cases p l a with ⟨_, e⟩ | ⟨_, _, _, e⟩
  · rw [e]
  · rw [e]; simp [State.modPort_ports_ne _ _ h]

/-! ### A run (R51) -/

/-- A fact about the state that the issue of a grant keeps is kept by a run. -/
theorem State.arbiterRun_induct {P : State → Prop} (p : Port)
    (hg : ∀ (s : State) l a, s.nextGrant p = some (l, a) → P s → P (s.issueGrant p l a)) (s : State) (h : P s) :
    P (s.arbiterRun p) := by
  have key : ∀ fuel (s : State), P s → P (grantRun fuel p s) := by
    intro fuel
    induction fuel with
    | zero => exact fun _ h => h
    | succ fuel ih =>
      intro s h
      unfold grantRun
      split
      · exact h
      · exact ih _ (hg s _ _ ‹_› h)
  exact key _ s h

/-- A grant that can be issued takes a slot of the table (R52, R54). -/
theorem State.issueGrant_table_length {s : State} {p : Port} {l : Lane} {a : Account}
    (h : s.nextGrant p = some (l, a)) :
    ((s.issueGrant p l a).ports.get p).table.length = (s.ports.get p).table.length + 1 := by
  have he := State.choose_some (State.nextGrant_some h).2.2.2
  rcases s.issueGrant_cases p l a with ⟨hl, -⟩ | ⟨q, rest, -, e⟩
  · simp [hl] at he
  · simp [e]

/-- A run leaves nothing that can be granted (R51, R52). -/
theorem State.arbiterRun_nextGrant (s : State) (p : Port) : (s.arbiterRun p).nextGrant p = none := by
  have key : ∀ n (s : State), 32 - (s.ports.get p).table.length ≤ n → (grantRun n p s).nextGrant p = none := by
    intro n
    induction n with
    | zero =>
      intro s h
      unfold grantRun State.nextGrant
      rw [if_neg]
      rintro ⟨_, h2, _⟩
      simp only [Config.tableSlots] at h2
      omega
    | succ n ih =>
      intro s h
      unfold grantRun
      split
      · assumption
      · rename_i hn
        have := State.issueGrant_table_length hn
        exact ih _ (by omega)
  exact key _ s (by simp [Config.tableSlots])

/-- A search that finds nobody has looked at every account (R53). -/
theorem State.search_none {s : State} {p : Port} {l : Lane} (h : s.search p l = none) (a : Account) :
    s.eligible p l a = false := by
  simp only [State.search, List.find?_eq_none] at h
  have : a ∈ rotation ((s.ports.get p).ptr l) := by
    generalize (s.ports.get p).ptr l = x
    refine List.mem_map.2 ⟨(a.val + 95 - x.val) % 48, by simp; omega, Fin.ext ?_⟩
    simp only [Fin.ofNat]
    omega
  simpa using h a this

/-- Where a GRANTING port can issue no grant, its table or the output queue is full, or no account may be served on either
lane (R52, R53). -/
theorem State.nextGrant_none {s : State} {p : Port} (h : s.nextGrant p = none)
    (hm : (s.ports.get p).mode = .granting) :
    32 ≤ (s.ports.get p).table.length ∨ s.hasRoom = false ∨ ∀ l a, s.eligible p l a = false := by
  by_cases ht : (s.ports.get p).table.length < 32
  · cases hr : s.hasRoom
    · exact .inr (.inl rfl)
    · refine .inr (.inr fun l => ?_)
      unfold State.nextGrant at h
      rw [if_pos ⟨hm, ht, hr⟩] at h
      unfold State.choose at h
      cases hu : s.search p .urgent <;> cases hb : s.search p .bulk <;> simp [hu, hb] at h
      cases l
      · exact State.search_none hu
      · exact State.search_none hb
  · exact .inl (by omega)

/-- A fact about the state that a run keeps is kept by the runs of space freed. -/
theorem State.runAll_induct {P : State → Prop} (order : List Port)
    (hr : ∀ (s : State) p, (s.ports.get p).mode = .granting → P s → P (s.arbiterRun p)) (s : State) (h : P s) :
    P (s.runAll order) := by
  unfold State.runAll
  induction order generalizing s with
  | nil => exact h
  | cons p ps ih =>
    apply ih
    dsimp only
    split
    · exact hr s p ‹_› h
    · exact h

@[simp] theorem State.arbiterRun_scan (s : State) (p : Port) : (s.arbiterRun p).scan = s.scan :=
  State.arbiterRun_induct (P := fun t => t.scan = s.scan) p (by intro t l a _ h; simpa using h) s rfl
@[simp] theorem State.runAll_scan (s : State) (order : List Port) : (s.runAll order).scan = s.scan :=
  State.runAll_induct (P := fun t => t.scan = s.scan) order (by intro t p _ h; simpa using h) s rfl
@[simp] theorem State.arbiterRun_timer (s : State) (p : Port) : (s.arbiterRun p).timer = s.timer :=
  State.arbiterRun_induct (P := fun t => t.timer = s.timer) p (by intro t l a _ h; simpa using h) s rfl
@[simp] theorem State.runAll_timer (s : State) (order : List Port) : (s.runAll order).timer = s.timer :=
  State.runAll_induct (P := fun t => t.timer = s.timer) order (by intro t p _ h; simpa using h) s rfl
@[simp] theorem State.arbiterRun_plans (s : State) (p : Port) : (s.arbiterRun p).plans = s.plans :=
  State.arbiterRun_induct (P := fun t => t.plans = s.plans) p (by intro t l a _ h; simpa using h) s rfl
@[simp] theorem State.runAll_plans (s : State) (order : List Port) : (s.runAll order).plans = s.plans :=
  State.runAll_induct (P := fun t => t.plans = s.plans) order (by intro t p _ h; simpa using h) s rfl
@[simp] theorem State.arbiterRun_mem (s : State) (p : Port) : (s.arbiterRun p).mem = s.mem :=
  State.arbiterRun_induct (P := fun t => t.mem = s.mem) p (by intro t l a _ h; simpa using h) s rfl
@[simp] theorem State.runAll_mem (s : State) (order : List Port) : (s.runAll order).mem = s.mem :=
  State.runAll_induct (P := fun t => t.mem = s.mem) order (by intro t p _ h; simpa using h) s rfl
@[simp] theorem State.arbiterRun_win (s : State) (p : Port) : (s.arbiterRun p).win = s.win :=
  State.arbiterRun_induct (P := fun t => t.win = s.win) p (by intro t l a _ h; simpa using h) s rfl
@[simp] theorem State.runAll_win (s : State) (order : List Port) : (s.runAll order).win = s.win :=
  State.runAll_induct (P := fun t => t.win = s.win) order (by intro t p _ h; simpa using h) s rfl
@[simp] theorem State.arbiterRun_pending (s : State) (p : Port) : (s.arbiterRun p).pending = s.pending :=
  State.arbiterRun_induct (P := fun t => t.pending = s.pending) p (by intro t l a _ h; simpa using h) s rfl
@[simp] theorem State.runAll_pending (s : State) (order : List Port) : (s.runAll order).pending = s.pending :=
  State.runAll_induct (P := fun t => t.pending = s.pending) order (by intro t p _ h; simpa using h) s rfl

/-- A run changes its own port only (R51). -/
@[simp] theorem State.issueGrant_discards (s : State) (p : Port) (l : Lane) (a : Account) :
    (s.issueGrant p l a).link.discards = s.link.discards := by
  rcases s.issueGrant_cases p l a with ⟨_, e⟩ | ⟨_, _, _, e⟩ <;> simp [e]
@[simp] theorem State.issueGrant_sending (s : State) (p : Port) (l : Lane) (a : Account) :
    (s.issueGrant p l a).link.sending = s.link.sending := by
  rcases s.issueGrant_cases p l a with ⟨_, e⟩ | ⟨_, _, _, e⟩ <;> simp [e]
@[simp] theorem State.arbiterRun_discards (s : State) (p : Port) :
    (s.arbiterRun p).link.discards = s.link.discards :=
  State.arbiterRun_induct (P := fun t => t.link.discards = s.link.discards) p (by intro t l a _ h; simpa using h) s rfl
@[simp] theorem State.arbiterRun_sending (s : State) (p : Port) : (s.arbiterRun p).link.sending = s.link.sending :=
  State.arbiterRun_induct (P := fun t => t.link.sending = s.link.sending) p (by intro t l a _ h; simpa using h) s rfl

theorem State.arbiterRun_ports_ne (s : State) {p q : Port} (h : p ≠ q) :
    (s.arbiterRun p).ports.get q = s.ports.get q :=
  State.arbiterRun_induct (P := fun t => t.ports.get q = s.ports.get q) p
    (by intro t l a _ ht; rw [State.issueGrant_ports_ne _ _ _ h, ht]) s rfl

/-- What a run leaves unchanged on its port. -/
@[simp] theorem State.arbiterRun_ports_mode (s : State) (p q : Port) :
    ((s.arbiterRun p).ports.get q).mode = (s.ports.get q).mode :=
  State.arbiterRun_induct (P := fun t => (t.ports.get q).mode = (s.ports.get q).mode) p
    (by
      intro t l a _ ht
      rcases t.issueGrant_cases p l a with ⟨_, e⟩ | ⟨_, _, _, e⟩
      · rw [e, ht]
      · rw [e, State.modConduct_ports, State.place_ports, State.modPort_ports_get]; split <;> simp [ht]) s rfl
@[simp] theorem State.arbiterRun_ports_openEpoch (s : State) (p q : Port) :
    ((s.arbiterRun p).ports.get q).openEpoch = (s.ports.get q).openEpoch :=
  State.arbiterRun_induct (P := fun t => (t.ports.get q).openEpoch = (s.ports.get q).openEpoch) p
    (by
      intro t l a _ ht
      rcases t.issueGrant_cases p l a with ⟨_, e⟩ | ⟨_, _, _, e⟩
      · rw [e, ht]
      · rw [e, State.modConduct_ports, State.place_ports, State.modPort_ports_get]; split <;> simp [ht]) s rfl
@[simp] theorem State.arbiterRun_ports_counts (s : State) (p q : Port) :
    ((s.arbiterRun p).ports.get q).counts = (s.ports.get q).counts :=
  State.arbiterRun_induct (P := fun t => (t.ports.get q).counts = (s.ports.get q).counts) p
    (by
      intro t l a _ ht
      rcases t.issueGrant_cases p l a with ⟨_, e⟩ | ⟨_, _, _, e⟩
      · rw [e, ht]
      · rw [e, State.modConduct_ports, State.place_ports, State.modPort_ports_get]; split <;> simp [ht]) s rfl
@[simp] theorem State.arbiterRun_ports_capacity (s : State) (p q : Port) :
    ((s.arbiterRun p).ports.get q).capacity = (s.ports.get q).capacity :=
  State.arbiterRun_induct (P := fun t => (t.ports.get q).capacity = (s.ports.get q).capacity) p
    (by
      intro t l a _ ht
      rcases t.issueGrant_cases p l a with ⟨_, e⟩ | ⟨_, _, _, e⟩
      · rw [e, ht]
      · rw [e, State.modConduct_ports, State.place_ports, State.modPort_ports_get]; split <;> simp [ht]) s rfl
@[simp] theorem State.arbiterRun_ports_served (s : State) (p q : Port) :
    ((s.arbiterRun p).ports.get q).served = (s.ports.get q).served :=
  State.arbiterRun_induct (P := fun t => (t.ports.get q).served = (s.ports.get q).served) p
    (by
      intro t l a _ ht
      rcases t.issueGrant_cases p l a with ⟨_, e⟩ | ⟨_, _, _, e⟩
      · rw [e, ht]
      · rw [e, State.modConduct_ports, State.place_ports, State.modPort_ports_get]; split <;> simp [ht]) s rfl
@[simp] theorem State.arbiterRun_ports_totals (s : State) (p q : Port) :
    ((s.arbiterRun p).ports.get q).totals = (s.ports.get q).totals :=
  State.arbiterRun_induct (P := fun t => (t.ports.get q).totals = (s.ports.get q).totals) p
    (by
      intro t l a _ ht
      rcases t.issueGrant_cases p l a with ⟨_, e⟩ | ⟨_, _, _, e⟩
      · rw [e, ht]
      · rw [e, State.modConduct_ports, State.place_ports, State.modPort_ports_get]; split <;> simp [ht]) s rfl
@[simp] theorem State.arbiterRun_ports_filter (s : State) (p q : Port) :
    ((s.arbiterRun p).ports.get q).filter = (s.ports.get q).filter :=
  State.arbiterRun_induct (P := fun t => (t.ports.get q).filter = (s.ports.get q).filter) p
    (by
      intro t l a _ ht
      rcases t.issueGrant_cases p l a with ⟨_, e⟩ | ⟨_, _, _, e⟩
      · rw [e, ht]
      · rw [e, State.modConduct_ports, State.place_ports, State.modPort_ports_get]; split <;> simp [ht]) s rfl
@[simp] theorem State.arbiterRun_ports_inFlight (s : State) (p q : Port) :
    ((s.arbiterRun p).ports.get q).inFlight = (s.ports.get q).inFlight :=
  State.arbiterRun_induct (P := fun t => (t.ports.get q).inFlight = (s.ports.get q).inFlight) p
    (by
      intro t l a _ ht
      rcases t.issueGrant_cases p l a with ⟨_, e⟩ | ⟨_, _, _, e⟩
      · rw [e, ht]
      · rw [e, State.modConduct_ports, State.place_ports, State.modPort_ports_get]; split <;> simp [ht]) s rfl
@[simp] theorem State.arbiterRun_ports_refused (s : State) (p q : Port) :
    ((s.arbiterRun p).ports.get q).refused = (s.ports.get q).refused :=
  State.arbiterRun_induct (P := fun t => (t.ports.get q).refused = (s.ports.get q).refused) p
    (by
      intro t l a _ ht
      rcases t.issueGrant_cases p l a with ⟨_, e⟩ | ⟨_, _, _, e⟩
      · rw [e, ht]
      · rw [e, State.modConduct_ports, State.place_ports, State.modPort_ports_get]; split <;> simp [ht]) s rfl
@[simp] theorem State.arbiterRun_ports_values (s : State) (p q : Port) :
    ((s.arbiterRun p).ports.get q).values = (s.ports.get q).values :=
  State.arbiterRun_induct (P := fun t => (t.ports.get q).values = (s.ports.get q).values) p
    (by
      intro t l a _ ht
      rcases t.issueGrant_cases p l a with ⟨_, e⟩ | ⟨_, _, _, e⟩
      · rw [e, ht]
      · rw [e, State.modConduct_ports, State.place_ports, State.modPort_ports_get]; split <;> simp [ht]) s rfl
@[simp] theorem State.arbiterRun_ports_deferred (s : State) (p q : Port) :
    ((s.arbiterRun p).ports.get q).deferred = (s.ports.get q).deferred :=
  State.arbiterRun_induct (P := fun t => (t.ports.get q).deferred = (s.ports.get q).deferred) p
    (by
      intro t l a _ ht
      rcases t.issueGrant_cases p l a with ⟨_, e⟩ | ⟨_, _, _, e⟩
      · rw [e, ht]
      · rw [e, State.modConduct_ports, State.place_ports, State.modPort_ports_get]; split <;> simp [ht]) s rfl
@[simp] theorem State.arbiterRun_ports_closeOwed (s : State) (p q : Port) :
    ((s.arbiterRun p).ports.get q).closeOwed = (s.ports.get q).closeOwed :=
  State.arbiterRun_induct (P := fun t => (t.ports.get q).closeOwed = (s.ports.get q).closeOwed) p
    (by
      intro t l a _ ht
      rcases t.issueGrant_cases p l a with ⟨_, e⟩ | ⟨_, _, _, e⟩
      · rw [e, ht]
      · rw [e, State.modConduct_ports, State.place_ports, State.modPort_ports_get]; split <;> simp [ht]) s rfl
@[simp] theorem State.arbiterRun_ports_changeOwed (s : State) (p q : Port) :
    ((s.arbiterRun p).ports.get q).changeOwed = (s.ports.get q).changeOwed :=
  State.arbiterRun_induct (P := fun t => (t.ports.get q).changeOwed = (s.ports.get q).changeOwed) p
    (by
      intro t l a _ ht
      rcases t.issueGrant_cases p l a with ⟨_, e⟩ | ⟨_, _, _, e⟩
      · rw [e, ht]
      · rw [e, State.modConduct_ports, State.place_ports, State.modPort_ports_get]; split <;> simp [ht]) s rfl
@[simp] theorem State.arbiterRun_ports_allocDue (s : State) (p q : Port) :
    ((s.arbiterRun p).ports.get q).allocDue = (s.ports.get q).allocDue :=
  State.arbiterRun_induct (P := fun t => (t.ports.get q).allocDue = (s.ports.get q).allocDue) p
    (by
      intro t l a _ ht
      rcases t.issueGrant_cases p l a with ⟨_, e⟩ | ⟨_, _, _, e⟩
      · rw [e, ht]
      · rw [e, State.modConduct_ports, State.place_ports, State.modPort_ports_get]; split <;> simp [ht]) s rfl

/-- A run changes no score and no quiet count. -/
theorem State.arbiterRun_recs (s : State) (p : Port) (a : Account) :
    ((s.arbiterRun p).conduct.recs.get a).score = (s.conduct.recs.get a).score ∧
      ((s.arbiterRun p).conduct.recs.get a).quiet = (s.conduct.recs.get a).quiet :=
  State.arbiterRun_induct
    (P := fun t => (t.conduct.recs.get a).score = (s.conduct.recs.get a).score ∧
      (t.conduct.recs.get a).quiet = (s.conduct.recs.get a).quiet) p
    (by
      intro t l c _ ht
      rcases t.issueGrant_cases p l c with ⟨_, e⟩ | ⟨_, _, _, e⟩
      · rw [e]; exact ht
      · rw [e]; simp only [State.modConduct_recs_get, State.place_conduct, State.modPort_conduct]; split <;> exact ht)
    s ⟨rfl, rfl⟩

theorem State.arbiterRun_conductOf (s : State) (p : Port) (a : Account) :
    (s.arbiterRun p).conductOf a = s.conductOf a := by
  simp [State.conductOf, ConductRec.state, (s.arbiterRun_recs p a).1]

theorem State.arbiterRun_output_length (s : State) (p : Port) (h : s.link.output.length ≤ 64) :
    (s.arbiterRun p).link.output.length ≤ 64 :=
  State.arbiterRun_induct (P := fun t => t.link.output.length ≤ 64) p
    (by
      intro t l a _ ht
      rcases t.issueGrant_cases p l a with ⟨_, e⟩ | ⟨_, _, _, e⟩
      · rw [e]; exact ht
      · rw [e]; exact State.place_output_length _ _ (by simpa using ht)) s h

/-- Messages already in the output queue keep their places through a run (R73). -/
theorem State.arbiterRun_output_prefix (s : State) (p : Port) : s.link.output <+: (s.arbiterRun p).link.output :=
  State.arbiterRun_induct (P := fun t => s.link.output <+: t.link.output) p
    (by
      intro t l a _ ht
      rcases t.issueGrant_cases p l a with ⟨_, e⟩ | ⟨_, _, _, e⟩
      · rw [e]; exact ht
      · rw [e]
        exact ht.trans (State.place_output_prefix (t.modPort p fun b => b.grantTo l a _ _) _)) s List.prefix_rfl

/-! ### Stage 4 (R61) -/

/-- All that the expiry of an entry can do. -/
theorem State.expireEntry_cases (s : State) (p : Port) (t : Tag) (sched : List Port) :
    s.expireEntry p t sched = s ∨
    ∃ e, (s.ports.get p).entry t = some e ∧ e.state = .live ∧ (s.ports.get p).values.life ≤ e.age ∧
      s.expireEntry p t sched = (s.modPort p fun b => b.expire e).charge e.account 4 sched := by
  unfold State.expireEntry
  split
  · exact .inl rfl
  · split
    · rename_i e he hr
      simp only [PortBlock.reached, Bool.and_eq_true, decide_eq_true_eq] at hr
      exact .inr ⟨e, he, hr.1, hr.2, rfl⟩
    · exact .inl rfl

/-- All that the removal of a LAPSED entry can do. -/
theorem State.removeLapsed_cases (s : State) (p : Port) (t : Tag) :
    s.removeLapsed p t = s ∨
    ∃ e, (s.ports.get p).entry t = some e ∧ e.state = .lapsed ∧ (s.ports.get p).values.life ≤ e.age ∧
      s.removeLapsed p t = s.modPort p fun b => b.removeEntry t := by
  unfold State.removeLapsed
  split
  · exact .inl rfl
  · split
    · rename_i e he hr
      simp only [PortBlock.reached, Bool.and_eq_true, decide_eq_true_eq] at hr
      exact .inr ⟨e, he, hr.1, hr.2, rfl⟩
    · exact .inl rfl

/-- The examination of an entry is an expiry or a removal of a LAPSED entry. -/
theorem State.examine_cases (s : State) (p : Port) (x : Exam) :
    s.examine p x = s ∨ s.examine p x = s.expireEntry p x.tag x.sched ∨ s.examine p x = s.removeLapsed p x.tag := by
  unfold State.examine
  split
  · exact .inl rfl
  · split
    · exact .inr (.inl rfl)
    · exact .inr (.inr rfl)

/-- A fact about the state that aging, expiry and removal keep is kept by stage 4. -/
theorem State.ageAndExamine_induct {P : State → Prop} (p : Port) (exams : List Exam) (s : State)
    (ha : P (s.modPort p PortBlock.ageTable))
    (hx : ∀ (s : State) t sched, P s → P (s.expireEntry p t sched))
    (hl : ∀ (s : State) t, P s → P (s.removeLapsed p t)) : P (s.ageAndExamine p exams) := by
  unfold State.ageAndExamine
  generalize fullExams exams (s.ports.get p).table = l
  generalize s.modPort p PortBlock.ageTable = s1 at ha
  induction l generalizing s1 with
  | nil => exact ha
  | cons x xs ih =>
    apply ih
    dsimp only
    rcases s1.examine_cases p x with e | e | e
    · rw [e]; exact ha
    · rw [e]; exact hx _ _ _ ha
    · rw [e]; exact hl _ _ ha

@[simp] theorem PortBlock.expire_mode (b : PortBlock) (e : Entry) : (b.expire e).mode = b.mode := rfl
@[simp] theorem PortBlock.expire_openEpoch (b : PortBlock) (e : Entry) : (b.expire e).openEpoch = b.openEpoch := rfl
@[simp] theorem PortBlock.expire_tagCounter (b : PortBlock) (e : Entry) : (b.expire e).tagCounter = b.tagCounter := rfl
@[simp] theorem PortBlock.expire_urgentLists (b : PortBlock) (e : Entry) : (b.expire e).urgentLists = b.urgentLists := rfl
@[simp] theorem PortBlock.expire_bulkLists (b : PortBlock) (e : Entry) : (b.expire e).bulkLists = b.bulkLists := rfl
@[simp] theorem PortBlock.expire_urgentPtr (b : PortBlock) (e : Entry) : (b.expire e).urgentPtr = b.urgentPtr := rfl
@[simp] theorem PortBlock.expire_bulkPtr (b : PortBlock) (e : Entry) : (b.expire e).bulkPtr = b.bulkPtr := rfl
@[simp] theorem PortBlock.expire_capacity (b : PortBlock) (e : Entry) : (b.expire e).capacity = b.capacity := rfl
@[simp] theorem PortBlock.expire_served (b : PortBlock) (e : Entry) : (b.expire e).served = b.served := rfl
@[simp] theorem PortBlock.expire_totals (b : PortBlock) (e : Entry) : (b.expire e).totals = b.totals := rfl
@[simp] theorem PortBlock.expire_filter (b : PortBlock) (e : Entry) : (b.expire e).filter = b.filter := rfl
@[simp] theorem PortBlock.expire_inFlight (b : PortBlock) (e : Entry) : (b.expire e).inFlight = b.inFlight := rfl
@[simp] theorem PortBlock.expire_queues (b : PortBlock) (e : Entry) : (b.expire e).queues = b.queues := rfl
@[simp] theorem PortBlock.expire_refused (b : PortBlock) (e : Entry) : (b.expire e).refused = b.refused := rfl
@[simp] theorem PortBlock.expire_values (b : PortBlock) (e : Entry) : (b.expire e).values = b.values := rfl
@[simp] theorem PortBlock.expire_deferred (b : PortBlock) (e : Entry) : (b.expire e).deferred = b.deferred := rfl
@[simp] theorem PortBlock.expire_closeOwed (b : PortBlock) (e : Entry) : (b.expire e).closeOwed = b.closeOwed := rfl
@[simp] theorem PortBlock.expire_changeOwed (b : PortBlock) (e : Entry) : (b.expire e).changeOwed = b.changeOwed := rfl
@[simp] theorem PortBlock.expire_allocDue (b : PortBlock) (e : Entry) : (b.expire e).allocDue = b.allocDue := rfl
@[simp] theorem State.expireEntry_scan (s : State) (p : Port) (t : Tag) (sched : List Port) :
    (s.expireEntry p t sched).scan = s.scan := by
  rcases s.expireEntry_cases p t sched with e | ⟨_, _, _, _, e⟩ <;> simp [e]
@[simp] theorem State.removeLapsed_scan (s : State) (p : Port) (t : Tag) : (s.removeLapsed p t).scan = s.scan := by
  rcases s.removeLapsed_cases p t with e | ⟨_, _, _, _, e⟩ <;> simp [e]
@[simp] theorem State.ageAndExamine_scan (s : State) (p : Port) (exams : List Exam) :
    (s.ageAndExamine p exams).scan = s.scan :=
  State.ageAndExamine_induct (P := fun t => t.scan = s.scan) p exams s (by simp) (by intro t _ _ h; simpa using h)
    (by intro t _ h; simpa using h)
@[simp] theorem State.expireEntry_timer (s : State) (p : Port) (t : Tag) (sched : List Port) :
    (s.expireEntry p t sched).timer = s.timer := by
  rcases s.expireEntry_cases p t sched with e | ⟨_, _, _, _, e⟩ <;> simp [e]
@[simp] theorem State.removeLapsed_timer (s : State) (p : Port) (t : Tag) : (s.removeLapsed p t).timer = s.timer := by
  rcases s.removeLapsed_cases p t with e | ⟨_, _, _, _, e⟩ <;> simp [e]
@[simp] theorem State.ageAndExamine_timer (s : State) (p : Port) (exams : List Exam) :
    (s.ageAndExamine p exams).timer = s.timer :=
  State.ageAndExamine_induct (P := fun t => t.timer = s.timer) p exams s (by simp) (by intro t _ _ h; simpa using h)
    (by intro t _ h; simpa using h)
@[simp] theorem State.expireEntry_plans (s : State) (p : Port) (t : Tag) (sched : List Port) :
    (s.expireEntry p t sched).plans = s.plans := by
  rcases s.expireEntry_cases p t sched with e | ⟨_, _, _, _, e⟩ <;> simp [e]
@[simp] theorem State.removeLapsed_plans (s : State) (p : Port) (t : Tag) : (s.removeLapsed p t).plans = s.plans := by
  rcases s.removeLapsed_cases p t with e | ⟨_, _, _, _, e⟩ <;> simp [e]
@[simp] theorem State.ageAndExamine_plans (s : State) (p : Port) (exams : List Exam) :
    (s.ageAndExamine p exams).plans = s.plans :=
  State.ageAndExamine_induct (P := fun t => t.plans = s.plans) p exams s (by simp) (by intro t _ _ h; simpa using h)
    (by intro t _ h; simpa using h)
@[simp] theorem State.expireEntry_win (s : State) (p : Port) (t : Tag) (sched : List Port) :
    (s.expireEntry p t sched).win = s.win := by
  rcases s.expireEntry_cases p t sched with e | ⟨_, _, _, _, e⟩ <;> simp [e]
@[simp] theorem State.removeLapsed_win (s : State) (p : Port) (t : Tag) : (s.removeLapsed p t).win = s.win := by
  rcases s.removeLapsed_cases p t with e | ⟨_, _, _, _, e⟩ <;> simp [e]
@[simp] theorem State.ageAndExamine_win (s : State) (p : Port) (exams : List Exam) :
    (s.ageAndExamine p exams).win = s.win :=
  State.ageAndExamine_induct (P := fun t => t.win = s.win) p exams s (by simp) (by intro t _ _ h; simpa using h)
    (by intro t _ h; simpa using h)
@[simp] theorem State.expireEntry_pending (s : State) (p : Port) (t : Tag) (sched : List Port) :
    (s.expireEntry p t sched).pending = s.pending := by
  rcases s.expireEntry_cases p t sched with e | ⟨_, _, _, _, e⟩ <;> simp [e]
@[simp] theorem State.removeLapsed_pending (s : State) (p : Port) (t : Tag) : (s.removeLapsed p t).pending = s.pending := by
  rcases s.removeLapsed_cases p t with e | ⟨_, _, _, _, e⟩ <;> simp [e]
@[simp] theorem State.ageAndExamine_pending (s : State) (p : Port) (exams : List Exam) :
    (s.ageAndExamine p exams).pending = s.pending :=
  State.ageAndExamine_induct (P := fun t => t.pending = s.pending) p exams s (by simp) (by intro t _ _ h; simpa using h)
    (by intro t _ h; simpa using h)
@[simp] theorem State.removeLapsed_link (s : State) (p : Port) (t : Tag) : (s.removeLapsed p t).link = s.link := by
  rcases s.removeLapsed_cases p t with e | ⟨_, _, _, _, e⟩ <;> simp [e]
@[simp] theorem State.removeLapsed_conduct (s : State) (p : Port) (t : Tag) : (s.removeLapsed p t).conduct = s.conduct := by
  rcases s.removeLapsed_cases p t with e | ⟨_, _, _, _, e⟩ <;> simp [e]
@[simp] theorem State.removeLapsed_mem (s : State) (p : Port) (t : Tag) : (s.removeLapsed p t).mem = s.mem := by
  rcases s.removeLapsed_cases p t with e | ⟨_, _, _, _, e⟩ <;> simp [e]

/-! What stage 4 leaves unchanged on every port. -/

@[simp] theorem State.expireEntry_ports_mode (s : State) (p q : Port) (t : Tag) (sched : List Port) :
    ((s.expireEntry p t sched).ports.get q).mode = (s.ports.get q).mode := by
  rcases s.expireEntry_cases p t sched with e | ⟨_, _, _, _, e⟩
  · rw [e]
  · rw [e, State.charge_ports_mode, State.modPort_ports_get]; split <;> simp

@[simp] theorem State.removeLapsed_ports_mode (s : State) (p q : Port) (t : Tag) :
    ((s.removeLapsed p t).ports.get q).mode = (s.ports.get q).mode := by
  rcases s.removeLapsed_cases p t with e | ⟨_, _, _, _, e⟩
  · rw [e]
  · rw [e, State.modPort_ports_get]; split <;> simp

@[simp] theorem State.ageAndExamine_ports_mode (s : State) (p q : Port) (exams : List Exam) :
    ((s.ageAndExamine p exams).ports.get q).mode = (s.ports.get q).mode :=
  State.ageAndExamine_induct (P := fun t => (t.ports.get q).mode = (s.ports.get q).mode) p exams s
    (by rw [State.modPort_ports_get]; split <;> simp) (by intro t _ _ h; simpa using h)
    (by intro t _ h; simpa using h)

@[simp] theorem State.expireEntry_ports_openEpoch (s : State) (p q : Port) (t : Tag) (sched : List Port) :
    ((s.expireEntry p t sched).ports.get q).openEpoch = (s.ports.get q).openEpoch := by
  rcases s.expireEntry_cases p t sched with e | ⟨_, _, _, _, e⟩
  · rw [e]
  · rw [e, State.charge_ports_openEpoch, State.modPort_ports_get]; split <;> simp

@[simp] theorem State.removeLapsed_ports_openEpoch (s : State) (p q : Port) (t : Tag) :
    ((s.removeLapsed p t).ports.get q).openEpoch = (s.ports.get q).openEpoch := by
  rcases s.removeLapsed_cases p t with e | ⟨_, _, _, _, e⟩
  · rw [e]
  · rw [e, State.modPort_ports_get]; split <;> simp

@[simp] theorem State.ageAndExamine_ports_openEpoch (s : State) (p q : Port) (exams : List Exam) :
    ((s.ageAndExamine p exams).ports.get q).openEpoch = (s.ports.get q).openEpoch :=
  State.ageAndExamine_induct (P := fun t => (t.ports.get q).openEpoch = (s.ports.get q).openEpoch) p exams s
    (by rw [State.modPort_ports_get]; split <;> simp) (by intro t _ _ h; simpa using h)
    (by intro t _ h; simpa using h)

@[simp] theorem State.expireEntry_ports_tagCounter (s : State) (p q : Port) (t : Tag) (sched : List Port) :
    ((s.expireEntry p t sched).ports.get q).tagCounter = (s.ports.get q).tagCounter := by
  rcases s.expireEntry_cases p t sched with e | ⟨_, _, _, _, e⟩
  · rw [e]
  · rw [e, State.charge_ports_tagCounter, State.modPort_ports_get]; split <;> simp

@[simp] theorem State.removeLapsed_ports_tagCounter (s : State) (p q : Port) (t : Tag) :
    ((s.removeLapsed p t).ports.get q).tagCounter = (s.ports.get q).tagCounter := by
  rcases s.removeLapsed_cases p t with e | ⟨_, _, _, _, e⟩
  · rw [e]
  · rw [e, State.modPort_ports_get]; split <;> simp

@[simp] theorem State.ageAndExamine_ports_tagCounter (s : State) (p q : Port) (exams : List Exam) :
    ((s.ageAndExamine p exams).ports.get q).tagCounter = (s.ports.get q).tagCounter :=
  State.ageAndExamine_induct (P := fun t => (t.ports.get q).tagCounter = (s.ports.get q).tagCounter) p exams s
    (by rw [State.modPort_ports_get]; split <;> simp) (by intro t _ _ h; simpa using h)
    (by intro t _ h; simpa using h)

@[simp] theorem State.expireEntry_ports_urgentPtr (s : State) (p q : Port) (t : Tag) (sched : List Port) :
    ((s.expireEntry p t sched).ports.get q).urgentPtr = (s.ports.get q).urgentPtr := by
  rcases s.expireEntry_cases p t sched with e | ⟨_, _, _, _, e⟩
  · rw [e]
  · rw [e, State.charge_ports_urgentPtr, State.modPort_ports_get]; split <;> simp

@[simp] theorem State.removeLapsed_ports_urgentPtr (s : State) (p q : Port) (t : Tag) :
    ((s.removeLapsed p t).ports.get q).urgentPtr = (s.ports.get q).urgentPtr := by
  rcases s.removeLapsed_cases p t with e | ⟨_, _, _, _, e⟩
  · rw [e]
  · rw [e, State.modPort_ports_get]; split <;> simp

@[simp] theorem State.ageAndExamine_ports_urgentPtr (s : State) (p q : Port) (exams : List Exam) :
    ((s.ageAndExamine p exams).ports.get q).urgentPtr = (s.ports.get q).urgentPtr :=
  State.ageAndExamine_induct (P := fun t => (t.ports.get q).urgentPtr = (s.ports.get q).urgentPtr) p exams s
    (by rw [State.modPort_ports_get]; split <;> simp) (by intro t _ _ h; simpa using h)
    (by intro t _ h; simpa using h)

@[simp] theorem State.expireEntry_ports_bulkPtr (s : State) (p q : Port) (t : Tag) (sched : List Port) :
    ((s.expireEntry p t sched).ports.get q).bulkPtr = (s.ports.get q).bulkPtr := by
  rcases s.expireEntry_cases p t sched with e | ⟨_, _, _, _, e⟩
  · rw [e]
  · rw [e, State.charge_ports_bulkPtr, State.modPort_ports_get]; split <;> simp

@[simp] theorem State.removeLapsed_ports_bulkPtr (s : State) (p q : Port) (t : Tag) :
    ((s.removeLapsed p t).ports.get q).bulkPtr = (s.ports.get q).bulkPtr := by
  rcases s.removeLapsed_cases p t with e | ⟨_, _, _, _, e⟩
  · rw [e]
  · rw [e, State.modPort_ports_get]; split <;> simp

@[simp] theorem State.ageAndExamine_ports_bulkPtr (s : State) (p q : Port) (exams : List Exam) :
    ((s.ageAndExamine p exams).ports.get q).bulkPtr = (s.ports.get q).bulkPtr :=
  State.ageAndExamine_induct (P := fun t => (t.ports.get q).bulkPtr = (s.ports.get q).bulkPtr) p exams s
    (by rw [State.modPort_ports_get]; split <;> simp) (by intro t _ _ h; simpa using h)
    (by intro t _ h; simpa using h)

@[simp] theorem State.expireEntry_ports_capacity (s : State) (p q : Port) (t : Tag) (sched : List Port) :
    ((s.expireEntry p t sched).ports.get q).capacity = (s.ports.get q).capacity := by
  rcases s.expireEntry_cases p t sched with e | ⟨_, _, _, _, e⟩
  · rw [e]
  · rw [e, State.charge_ports_capacity, State.modPort_ports_get]; split <;> simp

@[simp] theorem State.removeLapsed_ports_capacity (s : State) (p q : Port) (t : Tag) :
    ((s.removeLapsed p t).ports.get q).capacity = (s.ports.get q).capacity := by
  rcases s.removeLapsed_cases p t with e | ⟨_, _, _, _, e⟩
  · rw [e]
  · rw [e, State.modPort_ports_get]; split <;> simp

@[simp] theorem State.ageAndExamine_ports_capacity (s : State) (p q : Port) (exams : List Exam) :
    ((s.ageAndExamine p exams).ports.get q).capacity = (s.ports.get q).capacity :=
  State.ageAndExamine_induct (P := fun t => (t.ports.get q).capacity = (s.ports.get q).capacity) p exams s
    (by rw [State.modPort_ports_get]; split <;> simp) (by intro t _ _ h; simpa using h)
    (by intro t _ h; simpa using h)

@[simp] theorem State.expireEntry_ports_served (s : State) (p q : Port) (t : Tag) (sched : List Port) :
    ((s.expireEntry p t sched).ports.get q).served = (s.ports.get q).served := by
  rcases s.expireEntry_cases p t sched with e | ⟨_, _, _, _, e⟩
  · rw [e]
  · rw [e, State.charge_ports_served, State.modPort_ports_get]; split <;> simp

@[simp] theorem State.removeLapsed_ports_served (s : State) (p q : Port) (t : Tag) :
    ((s.removeLapsed p t).ports.get q).served = (s.ports.get q).served := by
  rcases s.removeLapsed_cases p t with e | ⟨_, _, _, _, e⟩
  · rw [e]
  · rw [e, State.modPort_ports_get]; split <;> simp

@[simp] theorem State.ageAndExamine_ports_served (s : State) (p q : Port) (exams : List Exam) :
    ((s.ageAndExamine p exams).ports.get q).served = (s.ports.get q).served :=
  State.ageAndExamine_induct (P := fun t => (t.ports.get q).served = (s.ports.get q).served) p exams s
    (by rw [State.modPort_ports_get]; split <;> simp) (by intro t _ _ h; simpa using h)
    (by intro t _ h; simpa using h)

@[simp] theorem State.expireEntry_ports_totals (s : State) (p q : Port) (t : Tag) (sched : List Port) :
    ((s.expireEntry p t sched).ports.get q).totals = (s.ports.get q).totals := by
  rcases s.expireEntry_cases p t sched with e | ⟨_, _, _, _, e⟩
  · rw [e]
  · rw [e, State.charge_ports_totals, State.modPort_ports_get]; split <;> simp

@[simp] theorem State.removeLapsed_ports_totals (s : State) (p q : Port) (t : Tag) :
    ((s.removeLapsed p t).ports.get q).totals = (s.ports.get q).totals := by
  rcases s.removeLapsed_cases p t with e | ⟨_, _, _, _, e⟩
  · rw [e]
  · rw [e, State.modPort_ports_get]; split <;> simp

@[simp] theorem State.ageAndExamine_ports_totals (s : State) (p q : Port) (exams : List Exam) :
    ((s.ageAndExamine p exams).ports.get q).totals = (s.ports.get q).totals :=
  State.ageAndExamine_induct (P := fun t => (t.ports.get q).totals = (s.ports.get q).totals) p exams s
    (by rw [State.modPort_ports_get]; split <;> simp) (by intro t _ _ h; simpa using h)
    (by intro t _ h; simpa using h)

@[simp] theorem State.expireEntry_ports_filter (s : State) (p q : Port) (t : Tag) (sched : List Port) :
    ((s.expireEntry p t sched).ports.get q).filter = (s.ports.get q).filter := by
  rcases s.expireEntry_cases p t sched with e | ⟨_, _, _, _, e⟩
  · rw [e]
  · rw [e, State.charge_ports_filter, State.modPort_ports_get]; split <;> simp

@[simp] theorem State.removeLapsed_ports_filter (s : State) (p q : Port) (t : Tag) :
    ((s.removeLapsed p t).ports.get q).filter = (s.ports.get q).filter := by
  rcases s.removeLapsed_cases p t with e | ⟨_, _, _, _, e⟩
  · rw [e]
  · rw [e, State.modPort_ports_get]; split <;> simp

@[simp] theorem State.ageAndExamine_ports_filter (s : State) (p q : Port) (exams : List Exam) :
    ((s.ageAndExamine p exams).ports.get q).filter = (s.ports.get q).filter :=
  State.ageAndExamine_induct (P := fun t => (t.ports.get q).filter = (s.ports.get q).filter) p exams s
    (by rw [State.modPort_ports_get]; split <;> simp) (by intro t _ _ h; simpa using h)
    (by intro t _ h; simpa using h)

@[simp] theorem State.expireEntry_ports_refused (s : State) (p q : Port) (t : Tag) (sched : List Port) :
    ((s.expireEntry p t sched).ports.get q).refused = (s.ports.get q).refused := by
  rcases s.expireEntry_cases p t sched with e | ⟨_, _, _, _, e⟩
  · rw [e]
  · rw [e, State.charge_ports_refused, State.modPort_ports_get]; split <;> simp

@[simp] theorem State.removeLapsed_ports_refused (s : State) (p q : Port) (t : Tag) :
    ((s.removeLapsed p t).ports.get q).refused = (s.ports.get q).refused := by
  rcases s.removeLapsed_cases p t with e | ⟨_, _, _, _, e⟩
  · rw [e]
  · rw [e, State.modPort_ports_get]; split <;> simp

@[simp] theorem State.ageAndExamine_ports_refused (s : State) (p q : Port) (exams : List Exam) :
    ((s.ageAndExamine p exams).ports.get q).refused = (s.ports.get q).refused :=
  State.ageAndExamine_induct (P := fun t => (t.ports.get q).refused = (s.ports.get q).refused) p exams s
    (by rw [State.modPort_ports_get]; split <;> simp) (by intro t _ _ h; simpa using h)
    (by intro t _ h; simpa using h)

@[simp] theorem State.expireEntry_ports_values (s : State) (p q : Port) (t : Tag) (sched : List Port) :
    ((s.expireEntry p t sched).ports.get q).values = (s.ports.get q).values := by
  rcases s.expireEntry_cases p t sched with e | ⟨_, _, _, _, e⟩
  · rw [e]
  · rw [e, State.charge_ports_values, State.modPort_ports_get]; split <;> simp

@[simp] theorem State.removeLapsed_ports_values (s : State) (p q : Port) (t : Tag) :
    ((s.removeLapsed p t).ports.get q).values = (s.ports.get q).values := by
  rcases s.removeLapsed_cases p t with e | ⟨_, _, _, _, e⟩
  · rw [e]
  · rw [e, State.modPort_ports_get]; split <;> simp

@[simp] theorem State.ageAndExamine_ports_values (s : State) (p q : Port) (exams : List Exam) :
    ((s.ageAndExamine p exams).ports.get q).values = (s.ports.get q).values :=
  State.ageAndExamine_induct (P := fun t => (t.ports.get q).values = (s.ports.get q).values) p exams s
    (by rw [State.modPort_ports_get]; split <;> simp) (by intro t _ _ h; simpa using h)
    (by intro t _ h; simpa using h)

@[simp] theorem State.expireEntry_ports_deferred (s : State) (p q : Port) (t : Tag) (sched : List Port) :
    ((s.expireEntry p t sched).ports.get q).deferred = (s.ports.get q).deferred := by
  rcases s.expireEntry_cases p t sched with e | ⟨_, _, _, _, e⟩
  · rw [e]
  · rw [e, State.charge_ports_deferred, State.modPort_ports_get]; split <;> simp

@[simp] theorem State.removeLapsed_ports_deferred (s : State) (p q : Port) (t : Tag) :
    ((s.removeLapsed p t).ports.get q).deferred = (s.ports.get q).deferred := by
  rcases s.removeLapsed_cases p t with e | ⟨_, _, _, _, e⟩
  · rw [e]
  · rw [e, State.modPort_ports_get]; split <;> simp

@[simp] theorem State.ageAndExamine_ports_deferred (s : State) (p q : Port) (exams : List Exam) :
    ((s.ageAndExamine p exams).ports.get q).deferred = (s.ports.get q).deferred :=
  State.ageAndExamine_induct (P := fun t => (t.ports.get q).deferred = (s.ports.get q).deferred) p exams s
    (by rw [State.modPort_ports_get]; split <;> simp) (by intro t _ _ h; simpa using h)
    (by intro t _ h; simpa using h)

@[simp] theorem State.expireEntry_ports_closeOwed (s : State) (p q : Port) (t : Tag) (sched : List Port) :
    ((s.expireEntry p t sched).ports.get q).closeOwed = (s.ports.get q).closeOwed := by
  rcases s.expireEntry_cases p t sched with e | ⟨_, _, _, _, e⟩
  · rw [e]
  · rw [e, State.charge_ports_closeOwed, State.modPort_ports_get]; split <;> simp

@[simp] theorem State.removeLapsed_ports_closeOwed (s : State) (p q : Port) (t : Tag) :
    ((s.removeLapsed p t).ports.get q).closeOwed = (s.ports.get q).closeOwed := by
  rcases s.removeLapsed_cases p t with e | ⟨_, _, _, _, e⟩
  · rw [e]
  · rw [e, State.modPort_ports_get]; split <;> simp

@[simp] theorem State.ageAndExamine_ports_closeOwed (s : State) (p q : Port) (exams : List Exam) :
    ((s.ageAndExamine p exams).ports.get q).closeOwed = (s.ports.get q).closeOwed :=
  State.ageAndExamine_induct (P := fun t => (t.ports.get q).closeOwed = (s.ports.get q).closeOwed) p exams s
    (by rw [State.modPort_ports_get]; split <;> simp) (by intro t _ _ h; simpa using h)
    (by intro t _ h; simpa using h)

@[simp] theorem State.expireEntry_ports_changeOwed (s : State) (p q : Port) (t : Tag) (sched : List Port) :
    ((s.expireEntry p t sched).ports.get q).changeOwed = (s.ports.get q).changeOwed := by
  rcases s.expireEntry_cases p t sched with e | ⟨_, _, _, _, e⟩
  · rw [e]
  · rw [e, State.charge_ports_changeOwed, State.modPort_ports_get]; split <;> simp

@[simp] theorem State.removeLapsed_ports_changeOwed (s : State) (p q : Port) (t : Tag) :
    ((s.removeLapsed p t).ports.get q).changeOwed = (s.ports.get q).changeOwed := by
  rcases s.removeLapsed_cases p t with e | ⟨_, _, _, _, e⟩
  · rw [e]
  · rw [e, State.modPort_ports_get]; split <;> simp

@[simp] theorem State.ageAndExamine_ports_changeOwed (s : State) (p q : Port) (exams : List Exam) :
    ((s.ageAndExamine p exams).ports.get q).changeOwed = (s.ports.get q).changeOwed :=
  State.ageAndExamine_induct (P := fun t => (t.ports.get q).changeOwed = (s.ports.get q).changeOwed) p exams s
    (by rw [State.modPort_ports_get]; split <;> simp) (by intro t _ _ h; simpa using h)
    (by intro t _ h; simpa using h)

@[simp] theorem State.expireEntry_ports_allocDue (s : State) (p q : Port) (t : Tag) (sched : List Port) :
    ((s.expireEntry p t sched).ports.get q).allocDue = (s.ports.get q).allocDue := by
  rcases s.expireEntry_cases p t sched with e | ⟨_, _, _, _, e⟩
  · rw [e]
  · rw [e, State.charge_ports_allocDue, State.modPort_ports_get]; split <;> simp

@[simp] theorem State.removeLapsed_ports_allocDue (s : State) (p q : Port) (t : Tag) :
    ((s.removeLapsed p t).ports.get q).allocDue = (s.ports.get q).allocDue := by
  rcases s.removeLapsed_cases p t with e | ⟨_, _, _, _, e⟩
  · rw [e]
  · rw [e, State.modPort_ports_get]; split <;> simp

@[simp] theorem State.ageAndExamine_ports_allocDue (s : State) (p q : Port) (exams : List Exam) :
    ((s.ageAndExamine p exams).ports.get q).allocDue = (s.ports.get q).allocDue :=
  State.ageAndExamine_induct (P := fun t => (t.ports.get q).allocDue = (s.ports.get q).allocDue) p exams s
    (by rw [State.modPort_ports_get]; split <;> simp) (by intro t _ _ h; simpa using h)
    (by intro t _ h; simpa using h)

end Sys2Proof.Machine
end

