-- ==== Sys2Proof/Laws/Formats.lean ====
section
/-! SUPPORT. Laws of the little-endian fields: lengths, what a field that was written reads as, and fields of joined
bytes. -/

namespace Sys2Proof.Machine

@[simp] theorem length_leBytes (n v : Nat) : (leBytes n v).length = n := by
  induction n generalizing v with
  | zero => rfl
  | succ n ih => simp [leBytes, ih]

@[simp] theorem length_zeros (n : Nat) : (zeros n).length = n := List.length_replicate

/-- The bytes of a value give back its low bytes. -/
@[simp] theorem leValue_leBytes (n v : Nat) : leValue (leBytes n v) = v % 256 ^ n := by
  induction n generalizing v with
  | zero => simp [leBytes, leValue, Nat.mod_one]
  | succ n ih =>
    simp only [leBytes, leValue, ih, BitVec.toNat_ofNat]
    rw [pow_succ' 256 n, Nat.mod_mul]

@[simp] theorem leValue_zeros (n : Nat) : leValue (zeros n) = 0 := by
  induction n with
  | zero => rfl
  | succ n ih => simpa [zeros, List.replicate_succ, leValue] using ih

/-- A field that lies after the first part is the second part's. -/
theorem field_append_right (a b : List Byte) (off size : Nat) (h : a.length ≤ off) :
    field (a ++ b) off size = field b (off - a.length) size := by
  simp [field, List.drop_append, List.drop_eq_nil_of_le h]

/-- A field that lies within the first part is the first part's. -/
theorem field_append_left (a b : List Byte) (off size : Nat) (h : off + size ≤ a.length) :
    field (a ++ b) off size = field a off size := by
  unfold field
  rw [List.drop_append_of_le_length (by omega), List.take_append_of_le_length (by simp; omega)]

/-- The field written first reads as its value. -/
theorem field_leBytes (n v : Nat) (b : List Byte) : field (leBytes n v ++ b) 0 n = v % 256 ^ n := by
  rw [field_append_left _ _ _ _ (by simp)]
  simp [field, List.take_of_length_le]

/-- A field of a part of the bytes is a field of the whole. -/
theorem field_of_part (b : List Byte) (start len off size : Nat) (h : off + size ≤ len) :
    field ((b.drop start).take len) off size = field b (start + off) size := by
  unfold field
  rw [List.drop_take, List.drop_drop, List.take_take, Nat.min_eq_left (by omega)]

end Sys2Proof.Machine
end

