-- ==== Sys2Proof/Laws/Units.lean ====
section
/-! SUPPORT. What the operations of the epoch timer, the plan unit, the queue table and the memory side can do, and what
they leave unchanged. -/

namespace Sys2Proof.Machine

set_option Elab.async false

/-! ### Making a boundary (R121, R127) -/

/-- All that a boundary does to the read of the host half (R149 to R151). -/
theorem MemSide.readAtBoundary_cases (m : MemSide) :
    (m.mode = .faulted ∧ m.readAtBoundary = m) ∨
    (m.mode = .serving ∧ m.readAtBoundary = { m with
      abandoned := if m.read.isSome then m.abandoned + 1 else m.abandoned
      read := some { resumption := m.read.any HostRead.resumption, writes := m.partHalf.isNone } }) := by
  unfold MemSide.readAtBoundary
  cases h : m.mode <;> simp

@[simp] theorem MemSide.readAtBoundary_mode (m : MemSide) : m.readAtBoundary.mode = m.mode := by
  rcases m.readAtBoundary_cases with ⟨_, e⟩ | ⟨_, e⟩ <;> rw [e]
@[simp] theorem MemSide.readAtBoundary_region (m : MemSide) : m.readAtBoundary.region = m.region := by
  rcases m.readAtBoundary_cases with ⟨_, e⟩ | ⟨_, e⟩ <;> rw [e]
@[simp] theorem MemSide.readAtBoundary_journalBase (m : MemSide) : m.readAtBoundary.journalBase = m.journalBase := by
  rcases m.readAtBoundary_cases with ⟨_, e⟩ | ⟨_, e⟩ <;> rw [e]
@[simp] theorem MemSide.readAtBoundary_capacity (m : MemSide) : m.readAtBoundary.capacity = m.capacity := by
  rcases m.readAtBoundary_cases with ⟨_, e⟩ | ⟨_, e⟩ <;> rw [e]
@[simp] theorem MemSide.readAtBoundary_usageBase (m : MemSide) : m.readAtBoundary.usageBase = m.usageBase := by
  rcases m.readAtBoundary_cases with ⟨_, e⟩ | ⟨_, e⟩ <;> rw [e]
@[simp] theorem MemSide.readAtBoundary_signalAddr (m : MemSide) : m.readAtBoundary.signalAddr = m.signalAddr := by
  rcases m.readAtBoundary_cases with ⟨_, e⟩ | ⟨_, e⟩ <;> rw [e]
@[simp] theorem MemSide.readAtBoundary_signalValue (m : MemSide) : m.readAtBoundary.signalValue = m.signalValue := by
  rcases m.readAtBoundary_cases with ⟨_, e⟩ | ⟨_, e⟩ <;> rw [e]
@[simp] theorem MemSide.readAtBoundary_signalMask (m : MemSide) : m.readAtBoundary.signalMask = m.signalMask := by
  rcases m.readAtBoundary_cases with ⟨_, e⟩ | ⟨_, e⟩ <;> rw [e]
@[simp] theorem MemSide.readAtBoundary_produced (m : MemSide) : m.readAtBoundary.produced = m.produced := by
  rcases m.readAtBoundary_cases with ⟨_, e⟩ | ⟨_, e⟩ <;> rw [e]
@[simp] theorem MemSide.readAtBoundary_consumed (m : MemSide) : m.readAtBoundary.consumed = m.consumed := by
  rcases m.readAtBoundary_cases with ⟨_, e⟩ | ⟨_, e⟩ <;> rw [e]
@[simp] theorem MemSide.readAtBoundary_notices (m : MemSide) : m.readAtBoundary.notices = m.notices := by
  rcases m.readAtBoundary_cases with ⟨_, e⟩ | ⟨_, e⟩ <;> rw [e]
@[simp] theorem MemSide.readAtBoundary_slots (m : MemSide) : m.readAtBoundary.slots = m.slots := by
  rcases m.readAtBoundary_cases with ⟨_, e⟩ | ⟨_, e⟩ <;> rw [e]
@[simp] theorem MemSide.readAtBoundary_lapsed (m : MemSide) : m.readAtBoundary.lapsed = m.lapsed := by
  rcases m.readAtBoundary_cases with ⟨_, e⟩ | ⟨_, e⟩ <;> rw [e]
@[simp] theorem MemSide.readAtBoundary_armed (m : MemSide) : m.readAtBoundary.armed = m.armed := by
  rcases m.readAtBoundary_cases with ⟨_, e⟩ | ⟨_, e⟩ <;> rw [e]
@[simp] theorem MemSide.readAtBoundary_noted (m : MemSide) : m.readAtBoundary.noted = m.noted := by
  rcases m.readAtBoundary_cases with ⟨_, e⟩ | ⟨_, e⟩ <;> rw [e]
@[simp] theorem MemSide.readAtBoundary_signalDue (m : MemSide) : m.readAtBoundary.signalDue = m.signalDue := by
  rcases m.readAtBoundary_cases with ⟨_, e⟩ | ⟨_, e⟩ <;> rw [e]
@[simp] theorem MemSide.readAtBoundary_stmtCount (m : MemSide) : m.readAtBoundary.stmtCount = m.stmtCount := by
  rcases m.readAtBoundary_cases with ⟨_, e⟩ | ⟨_, e⟩ <;> rw [e]
@[simp] theorem MemSide.readAtBoundary_stmtNumber (m : MemSide) : m.readAtBoundary.stmtNumber = m.stmtNumber := by
  rcases m.readAtBoundary_cases with ⟨_, e⟩ | ⟨_, e⟩ <;> rw [e]
@[simp] theorem MemSide.readAtBoundary_stmtOwed (m : MemSide) : m.readAtBoundary.stmtOwed = m.stmtOwed := by
  rcases m.readAtBoundary_cases with ⟨_, e⟩ | ⟨_, e⟩ <;> rw [e]
@[simp] theorem MemSide.readAtBoundary_statement (m : MemSide) : m.readAtBoundary.statement = m.statement := by
  rcases m.readAtBoundary_cases with ⟨_, e⟩ | ⟨_, e⟩ <;> rw [e]
@[simp] theorem MemSide.readAtBoundary_pass (m : MemSide) : m.readAtBoundary.pass = m.pass := by
  rcases m.readAtBoundary_cases with ⟨_, e⟩ | ⟨_, e⟩ <;> rw [e]
@[simp] theorem MemSide.readAtBoundary_passQueue (m : MemSide) : m.readAtBoundary.passQueue = m.passQueue := by
  rcases m.readAtBoundary_cases with ⟨_, e⟩ | ⟨_, e⟩ <;> rw [e]
@[simp] theorem MemSide.readAtBoundary_rewrite (m : MemSide) : m.readAtBoundary.rewrite = m.rewrite := by
  rcases m.readAtBoundary_cases with ⟨_, e⟩ | ⟨_, e⟩ <;> rw [e]
@[simp] theorem MemSide.readAtBoundary_journalWrite (m : MemSide) : m.readAtBoundary.journalWrite = m.journalWrite := by
  rcases m.readAtBoundary_cases with ⟨_, e⟩ | ⟨_, e⟩ <;> rw [e]
@[simp] theorem MemSide.readAtBoundary_partHalf (m : MemSide) : m.readAtBoundary.partHalf = m.partHalf := by
  rcases m.readAtBoundary_cases with ⟨_, e⟩ | ⟨_, e⟩ <;> rw [e]
@[simp] theorem MemSide.readAtBoundary_writesOwed (m : MemSide) : m.readAtBoundary.writesOwed = m.writesOwed := by
  rcases m.readAtBoundary_cases with ⟨_, e⟩ | ⟨_, e⟩ <;> rw [e]
@[simp] theorem MemSide.readAtBoundary_signalWrites (m : MemSide) : m.readAtBoundary.signalWrites = m.signalWrites := by
  rcases m.readAtBoundary_cases with ⟨_, e⟩ | ⟨_, e⟩ <;> rw [e]

/-- All that an abandoned read leaves to do (R151). -/
theorem State.writeAbandoned_cases (s : State) (r : Option HostRead) :
    s.writeAbandoned r = s ∨ s.writeAbandoned r = s.duePartHalf false := by
  unfold State.writeAbandoned
  split <;> simp

@[simp] theorem State.writeAbandoned_link (s : State) (r : Option HostRead) : (s.writeAbandoned r).link = s.link := by
  rcases s.writeAbandoned_cases r with e | e <;> simp [e]
@[simp] theorem State.writeAbandoned_ports (s : State) (r : Option HostRead) : (s.writeAbandoned r).ports = s.ports := by
  rcases s.writeAbandoned_cases r with e | e <;> simp [e]
@[simp] theorem State.writeAbandoned_conduct (s : State) (r : Option HostRead) : (s.writeAbandoned r).conduct = s.conduct := by
  rcases s.writeAbandoned_cases r with e | e <;> simp [e]
@[simp] theorem State.writeAbandoned_scan (s : State) (r : Option HostRead) : (s.writeAbandoned r).scan = s.scan := by
  rcases s.writeAbandoned_cases r with e | e <;> simp [e]
@[simp] theorem State.writeAbandoned_timer (s : State) (r : Option HostRead) : (s.writeAbandoned r).timer = s.timer := by
  rcases s.writeAbandoned_cases r with e | e <;> simp [e]
@[simp] theorem State.writeAbandoned_plans (s : State) (r : Option HostRead) : (s.writeAbandoned r).plans = s.plans := by
  rcases s.writeAbandoned_cases r with e | e <;> simp [e]
@[simp] theorem State.writeAbandoned_win (s : State) (r : Option HostRead) : (s.writeAbandoned r).win = s.win := by
  rcases s.writeAbandoned_cases r with e | e <;> simp [e]
@[simp] theorem State.writeAbandoned_pending (s : State) (r : Option HostRead) : (s.writeAbandoned r).pending = s.pending := by
  rcases s.writeAbandoned_cases r with e | e <;> simp [e]
@[simp] theorem State.writeAbandoned_mem_mode (s : State) (r : Option HostRead) :
    (s.writeAbandoned r).mem.mode = s.mem.mode := by
  rcases s.writeAbandoned_cases r with e | e <;> simp [e]
@[simp] theorem State.writeAbandoned_mem_region (s : State) (r : Option HostRead) :
    (s.writeAbandoned r).mem.region = s.mem.region := by
  rcases s.writeAbandoned_cases r with e | e <;> simp [e]
@[simp] theorem State.writeAbandoned_mem_journalBase (s : State) (r : Option HostRead) :
    (s.writeAbandoned r).mem.journalBase = s.mem.journalBase := by
  rcases s.writeAbandoned_cases r with e | e <;> simp [e]
@[simp] theorem State.writeAbandoned_mem_capacity (s : State) (r : Option HostRead) :
    (s.writeAbandoned r).mem.capacity = s.mem.capacity := by
  rcases s.writeAbandoned_cases r with e | e <;> simp [e]
@[simp] theorem State.writeAbandoned_mem_usageBase (s : State) (r : Option HostRead) :
    (s.writeAbandoned r).mem.usageBase = s.mem.usageBase := by
  rcases s.writeAbandoned_cases r with e | e <;> simp [e]
@[simp] theorem State.writeAbandoned_mem_signalAddr (s : State) (r : Option HostRead) :
    (s.writeAbandoned r).mem.signalAddr = s.mem.signalAddr := by
  rcases s.writeAbandoned_cases r with e | e <;> simp [e]
@[simp] theorem State.writeAbandoned_mem_signalValue (s : State) (r : Option HostRead) :
    (s.writeAbandoned r).mem.signalValue = s.mem.signalValue := by
  rcases s.writeAbandoned_cases r with e | e <;> simp [e]
@[simp] theorem State.writeAbandoned_mem_signalMask (s : State) (r : Option HostRead) :
    (s.writeAbandoned r).mem.signalMask = s.mem.signalMask := by
  rcases s.writeAbandoned_cases r with e | e <;> simp [e]
@[simp] theorem State.writeAbandoned_mem_produced (s : State) (r : Option HostRead) :
    (s.writeAbandoned r).mem.produced = s.mem.produced := by
  rcases s.writeAbandoned_cases r with e | e <;> simp [e]
@[simp] theorem State.writeAbandoned_mem_consumed (s : State) (r : Option HostRead) :
    (s.writeAbandoned r).mem.consumed = s.mem.consumed := by
  rcases s.writeAbandoned_cases r with e | e <;> simp [e]
@[simp] theorem State.writeAbandoned_mem_notices (s : State) (r : Option HostRead) :
    (s.writeAbandoned r).mem.notices = s.mem.notices := by
  rcases s.writeAbandoned_cases r with e | e <;> simp [e]
@[simp] theorem State.writeAbandoned_mem_slots (s : State) (r : Option HostRead) :
    (s.writeAbandoned r).mem.slots = s.mem.slots := by
  rcases s.writeAbandoned_cases r with e | e <;> simp [e]
@[simp] theorem State.writeAbandoned_mem_lapsed (s : State) (r : Option HostRead) :
    (s.writeAbandoned r).mem.lapsed = s.mem.lapsed := by
  rcases s.writeAbandoned_cases r with e | e <;> simp [e]
@[simp] theorem State.writeAbandoned_mem_armed (s : State) (r : Option HostRead) :
    (s.writeAbandoned r).mem.armed = s.mem.armed := by
  rcases s.writeAbandoned_cases r with e | e <;> simp [e]
@[simp] theorem State.writeAbandoned_mem_noted (s : State) (r : Option HostRead) :
    (s.writeAbandoned r).mem.noted = s.mem.noted := by
  rcases s.writeAbandoned_cases r with e | e <;> simp [e]
@[simp] theorem State.writeAbandoned_mem_stmtCount (s : State) (r : Option HostRead) :
    (s.writeAbandoned r).mem.stmtCount = s.mem.stmtCount := by
  rcases s.writeAbandoned_cases r with e | e <;> simp [e]
@[simp] theorem State.writeAbandoned_mem_stmtNumber (s : State) (r : Option HostRead) :
    (s.writeAbandoned r).mem.stmtNumber = s.mem.stmtNumber := by
  rcases s.writeAbandoned_cases r with e | e <;> simp [e]
@[simp] theorem State.writeAbandoned_mem_stmtOwed (s : State) (r : Option HostRead) :
    (s.writeAbandoned r).mem.stmtOwed = s.mem.stmtOwed := by
  rcases s.writeAbandoned_cases r with e | e <;> simp [e]
@[simp] theorem State.writeAbandoned_mem_statement (s : State) (r : Option HostRead) :
    (s.writeAbandoned r).mem.statement = s.mem.statement := by
  rcases s.writeAbandoned_cases r with e | e <;> simp [e]
@[simp] theorem State.writeAbandoned_mem_pass (s : State) (r : Option HostRead) :
    (s.writeAbandoned r).mem.pass = s.mem.pass := by
  rcases s.writeAbandoned_cases r with e | e <;> simp [e]
@[simp] theorem State.writeAbandoned_mem_passQueue (s : State) (r : Option HostRead) :
    (s.writeAbandoned r).mem.passQueue = s.mem.passQueue := by
  rcases s.writeAbandoned_cases r with e | e <;> simp [e]
@[simp] theorem State.writeAbandoned_mem_rewrite (s : State) (r : Option HostRead) :
    (s.writeAbandoned r).mem.rewrite = s.mem.rewrite := by
  rcases s.writeAbandoned_cases r with e | e <;> simp [e]
@[simp] theorem State.writeAbandoned_mem_journalWrite (s : State) (r : Option HostRead) :
    (s.writeAbandoned r).mem.journalWrite = s.mem.journalWrite := by
  rcases s.writeAbandoned_cases r with e | e <;> simp [e]
@[simp] theorem State.writeAbandoned_mem_signalWrites (s : State) (r : Option HostRead) :
    (s.writeAbandoned r).mem.signalWrites = s.mem.signalWrites := by
  rcases s.writeAbandoned_cases r with e | e <;> simp [e]
@[simp] theorem State.writeAbandoned_mem_read (s : State) (r : Option HostRead) :
    (s.writeAbandoned r).mem.read = s.mem.read := by
  rcases s.writeAbandoned_cases r with e | e <;> simp [e]
@[simp] theorem State.writeAbandoned_mem_abandoned (s : State) (r : Option HostRead) :
    (s.writeAbandoned r).mem.abandoned = s.mem.abandoned := by
  rcases s.writeAbandoned_cases r with e | e <;> simp [e]

@[simp] theorem State.makeBoundary_link (s : State) (now : Moment) (e : Epoch) (due : Moment) :
    (s.makeBoundary now e due).link = s.link := by simp [State.makeBoundary, State.spreadBoundary]
@[simp] theorem State.makeBoundary_win (s : State) (now : Moment) (e : Epoch) (due : Moment) :
    (s.makeBoundary now e due).win = s.win := by simp [State.makeBoundary, State.spreadBoundary]
@[simp] theorem State.makeBoundary_pending (s : State) (now : Moment) (e : Epoch) (due : Moment) :
    (s.makeBoundary now e due).pending = s.pending := by simp [State.makeBoundary, State.spreadBoundary]
@[simp] theorem State.makeBoundary_timer (s : State) (now : Moment) (e : Epoch) (due : Moment) :
    (s.makeBoundary now e due).timer = s.timer.makeBoundary now e due := by simp [State.makeBoundary, State.spreadBoundary]

/-- Each share engine and each arbiter owes the new boundary (R121). -/
@[simp] theorem State.makeBoundary_ports_get (s : State) (now : Moment) (e : Epoch) (due : Moment) (p : Port) :
    (s.makeBoundary now e due).ports.get p =
      { s.ports.get p with
        closeOwed := (s.ports.get p).closeOwed ++ [e], changeOwed := (s.ports.get p).changeOwed ++ [e] } := by
  simp [State.makeBoundary, State.spreadBoundary]

@[simp] theorem State.makeBoundary_conduct (s : State) (now : Moment) (e : Epoch) (due : Moment) :
    (s.makeBoundary now e due).conduct = { s.conduct with owed := s.conduct.owed ++ [e] } := by simp [State.makeBoundary, State.spreadBoundary]

@[simp] theorem State.makeBoundary_scan (s : State) (now : Moment) (e : Epoch) (due : Moment) :
    (s.makeBoundary now e due).scan = { s.scan with owed := s.scan.owed ++ [e] } := by simp [State.makeBoundary, State.spreadBoundary]

@[simp] theorem State.makeBoundary_plans (s : State) (now : Moment) (e : Epoch) (due : Moment) :
    (s.makeBoundary now e due).plans = { s.plans with
      owed := s.plans.owed ++ [{ epoch := e, hold := s.plans.hold, ripe := s.plans.staged.isSome }] } := by simp [State.makeBoundary, State.spreadBoundary]

@[simp] theorem State.makeBoundary_mem_mode (s : State) (now : Moment) (e : Epoch) (due : Moment) :
    (s.makeBoundary now e due).mem.mode = s.mem.mode := by simp [State.makeBoundary, State.spreadBoundary]
@[simp] theorem State.makeBoundary_mem_region (s : State) (now : Moment) (e : Epoch) (due : Moment) :
    (s.makeBoundary now e due).mem.region = s.mem.region := by simp [State.makeBoundary, State.spreadBoundary]
@[simp] theorem State.makeBoundary_mem_journalBase (s : State) (now : Moment) (e : Epoch) (due : Moment) :
    (s.makeBoundary now e due).mem.journalBase = s.mem.journalBase := by simp [State.makeBoundary, State.spreadBoundary]
@[simp] theorem State.makeBoundary_mem_capacity (s : State) (now : Moment) (e : Epoch) (due : Moment) :
    (s.makeBoundary now e due).mem.capacity = s.mem.capacity := by simp [State.makeBoundary, State.spreadBoundary]
@[simp] theorem State.makeBoundary_mem_usageBase (s : State) (now : Moment) (e : Epoch) (due : Moment) :
    (s.makeBoundary now e due).mem.usageBase = s.mem.usageBase := by simp [State.makeBoundary, State.spreadBoundary]
@[simp] theorem State.makeBoundary_mem_signalAddr (s : State) (now : Moment) (e : Epoch) (due : Moment) :
    (s.makeBoundary now e due).mem.signalAddr = s.mem.signalAddr := by simp [State.makeBoundary, State.spreadBoundary]
@[simp] theorem State.makeBoundary_mem_signalValue (s : State) (now : Moment) (e : Epoch) (due : Moment) :
    (s.makeBoundary now e due).mem.signalValue = s.mem.signalValue := by simp [State.makeBoundary, State.spreadBoundary]
@[simp] theorem State.makeBoundary_mem_signalMask (s : State) (now : Moment) (e : Epoch) (due : Moment) :
    (s.makeBoundary now e due).mem.signalMask = s.mem.signalMask := by simp [State.makeBoundary, State.spreadBoundary]
@[simp] theorem State.makeBoundary_mem_produced (s : State) (now : Moment) (e : Epoch) (due : Moment) :
    (s.makeBoundary now e due).mem.produced = s.mem.produced := by simp [State.makeBoundary, State.spreadBoundary]
@[simp] theorem State.makeBoundary_mem_consumed (s : State) (now : Moment) (e : Epoch) (due : Moment) :
    (s.makeBoundary now e due).mem.consumed = s.mem.consumed := by simp [State.makeBoundary, State.spreadBoundary]
@[simp] theorem State.makeBoundary_mem_notices (s : State) (now : Moment) (e : Epoch) (due : Moment) :
    (s.makeBoundary now e due).mem.notices = s.mem.notices := by simp [State.makeBoundary, State.spreadBoundary]
@[simp] theorem State.makeBoundary_mem_slots (s : State) (now : Moment) (e : Epoch) (due : Moment) :
    (s.makeBoundary now e due).mem.slots = s.mem.slots := by simp [State.makeBoundary, State.spreadBoundary]
@[simp] theorem State.makeBoundary_mem_lapsed (s : State) (now : Moment) (e : Epoch) (due : Moment) :
    (s.makeBoundary now e due).mem.lapsed = s.mem.lapsed := by simp [State.makeBoundary, State.spreadBoundary]
@[simp] theorem State.makeBoundary_mem_armed (s : State) (now : Moment) (e : Epoch) (due : Moment) :
    (s.makeBoundary now e due).mem.armed = s.mem.armed := by simp [State.makeBoundary, State.spreadBoundary]
@[simp] theorem State.makeBoundary_mem_noted (s : State) (now : Moment) (e : Epoch) (due : Moment) :
    (s.makeBoundary now e due).mem.noted = s.mem.noted := by simp [State.makeBoundary, State.spreadBoundary]
@[simp] theorem State.makeBoundary_mem_rewrite (s : State) (now : Moment) (e : Epoch) (due : Moment) :
    (s.makeBoundary now e due).mem.rewrite = s.mem.rewrite := by simp [State.makeBoundary, State.spreadBoundary]
@[simp] theorem State.makeBoundary_mem_stmtCount (s : State) (now : Moment) (e : Epoch) (due : Moment) :
    (s.makeBoundary now e due).mem.stmtCount = s.mem.stmtCount := by simp [State.makeBoundary, State.spreadBoundary]
@[simp] theorem State.makeBoundary_mem_stmtNumber (s : State) (now : Moment) (e : Epoch) (due : Moment) :
    (s.makeBoundary now e due).mem.stmtNumber = s.mem.stmtNumber := by simp [State.makeBoundary, State.spreadBoundary]
@[simp] theorem State.makeBoundary_mem_statement (s : State) (now : Moment) (e : Epoch) (due : Moment) :
    (s.makeBoundary now e due).mem.statement = s.mem.statement := by simp [State.makeBoundary, State.spreadBoundary]
@[simp] theorem State.makeBoundary_mem_pass (s : State) (now : Moment) (e : Epoch) (due : Moment) :
    (s.makeBoundary now e due).mem.pass = s.mem.pass := by simp [State.makeBoundary, State.spreadBoundary]
@[simp] theorem State.makeBoundary_mem_passQueue (s : State) (now : Moment) (e : Epoch) (due : Moment) :
    (s.makeBoundary now e due).mem.passQueue = s.mem.passQueue := by simp [State.makeBoundary, State.spreadBoundary]
@[simp] theorem State.makeBoundary_mem_journalWrite (s : State) (now : Moment) (e : Epoch) (due : Moment) :
    (s.makeBoundary now e due).mem.journalWrite = s.mem.journalWrite := by simp [State.makeBoundary, State.spreadBoundary]
@[simp] theorem State.makeBoundary_mem_signalWrites (s : State) (now : Moment) (e : Epoch) (due : Moment) :
    (s.makeBoundary now e due).mem.signalWrites = s.mem.signalWrites := by simp [State.makeBoundary, State.spreadBoundary]
@[simp] theorem State.makeBoundary_mem_stmtOwed (s : State) (now : Moment) (e : Epoch) (due : Moment) :
    (s.makeBoundary now e due).mem.stmtOwed = s.mem.stmtOwed ++ [e] := by simp [State.makeBoundary, State.spreadBoundary]

/-- The read of a boundary (R149 to R151). -/
@[simp] theorem State.makeBoundary_mem_read (s : State) (now : Moment) (e : Epoch) (due : Moment) :
    (s.makeBoundary now e due).mem.read = s.mem.readAtBoundary.read := by simp [State.makeBoundary, State.spreadBoundary]
@[simp] theorem State.makeBoundary_mem_abandoned (s : State) (now : Moment) (e : Epoch) (due : Moment) :
    (s.makeBoundary now e due).mem.abandoned = s.mem.readAtBoundary.abandoned := by
  simp [State.makeBoundary, State.spreadBoundary]

/-- All that making a boundary does to the timer: with pending timing, the new length and role are in force from this
boundary and the next own boundary falls one new length later. -/
theorem Timer.makeBoundary_cases (t : Timer) (now : Moment) (e : Epoch) (due : Moment) :
    let driven := if t.timing.role = .leader then some (signalFor e) else none
    (t.pending = none ∧
      t.makeBoundary now e due = { t with epoch := e, last := some now, due := due, driving := driven }) ∨
    ∃ n, t.pending = some n ∧
      t.makeBoundary now e due =
        { t with
          epoch := e, last := some now, due := now + n.ns, driving := driven, timing := n, pending := none,
          sync := adoptedSync t.timing.role n.role t.sync } := by
  intro driven
  cases h : t.pending with
  | none => left; simp [Timer.makeBoundary, h, driven]
  | some n => right; exact ⟨n, rfl, by simp [Timer.makeBoundary, h, driven]⟩

@[simp] theorem Timer.makeBoundary_epoch (t : Timer) (now : Moment) (e : Epoch) (due : Moment) :
    (t.makeBoundary now e due).epoch = e := by
  rcases t.makeBoundary_cases now e due with ⟨_, h⟩ | ⟨_, _, h⟩ <;> simp [h]

@[simp] theorem Timer.makeBoundary_last (t : Timer) (now : Moment) (e : Epoch) (due : Moment) :
    (t.makeBoundary now e due).last = some now := by
  rcases t.makeBoundary_cases now e due with ⟨_, h⟩ | ⟨_, _, h⟩ <;> simp [h]

@[simp] theorem Timer.makeBoundary_running (t : Timer) (now : Moment) (e : Epoch) (due : Moment) :
    (t.makeBoundary now e due).running = t.running := by
  rcases t.makeBoundary_cases now e due with ⟨_, h⟩ | ⟨_, _, h⟩ <;> simp [h]

/-! ### Staging (R137) -/

@[simp] theorem PlanUnit.stage_inForce (u : PlanUnit) (pl : Plan) : (u.stage pl).inForce = u.inForce := rfl
@[simp] theorem PlanUnit.stage_appliedEpoch (u : PlanUnit) (pl : Plan) : (u.stage pl).appliedEpoch = u.appliedEpoch := rfl
@[simp] theorem PlanUnit.stage_wanted (u : PlanUnit) (pl : Plan) : (u.stage pl).wanted = u.wanted := rfl
@[simp] theorem PlanUnit.stage_fetch (u : PlanUnit) (pl : Plan) : (u.stage pl).fetch = u.fetch := rfl
@[simp] theorem PlanUnit.stage_fetched (u : PlanUnit) (pl : Plan) : (u.stage pl).fetched = u.fetched := rfl
@[simp] theorem PlanUnit.stage_refused (u : PlanUnit) (pl : Plan) : (u.stage pl).refused = u.refused := rfl
@[simp] theorem PlanUnit.stage_partDeferred (u : PlanUnit) (pl : Plan) : (u.stage pl).partDeferred = u.partDeferred := rfl
@[simp] theorem PlanUnit.stage_hold (u : PlanUnit) (pl : Plan) : (u.stage pl).hold = u.hold := rfl
@[simp] theorem PlanUnit.stage_staged (u : PlanUnit) (pl : Plan) : (u.stage pl).staged = some pl := rfl

/-! ### The plan unit (R131 to R133, R136) -/

@[simp] theorem State.refusePlan_link (s : State) (g : Word32) (t : Word16) (r : PlanFault) : (s.refusePlan g t r).link = s.link := by simp [State.refusePlan]
@[simp] theorem State.refusePlan_ports (s : State) (g : Word32) (t : Word16) (r : PlanFault) : (s.refusePlan g t r).ports = s.ports := by simp [State.refusePlan]
@[simp] theorem State.refusePlan_conduct (s : State) (g : Word32) (t : Word16) (r : PlanFault) : (s.refusePlan g t r).conduct = s.conduct := by simp [State.refusePlan]
@[simp] theorem State.refusePlan_scan (s : State) (g : Word32) (t : Word16) (r : PlanFault) : (s.refusePlan g t r).scan = s.scan := by simp [State.refusePlan]
@[simp] theorem State.refusePlan_timer (s : State) (g : Word32) (t : Word16) (r : PlanFault) : (s.refusePlan g t r).timer = s.timer := by simp [State.refusePlan]
@[simp] theorem State.refusePlan_win (s : State) (g : Word32) (t : Word16) (r : PlanFault) : (s.refusePlan g t r).win = s.win := by simp [State.refusePlan]
@[simp] theorem State.refusePlan_pending (s : State) (g : Word32) (t : Word16) (r : PlanFault) : (s.refusePlan g t r).pending = s.pending := by simp [State.refusePlan]
@[simp] theorem State.refusePlan_mem_mode (s : State) (g : Word32) (t : Word16) (r : PlanFault) :
    (s.refusePlan g t r).mem.mode = s.mem.mode := by simp [State.refusePlan]
@[simp] theorem State.refusePlan_mem_region (s : State) (g : Word32) (t : Word16) (r : PlanFault) :
    (s.refusePlan g t r).mem.region = s.mem.region := by simp [State.refusePlan]
@[simp] theorem State.refusePlan_mem_journalBase (s : State) (g : Word32) (t : Word16) (r : PlanFault) :
    (s.refusePlan g t r).mem.journalBase = s.mem.journalBase := by simp [State.refusePlan]
@[simp] theorem State.refusePlan_mem_capacity (s : State) (g : Word32) (t : Word16) (r : PlanFault) :
    (s.refusePlan g t r).mem.capacity = s.mem.capacity := by simp [State.refusePlan]
@[simp] theorem State.refusePlan_mem_usageBase (s : State) (g : Word32) (t : Word16) (r : PlanFault) :
    (s.refusePlan g t r).mem.usageBase = s.mem.usageBase := by simp [State.refusePlan]
@[simp] theorem State.refusePlan_mem_signalAddr (s : State) (g : Word32) (t : Word16) (r : PlanFault) :
    (s.refusePlan g t r).mem.signalAddr = s.mem.signalAddr := by simp [State.refusePlan]
@[simp] theorem State.refusePlan_mem_signalValue (s : State) (g : Word32) (t : Word16) (r : PlanFault) :
    (s.refusePlan g t r).mem.signalValue = s.mem.signalValue := by simp [State.refusePlan]
@[simp] theorem State.refusePlan_mem_signalMask (s : State) (g : Word32) (t : Word16) (r : PlanFault) :
    (s.refusePlan g t r).mem.signalMask = s.mem.signalMask := by simp [State.refusePlan]
@[simp] theorem State.refusePlan_mem_produced (s : State) (g : Word32) (t : Word16) (r : PlanFault) :
    (s.refusePlan g t r).mem.produced = s.mem.produced := by simp [State.refusePlan]
@[simp] theorem State.refusePlan_mem_consumed (s : State) (g : Word32) (t : Word16) (r : PlanFault) :
    (s.refusePlan g t r).mem.consumed = s.mem.consumed := by simp [State.refusePlan]
@[simp] theorem State.refusePlan_mem_slots (s : State) (g : Word32) (t : Word16) (r : PlanFault) :
    (s.refusePlan g t r).mem.slots = s.mem.slots := by simp [State.refusePlan]
@[simp] theorem State.refusePlan_mem_armed (s : State) (g : Word32) (t : Word16) (r : PlanFault) :
    (s.refusePlan g t r).mem.armed = s.mem.armed := by simp [State.refusePlan]
@[simp] theorem State.refusePlan_mem_noted (s : State) (g : Word32) (t : Word16) (r : PlanFault) :
    (s.refusePlan g t r).mem.noted = s.mem.noted := by simp [State.refusePlan]
@[simp] theorem State.refusePlan_mem_rewrite (s : State) (g : Word32) (t : Word16) (r : PlanFault) :
    (s.refusePlan g t r).mem.rewrite = s.mem.rewrite := by simp [State.refusePlan]
@[simp] theorem State.refusePlan_mem_signalDue (s : State) (g : Word32) (t : Word16) (r : PlanFault) :
    (s.refusePlan g t r).mem.signalDue = s.mem.signalDue := by simp [State.refusePlan]
@[simp] theorem State.refusePlan_mem_stmtCount (s : State) (g : Word32) (t : Word16) (r : PlanFault) :
    (s.refusePlan g t r).mem.stmtCount = s.mem.stmtCount := by simp [State.refusePlan]
@[simp] theorem State.refusePlan_mem_stmtNumber (s : State) (g : Word32) (t : Word16) (r : PlanFault) :
    (s.refusePlan g t r).mem.stmtNumber = s.mem.stmtNumber := by simp [State.refusePlan]
@[simp] theorem State.refusePlan_mem_stmtOwed (s : State) (g : Word32) (t : Word16) (r : PlanFault) :
    (s.refusePlan g t r).mem.stmtOwed = s.mem.stmtOwed := by simp [State.refusePlan]
@[simp] theorem State.refusePlan_mem_statement (s : State) (g : Word32) (t : Word16) (r : PlanFault) :
    (s.refusePlan g t r).mem.statement = s.mem.statement := by simp [State.refusePlan]
@[simp] theorem State.refusePlan_mem_read (s : State) (g : Word32) (t : Word16) (r : PlanFault) :
    (s.refusePlan g t r).mem.read = s.mem.read := by simp [State.refusePlan]
@[simp] theorem State.refusePlan_mem_abandoned (s : State) (g : Word32) (t : Word16) (r : PlanFault) :
    (s.refusePlan g t r).mem.abandoned = s.mem.abandoned := by simp [State.refusePlan]
@[simp] theorem State.refusePlan_mem_pass (s : State) (g : Word32) (t : Word16) (r : PlanFault) :
    (s.refusePlan g t r).mem.pass = s.mem.pass := by simp [State.refusePlan]
@[simp] theorem State.refusePlan_mem_passQueue (s : State) (g : Word32) (t : Word16) (r : PlanFault) :
    (s.refusePlan g t r).mem.passQueue = s.mem.passQueue := by simp [State.refusePlan]
@[simp] theorem State.refusePlan_mem_journalWrite (s : State) (g : Word32) (t : Word16) (r : PlanFault) :
    (s.refusePlan g t r).mem.journalWrite = s.mem.journalWrite := by simp [State.refusePlan]
@[simp] theorem State.refusePlan_mem_partHalf (s : State) (g : Word32) (t : Word16) (r : PlanFault) :
    (s.refusePlan g t r).mem.partHalf = s.mem.partHalf := by simp [State.refusePlan]
@[simp] theorem State.refusePlan_mem_writesOwed (s : State) (g : Word32) (t : Word16) (r : PlanFault) :
    (s.refusePlan g t r).mem.writesOwed = s.mem.writesOwed := by simp [State.refusePlan]
@[simp] theorem State.refusePlan_mem_signalWrites (s : State) (g : Word32) (t : Word16) (r : PlanFault) :
    (s.refusePlan g t r).mem.signalWrites = s.mem.signalWrites := by simp [State.refusePlan]
@[simp] theorem State.refusePlan_plans_inForce (s : State) (g : Word32) (t : Word16) (r : PlanFault) :
    (s.refusePlan g t r).plans.inForce = s.plans.inForce := by simp [State.refusePlan]
@[simp] theorem State.refusePlan_plans_appliedEpoch (s : State) (g : Word32) (t : Word16) (r : PlanFault) :
    (s.refusePlan g t r).plans.appliedEpoch = s.plans.appliedEpoch := by simp [State.refusePlan]
@[simp] theorem State.refusePlan_plans_staged (s : State) (g : Word32) (t : Word16) (r : PlanFault) :
    (s.refusePlan g t r).plans.staged = s.plans.staged := by simp [State.refusePlan]
@[simp] theorem State.refusePlan_plans_wanted (s : State) (g : Word32) (t : Word16) (r : PlanFault) :
    (s.refusePlan g t r).plans.wanted = s.plans.wanted := by simp [State.refusePlan]
@[simp] theorem State.refusePlan_plans_fetch (s : State) (g : Word32) (t : Word16) (r : PlanFault) :
    (s.refusePlan g t r).plans.fetch = s.plans.fetch := by simp [State.refusePlan]
@[simp] theorem State.refusePlan_plans_fetched (s : State) (g : Word32) (t : Word16) (r : PlanFault) :
    (s.refusePlan g t r).plans.fetched = s.plans.fetched := by simp [State.refusePlan]
@[simp] theorem State.refusePlan_plans_partDeferred (s : State) (g : Word32) (t : Word16) (r : PlanFault) :
    (s.refusePlan g t r).plans.partDeferred = s.plans.partDeferred := by simp [State.refusePlan]
@[simp] theorem State.refusePlan_plans_hold (s : State) (g : Word32) (t : Word16) (r : PlanFault) :
    (s.refusePlan g t r).plans.hold = s.plans.hold := by simp [State.refusePlan]
@[simp] theorem State.refusePlan_plans_owed (s : State) (g : Word32) (t : Word16) (r : PlanFault) :
    (s.refusePlan g t r).plans.owed = s.plans.owed := by simp [State.refusePlan]

/-- All that starting a fetch can do. -/
theorem State.startFetch_cases (s : State) (w : Wanted) :
    (badPlanAddress w.addr = true ∧
      s.startFetch w =
        { s with plans := { s.plans with fetched := w.gen, wanted := none } }.refusePlan w.gen 0 .fetchFailed) ∨
    (badPlanAddress w.addr = false ∧
      s.startFetch w =
        { s with plans := { s.plans with fetch := some { gen := w.gen, addr := w.addr, data := [] } } }) := by
  unfold State.startFetch
  split
  · exact .inl ⟨‹_›, rfl⟩
  · exact .inr ⟨Bool.eq_false_iff.2 ‹_›, rfl⟩

@[simp] theorem State.startFetch_link (s : State) (w : Wanted) : (s.startFetch w).link = s.link := by
  rcases s.startFetch_cases w with ⟨_, e⟩ | ⟨_, e⟩ <;> simp [e]
@[simp] theorem State.startFetch_ports (s : State) (w : Wanted) : (s.startFetch w).ports = s.ports := by
  rcases s.startFetch_cases w with ⟨_, e⟩ | ⟨_, e⟩ <;> simp [e]
@[simp] theorem State.startFetch_conduct (s : State) (w : Wanted) : (s.startFetch w).conduct = s.conduct := by
  rcases s.startFetch_cases w with ⟨_, e⟩ | ⟨_, e⟩ <;> simp [e]
@[simp] theorem State.startFetch_scan (s : State) (w : Wanted) : (s.startFetch w).scan = s.scan := by
  rcases s.startFetch_cases w with ⟨_, e⟩ | ⟨_, e⟩ <;> simp [e]
@[simp] theorem State.startFetch_timer (s : State) (w : Wanted) : (s.startFetch w).timer = s.timer := by
  rcases s.startFetch_cases w with ⟨_, e⟩ | ⟨_, e⟩ <;> simp [e]
@[simp] theorem State.startFetch_win (s : State) (w : Wanted) : (s.startFetch w).win = s.win := by
  rcases s.startFetch_cases w with ⟨_, e⟩ | ⟨_, e⟩ <;> simp [e]
@[simp] theorem State.startFetch_pending (s : State) (w : Wanted) : (s.startFetch w).pending = s.pending := by
  rcases s.startFetch_cases w with ⟨_, e⟩ | ⟨_, e⟩ <;> simp [e]
@[simp] theorem State.startFetch_mem_mode (s : State) (w : Wanted) : (s.startFetch w).mem.mode = s.mem.mode := by
  rcases s.startFetch_cases w with ⟨_, e⟩ | ⟨_, e⟩ <;> simp [e]
@[simp] theorem State.startFetch_mem_region (s : State) (w : Wanted) : (s.startFetch w).mem.region = s.mem.region := by
  rcases s.startFetch_cases w with ⟨_, e⟩ | ⟨_, e⟩ <;> simp [e]
@[simp] theorem State.startFetch_mem_journalBase (s : State) (w : Wanted) : (s.startFetch w).mem.journalBase = s.mem.journalBase := by
  rcases s.startFetch_cases w with ⟨_, e⟩ | ⟨_, e⟩ <;> simp [e]
@[simp] theorem State.startFetch_mem_capacity (s : State) (w : Wanted) : (s.startFetch w).mem.capacity = s.mem.capacity := by
  rcases s.startFetch_cases w with ⟨_, e⟩ | ⟨_, e⟩ <;> simp [e]
@[simp] theorem State.startFetch_mem_usageBase (s : State) (w : Wanted) : (s.startFetch w).mem.usageBase = s.mem.usageBase := by
  rcases s.startFetch_cases w with ⟨_, e⟩ | ⟨_, e⟩ <;> simp [e]
@[simp] theorem State.startFetch_mem_signalAddr (s : State) (w : Wanted) : (s.startFetch w).mem.signalAddr = s.mem.signalAddr := by
  rcases s.startFetch_cases w with ⟨_, e⟩ | ⟨_, e⟩ <;> simp [e]
@[simp] theorem State.startFetch_mem_signalValue (s : State) (w : Wanted) : (s.startFetch w).mem.signalValue = s.mem.signalValue := by
  rcases s.startFetch_cases w with ⟨_, e⟩ | ⟨_, e⟩ <;> simp [e]
@[simp] theorem State.startFetch_mem_signalMask (s : State) (w : Wanted) : (s.startFetch w).mem.signalMask = s.mem.signalMask := by
  rcases s.startFetch_cases w with ⟨_, e⟩ | ⟨_, e⟩ <;> simp [e]
@[simp] theorem State.startFetch_mem_produced (s : State) (w : Wanted) : (s.startFetch w).mem.produced = s.mem.produced := by
  rcases s.startFetch_cases w with ⟨_, e⟩ | ⟨_, e⟩ <;> simp [e]
@[simp] theorem State.startFetch_mem_consumed (s : State) (w : Wanted) : (s.startFetch w).mem.consumed = s.mem.consumed := by
  rcases s.startFetch_cases w with ⟨_, e⟩ | ⟨_, e⟩ <;> simp [e]
@[simp] theorem State.startFetch_mem_slots (s : State) (w : Wanted) : (s.startFetch w).mem.slots = s.mem.slots := by
  rcases s.startFetch_cases w with ⟨_, e⟩ | ⟨_, e⟩ <;> simp [e]
@[simp] theorem State.startFetch_mem_armed (s : State) (w : Wanted) : (s.startFetch w).mem.armed = s.mem.armed := by
  rcases s.startFetch_cases w with ⟨_, e⟩ | ⟨_, e⟩ <;> simp [e]
@[simp] theorem State.startFetch_mem_noted (s : State) (w : Wanted) : (s.startFetch w).mem.noted = s.mem.noted := by
  rcases s.startFetch_cases w with ⟨_, e⟩ | ⟨_, e⟩ <;> simp [e]
@[simp] theorem State.startFetch_mem_rewrite (s : State) (w : Wanted) : (s.startFetch w).mem.rewrite = s.mem.rewrite := by
  rcases s.startFetch_cases w with ⟨_, e⟩ | ⟨_, e⟩ <;> simp [e]
@[simp] theorem State.startFetch_mem_signalDue (s : State) (w : Wanted) : (s.startFetch w).mem.signalDue = s.mem.signalDue := by
  rcases s.startFetch_cases w with ⟨_, e⟩ | ⟨_, e⟩ <;> simp [e]
@[simp] theorem State.startFetch_mem_stmtCount (s : State) (w : Wanted) : (s.startFetch w).mem.stmtCount = s.mem.stmtCount := by
  rcases s.startFetch_cases w with ⟨_, e⟩ | ⟨_, e⟩ <;> simp [e]
@[simp] theorem State.startFetch_mem_stmtNumber (s : State) (w : Wanted) : (s.startFetch w).mem.stmtNumber = s.mem.stmtNumber := by
  rcases s.startFetch_cases w with ⟨_, e⟩ | ⟨_, e⟩ <;> simp [e]
@[simp] theorem State.startFetch_mem_stmtOwed (s : State) (w : Wanted) : (s.startFetch w).mem.stmtOwed = s.mem.stmtOwed := by
  rcases s.startFetch_cases w with ⟨_, e⟩ | ⟨_, e⟩ <;> simp [e]
@[simp] theorem State.startFetch_mem_statement (s : State) (w : Wanted) : (s.startFetch w).mem.statement = s.mem.statement := by
  rcases s.startFetch_cases w with ⟨_, e⟩ | ⟨_, e⟩ <;> simp [e]
@[simp] theorem State.startFetch_mem_read (s : State) (w : Wanted) : (s.startFetch w).mem.read = s.mem.read := by
  rcases s.startFetch_cases w with ⟨_, e⟩ | ⟨_, e⟩ <;> simp [e]
@[simp] theorem State.startFetch_mem_abandoned (s : State) (w : Wanted) : (s.startFetch w).mem.abandoned = s.mem.abandoned := by
  rcases s.startFetch_cases w with ⟨_, e⟩ | ⟨_, e⟩ <;> simp [e]
@[simp] theorem State.startFetch_mem_pass (s : State) (w : Wanted) : (s.startFetch w).mem.pass = s.mem.pass := by
  rcases s.startFetch_cases w with ⟨_, e⟩ | ⟨_, e⟩ <;> simp [e]
@[simp] theorem State.startFetch_mem_passQueue (s : State) (w : Wanted) : (s.startFetch w).mem.passQueue = s.mem.passQueue := by
  rcases s.startFetch_cases w with ⟨_, e⟩ | ⟨_, e⟩ <;> simp [e]
@[simp] theorem State.startFetch_mem_journalWrite (s : State) (w : Wanted) : (s.startFetch w).mem.journalWrite = s.mem.journalWrite := by
  rcases s.startFetch_cases w with ⟨_, e⟩ | ⟨_, e⟩ <;> simp [e]
@[simp] theorem State.startFetch_mem_partHalf (s : State) (w : Wanted) : (s.startFetch w).mem.partHalf = s.mem.partHalf := by
  rcases s.startFetch_cases w with ⟨_, e⟩ | ⟨_, e⟩ <;> simp [e]
@[simp] theorem State.startFetch_mem_writesOwed (s : State) (w : Wanted) : (s.startFetch w).mem.writesOwed = s.mem.writesOwed := by
  rcases s.startFetch_cases w with ⟨_, e⟩ | ⟨_, e⟩ <;> simp [e]
@[simp] theorem State.startFetch_mem_signalWrites (s : State) (w : Wanted) : (s.startFetch w).mem.signalWrites = s.mem.signalWrites := by
  rcases s.startFetch_cases w with ⟨_, e⟩ | ⟨_, e⟩ <;> simp [e]
@[simp] theorem State.startFetch_plans_inForce (s : State) (w : Wanted) :
    (s.startFetch w).plans.inForce = s.plans.inForce := by
  rcases s.startFetch_cases w with ⟨_, e⟩ | ⟨_, e⟩ <;> simp [e]
@[simp] theorem State.startFetch_plans_appliedEpoch (s : State) (w : Wanted) :
    (s.startFetch w).plans.appliedEpoch = s.plans.appliedEpoch := by
  rcases s.startFetch_cases w with ⟨_, e⟩ | ⟨_, e⟩ <;> simp [e]
@[simp] theorem State.startFetch_plans_staged (s : State) (w : Wanted) :
    (s.startFetch w).plans.staged = s.plans.staged := by
  rcases s.startFetch_cases w with ⟨_, e⟩ | ⟨_, e⟩ <;> simp [e]
@[simp] theorem State.startFetch_plans_partDeferred (s : State) (w : Wanted) :
    (s.startFetch w).plans.partDeferred = s.plans.partDeferred := by
  rcases s.startFetch_cases w with ⟨_, e⟩ | ⟨_, e⟩ <;> simp [e]
@[simp] theorem State.startFetch_plans_hold (s : State) (w : Wanted) :
    (s.startFetch w).plans.hold = s.plans.hold := by
  rcases s.startFetch_cases w with ⟨_, e⟩ | ⟨_, e⟩ <;> simp [e]
@[simp] theorem State.startFetch_plans_owed (s : State) (w : Wanted) :
    (s.startFetch w).plans.owed = s.plans.owed := by
  rcases s.startFetch_cases w with ⟨_, e⟩ | ⟨_, e⟩ <;> simp [e]
/-- All that a read of the host half can do to the plan unit, beside the hold flag: nothing for a generation it knows; the
generation wanted while a fetch is in flight; and the start of its fetch otherwise (R131). -/
theorem State.showPlan_cases (s : State) (h : HostHalf) :
    let w : Wanted := { gen := h.planGen, addr := h.planAddr }
    let held : PlanUnit := { s.plans with hold := h.hold }
    (s.plans.knows h.planGen = true ∧ s.showPlan h = { s with plans := held }) ∨
    (s.plans.knows h.planGen = false ∧ s.plans.fetch.isSome = true ∧
      s.showPlan h = { s with plans := { held with wanted := some w } }) ∨
    (s.plans.knows h.planGen = false ∧ s.plans.fetch = none ∧
      s.showPlan h = { s with plans := { held with wanted := some w } }.startFetch w) := by
  unfold State.showPlan
  cases hk : s.plans.knows h.planGen <;> cases hf : s.plans.fetch <;> simp
@[simp] theorem State.showPlan_link (s : State) (h : HostHalf) : (s.showPlan h).link = s.link := by unfold State.showPlan; dsimp only; split <;> [rfl; (split <;> simp)]
@[simp] theorem State.showPlan_ports (s : State) (h : HostHalf) : (s.showPlan h).ports = s.ports := by unfold State.showPlan; dsimp only; split <;> [rfl; (split <;> simp)]
@[simp] theorem State.showPlan_conduct (s : State) (h : HostHalf) : (s.showPlan h).conduct = s.conduct := by unfold State.showPlan; dsimp only; split <;> [rfl; (split <;> simp)]
@[simp] theorem State.showPlan_scan (s : State) (h : HostHalf) : (s.showPlan h).scan = s.scan := by unfold State.showPlan; dsimp only; split <;> [rfl; (split <;> simp)]
@[simp] theorem State.showPlan_timer (s : State) (h : HostHalf) : (s.showPlan h).timer = s.timer := by unfold State.showPlan; dsimp only; split <;> [rfl; (split <;> simp)]
@[simp] theorem State.showPlan_win (s : State) (h : HostHalf) : (s.showPlan h).win = s.win := by unfold State.showPlan; dsimp only; split <;> [rfl; (split <;> simp)]
@[simp] theorem State.showPlan_pending (s : State) (h : HostHalf) : (s.showPlan h).pending = s.pending := by unfold State.showPlan; dsimp only; split <;> [rfl; (split <;> simp)]
@[simp] theorem State.showPlan_mem_mode (s : State) (h : HostHalf) : (s.showPlan h).mem.mode = s.mem.mode := by unfold State.showPlan; dsimp only; split <;> [rfl; (split <;> simp)]
@[simp] theorem State.showPlan_mem_region (s : State) (h : HostHalf) : (s.showPlan h).mem.region = s.mem.region := by unfold State.showPlan; dsimp only; split <;> [rfl; (split <;> simp)]
@[simp] theorem State.showPlan_mem_journalBase (s : State) (h : HostHalf) : (s.showPlan h).mem.journalBase = s.mem.journalBase := by unfold State.showPlan; dsimp only; split <;> [rfl; (split <;> simp)]
@[simp] theorem State.showPlan_mem_capacity (s : State) (h : HostHalf) : (s.showPlan h).mem.capacity = s.mem.capacity := by unfold State.showPlan; dsimp only; split <;> [rfl; (split <;> simp)]
@[simp] theorem State.showPlan_mem_usageBase (s : State) (h : HostHalf) : (s.showPlan h).mem.usageBase = s.mem.usageBase := by unfold State.showPlan; dsimp only; split <;> [rfl; (split <;> simp)]
@[simp] theorem State.showPlan_mem_signalAddr (s : State) (h : HostHalf) : (s.showPlan h).mem.signalAddr = s.mem.signalAddr := by unfold State.showPlan; dsimp only; split <;> [rfl; (split <;> simp)]
@[simp] theorem State.showPlan_mem_signalValue (s : State) (h : HostHalf) : (s.showPlan h).mem.signalValue = s.mem.signalValue := by unfold State.showPlan; dsimp only; split <;> [rfl; (split <;> simp)]
@[simp] theorem State.showPlan_mem_signalMask (s : State) (h : HostHalf) : (s.showPlan h).mem.signalMask = s.mem.signalMask := by unfold State.showPlan; dsimp only; split <;> [rfl; (split <;> simp)]
@[simp] theorem State.showPlan_mem_produced (s : State) (h : HostHalf) : (s.showPlan h).mem.produced = s.mem.produced := by unfold State.showPlan; dsimp only; split <;> [rfl; (split <;> simp)]
@[simp] theorem State.showPlan_mem_consumed (s : State) (h : HostHalf) : (s.showPlan h).mem.consumed = s.mem.consumed := by unfold State.showPlan; dsimp only; split <;> [rfl; (split <;> simp)]
@[simp] theorem State.showPlan_mem_slots (s : State) (h : HostHalf) : (s.showPlan h).mem.slots = s.mem.slots := by unfold State.showPlan; dsimp only; split <;> [rfl; (split <;> simp)]
@[simp] theorem State.showPlan_mem_armed (s : State) (h : HostHalf) : (s.showPlan h).mem.armed = s.mem.armed := by unfold State.showPlan; dsimp only; split <;> [rfl; (split <;> simp)]
@[simp] theorem State.showPlan_mem_noted (s : State) (h : HostHalf) : (s.showPlan h).mem.noted = s.mem.noted := by unfold State.showPlan; dsimp only; split <;> [rfl; (split <;> simp)]
@[simp] theorem State.showPlan_mem_rewrite (s : State) (h : HostHalf) : (s.showPlan h).mem.rewrite = s.mem.rewrite := by unfold State.showPlan; dsimp only; split <;> [rfl; (split <;> simp)]
@[simp] theorem State.showPlan_mem_signalDue (s : State) (h : HostHalf) : (s.showPlan h).mem.signalDue = s.mem.signalDue := by unfold State.showPlan; dsimp only; split <;> [rfl; (split <;> simp)]
@[simp] theorem State.showPlan_mem_stmtCount (s : State) (h : HostHalf) : (s.showPlan h).mem.stmtCount = s.mem.stmtCount := by unfold State.showPlan; dsimp only; split <;> [rfl; (split <;> simp)]
@[simp] theorem State.showPlan_mem_stmtNumber (s : State) (h : HostHalf) : (s.showPlan h).mem.stmtNumber = s.mem.stmtNumber := by unfold State.showPlan; dsimp only; split <;> [rfl; (split <;> simp)]
@[simp] theorem State.showPlan_mem_stmtOwed (s : State) (h : HostHalf) : (s.showPlan h).mem.stmtOwed = s.mem.stmtOwed := by unfold State.showPlan; dsimp only; split <;> [rfl; (split <;> simp)]
@[simp] theorem State.showPlan_mem_statement (s : State) (h : HostHalf) : (s.showPlan h).mem.statement = s.mem.statement := by unfold State.showPlan; dsimp only; split <;> [rfl; (split <;> simp)]
@[simp] theorem State.showPlan_mem_read (s : State) (h : HostHalf) : (s.showPlan h).mem.read = s.mem.read := by unfold State.showPlan; dsimp only; split <;> [rfl; (split <;> simp)]
@[simp] theorem State.showPlan_mem_abandoned (s : State) (h : HostHalf) : (s.showPlan h).mem.abandoned = s.mem.abandoned := by unfold State.showPlan; dsimp only; split <;> [rfl; (split <;> simp)]
@[simp] theorem State.showPlan_mem_pass (s : State) (h : HostHalf) : (s.showPlan h).mem.pass = s.mem.pass := by unfold State.showPlan; dsimp only; split <;> [rfl; (split <;> simp)]
@[simp] theorem State.showPlan_mem_passQueue (s : State) (h : HostHalf) : (s.showPlan h).mem.passQueue = s.mem.passQueue := by unfold State.showPlan; dsimp only; split <;> [rfl; (split <;> simp)]
@[simp] theorem State.showPlan_mem_journalWrite (s : State) (h : HostHalf) : (s.showPlan h).mem.journalWrite = s.mem.journalWrite := by unfold State.showPlan; dsimp only; split <;> [rfl; (split <;> simp)]
@[simp] theorem State.showPlan_mem_partHalf (s : State) (h : HostHalf) : (s.showPlan h).mem.partHalf = s.mem.partHalf := by unfold State.showPlan; dsimp only; split <;> [rfl; (split <;> simp)]
@[simp] theorem State.showPlan_mem_writesOwed (s : State) (h : HostHalf) : (s.showPlan h).mem.writesOwed = s.mem.writesOwed := by unfold State.showPlan; dsimp only; split <;> [rfl; (split <;> simp)]
@[simp] theorem State.showPlan_mem_signalWrites (s : State) (h : HostHalf) : (s.showPlan h).mem.signalWrites = s.mem.signalWrites := by unfold State.showPlan; dsimp only; split <;> [rfl; (split <;> simp)]
@[simp] theorem State.showPlan_plans_inForce (s : State) (h : HostHalf) :
    (s.showPlan h).plans.inForce = s.plans.inForce := by unfold State.showPlan; dsimp only; split <;> [rfl; (split <;> simp)]
@[simp] theorem State.showPlan_plans_appliedEpoch (s : State) (h : HostHalf) :
    (s.showPlan h).plans.appliedEpoch = s.plans.appliedEpoch := by unfold State.showPlan; dsimp only; split <;> [rfl; (split <;> simp)]
@[simp] theorem State.showPlan_plans_staged (s : State) (h : HostHalf) :
    (s.showPlan h).plans.staged = s.plans.staged := by unfold State.showPlan; dsimp only; split <;> [rfl; (split <;> simp)]
@[simp] theorem State.showPlan_plans_partDeferred (s : State) (h : HostHalf) :
    (s.showPlan h).plans.partDeferred = s.plans.partDeferred := by unfold State.showPlan; dsimp only; split <;> [rfl; (split <;> simp)]
@[simp] theorem State.showPlan_plans_owed (s : State) (h : HostHalf) :
    (s.showPlan h).plans.owed = s.plans.owed := by unfold State.showPlan; dsimp only; split <;> [rfl; (split <;> simp)]
@[simp] theorem State.showPlan_plans_hold (s : State) (h : HostHalf) : (s.showPlan h).plans.hold = h.hold := by unfold State.showPlan; dsimp only; split <;> [rfl; (split <;> simp)]
@[simp] theorem State.finishFetch_link (s : State) (x : Fetch) (r : FetchEnd) :
    (s.finishFetch x r).link = s.link := by
  unfold State.finishFetch; dsimp only; split <;> [(split <;> simp); (split <;> simp)]
@[simp] theorem State.finishFetch_ports (s : State) (x : Fetch) (r : FetchEnd) :
    (s.finishFetch x r).ports = s.ports := by
  unfold State.finishFetch; dsimp only; split <;> [(split <;> simp); (split <;> simp)]
@[simp] theorem State.finishFetch_conduct (s : State) (x : Fetch) (r : FetchEnd) :
    (s.finishFetch x r).conduct = s.conduct := by
  unfold State.finishFetch; dsimp only; split <;> [(split <;> simp); (split <;> simp)]
@[simp] theorem State.finishFetch_scan (s : State) (x : Fetch) (r : FetchEnd) :
    (s.finishFetch x r).scan = s.scan := by
  unfold State.finishFetch; dsimp only; split <;> [(split <;> simp); (split <;> simp)]
@[simp] theorem State.finishFetch_timer (s : State) (x : Fetch) (r : FetchEnd) :
    (s.finishFetch x r).timer = s.timer := by
  unfold State.finishFetch; dsimp only; split <;> [(split <;> simp); (split <;> simp)]
@[simp] theorem State.finishFetch_win (s : State) (x : Fetch) (r : FetchEnd) :
    (s.finishFetch x r).win = s.win := by
  unfold State.finishFetch; dsimp only; split <;> [(split <;> simp); (split <;> simp)]
@[simp] theorem State.finishFetch_pending (s : State) (x : Fetch) (r : FetchEnd) :
    (s.finishFetch x r).pending = s.pending := by
  unfold State.finishFetch; dsimp only; split <;> [(split <;> simp); (split <;> simp)]
@[simp] theorem State.finishFetch_mem_mode (s : State) (x : Fetch) (r : FetchEnd) :
    (s.finishFetch x r).mem.mode = s.mem.mode := by
  unfold State.finishFetch; dsimp only; split <;> [(split <;> simp); (split <;> simp)]
@[simp] theorem State.finishFetch_mem_region (s : State) (x : Fetch) (r : FetchEnd) :
    (s.finishFetch x r).mem.region = s.mem.region := by
  unfold State.finishFetch; dsimp only; split <;> [(split <;> simp); (split <;> simp)]
@[simp] theorem State.finishFetch_mem_journalBase (s : State) (x : Fetch) (r : FetchEnd) :
    (s.finishFetch x r).mem.journalBase = s.mem.journalBase := by
  unfold State.finishFetch; dsimp only; split <;> [(split <;> simp); (split <;> simp)]
@[simp] theorem State.finishFetch_mem_capacity (s : State) (x : Fetch) (r : FetchEnd) :
    (s.finishFetch x r).mem.capacity = s.mem.capacity := by
  unfold State.finishFetch; dsimp only; split <;> [(split <;> simp); (split <;> simp)]
@[simp] theorem State.finishFetch_mem_usageBase (s : State) (x : Fetch) (r : FetchEnd) :
    (s.finishFetch x r).mem.usageBase = s.mem.usageBase := by
  unfold State.finishFetch; dsimp only; split <;> [(split <;> simp); (split <;> simp)]
@[simp] theorem State.finishFetch_mem_signalAddr (s : State) (x : Fetch) (r : FetchEnd) :
    (s.finishFetch x r).mem.signalAddr = s.mem.signalAddr := by
  unfold State.finishFetch; dsimp only; split <;> [(split <;> simp); (split <;> simp)]
@[simp] theorem State.finishFetch_mem_signalValue (s : State) (x : Fetch) (r : FetchEnd) :
    (s.finishFetch x r).mem.signalValue = s.mem.signalValue := by
  unfold State.finishFetch; dsimp only; split <;> [(split <;> simp); (split <;> simp)]
@[simp] theorem State.finishFetch_mem_signalMask (s : State) (x : Fetch) (r : FetchEnd) :
    (s.finishFetch x r).mem.signalMask = s.mem.signalMask := by
  unfold State.finishFetch; dsimp only; split <;> [(split <;> simp); (split <;> simp)]
@[simp] theorem State.finishFetch_mem_produced (s : State) (x : Fetch) (r : FetchEnd) :
    (s.finishFetch x r).mem.produced = s.mem.produced := by
  unfold State.finishFetch; dsimp only; split <;> [(split <;> simp); (split <;> simp)]
@[simp] theorem State.finishFetch_mem_consumed (s : State) (x : Fetch) (r : FetchEnd) :
    (s.finishFetch x r).mem.consumed = s.mem.consumed := by
  unfold State.finishFetch; dsimp only; split <;> [(split <;> simp); (split <;> simp)]
@[simp] theorem State.finishFetch_mem_slots (s : State) (x : Fetch) (r : FetchEnd) :
    (s.finishFetch x r).mem.slots = s.mem.slots := by
  unfold State.finishFetch; dsimp only; split <;> [(split <;> simp); (split <;> simp)]
@[simp] theorem State.finishFetch_mem_armed (s : State) (x : Fetch) (r : FetchEnd) :
    (s.finishFetch x r).mem.armed = s.mem.armed := by
  unfold State.finishFetch; dsimp only; split <;> [(split <;> simp); (split <;> simp)]
@[simp] theorem State.finishFetch_mem_noted (s : State) (x : Fetch) (r : FetchEnd) :
    (s.finishFetch x r).mem.noted = s.mem.noted := by
  unfold State.finishFetch; dsimp only; split <;> [(split <;> simp); (split <;> simp)]
@[simp] theorem State.finishFetch_mem_rewrite (s : State) (x : Fetch) (r : FetchEnd) :
    (s.finishFetch x r).mem.rewrite = s.mem.rewrite := by
  unfold State.finishFetch; dsimp only; split <;> [(split <;> simp); (split <;> simp)]
@[simp] theorem State.finishFetch_mem_signalDue (s : State) (x : Fetch) (r : FetchEnd) :
    (s.finishFetch x r).mem.signalDue = s.mem.signalDue := by
  unfold State.finishFetch; dsimp only; split <;> [(split <;> simp); (split <;> simp)]
@[simp] theorem State.finishFetch_mem_stmtCount (s : State) (x : Fetch) (r : FetchEnd) :
    (s.finishFetch x r).mem.stmtCount = s.mem.stmtCount := by
  unfold State.finishFetch; dsimp only; split <;> [(split <;> simp); (split <;> simp)]
@[simp] theorem State.finishFetch_mem_stmtNumber (s : State) (x : Fetch) (r : FetchEnd) :
    (s.finishFetch x r).mem.stmtNumber = s.mem.stmtNumber := by
  unfold State.finishFetch; dsimp only; split <;> [(split <;> simp); (split <;> simp)]
@[simp] theorem State.finishFetch_mem_stmtOwed (s : State) (x : Fetch) (r : FetchEnd) :
    (s.finishFetch x r).mem.stmtOwed = s.mem.stmtOwed := by
  unfold State.finishFetch; dsimp only; split <;> [(split <;> simp); (split <;> simp)]
@[simp] theorem State.finishFetch_mem_statement (s : State) (x : Fetch) (r : FetchEnd) :
    (s.finishFetch x r).mem.statement = s.mem.statement := by
  unfold State.finishFetch; dsimp only; split <;> [(split <;> simp); (split <;> simp)]
@[simp] theorem State.finishFetch_mem_read (s : State) (x : Fetch) (r : FetchEnd) :
    (s.finishFetch x r).mem.read = s.mem.read := by
  unfold State.finishFetch; dsimp only; split <;> [(split <;> simp); (split <;> simp)]
@[simp] theorem State.finishFetch_mem_abandoned (s : State) (x : Fetch) (r : FetchEnd) :
    (s.finishFetch x r).mem.abandoned = s.mem.abandoned := by
  unfold State.finishFetch; dsimp only; split <;> [(split <;> simp); (split <;> simp)]
@[simp] theorem State.finishFetch_mem_pass (s : State) (x : Fetch) (r : FetchEnd) :
    (s.finishFetch x r).mem.pass = s.mem.pass := by
  unfold State.finishFetch; dsimp only; split <;> [(split <;> simp); (split <;> simp)]
@[simp] theorem State.finishFetch_mem_passQueue (s : State) (x : Fetch) (r : FetchEnd) :
    (s.finishFetch x r).mem.passQueue = s.mem.passQueue := by
  unfold State.finishFetch; dsimp only; split <;> [(split <;> simp); (split <;> simp)]
@[simp] theorem State.finishFetch_mem_journalWrite (s : State) (x : Fetch) (r : FetchEnd) :
    (s.finishFetch x r).mem.journalWrite = s.mem.journalWrite := by
  unfold State.finishFetch; dsimp only; split <;> [(split <;> simp); (split <;> simp)]
@[simp] theorem State.finishFetch_mem_partHalf (s : State) (x : Fetch) (r : FetchEnd) :
    (s.finishFetch x r).mem.partHalf = s.mem.partHalf := by
  unfold State.finishFetch; dsimp only; split <;> [(split <;> simp); (split <;> simp)]
@[simp] theorem State.finishFetch_mem_writesOwed (s : State) (x : Fetch) (r : FetchEnd) :
    (s.finishFetch x r).mem.writesOwed = s.mem.writesOwed := by
  unfold State.finishFetch; dsimp only; split <;> [(split <;> simp); (split <;> simp)]
@[simp] theorem State.finishFetch_mem_signalWrites (s : State) (x : Fetch) (r : FetchEnd) :
    (s.finishFetch x r).mem.signalWrites = s.mem.signalWrites := by
  unfold State.finishFetch; dsimp only; split <;> [(split <;> simp); (split <;> simp)]
@[simp] theorem State.finishFetch_plans_inForce (s : State) (x : Fetch) (r : FetchEnd) :
    (s.finishFetch x r).plans.inForce = s.plans.inForce := by
  unfold State.finishFetch; dsimp only; split <;> [(split <;> simp); (split <;> simp)]
@[simp] theorem State.finishFetch_plans_appliedEpoch (s : State) (x : Fetch) (r : FetchEnd) :
    (s.finishFetch x r).plans.appliedEpoch = s.plans.appliedEpoch := by
  unfold State.finishFetch; dsimp only; split <;> [(split <;> simp); (split <;> simp)]
@[simp] theorem State.finishFetch_plans_partDeferred (s : State) (x : Fetch) (r : FetchEnd) :
    (s.finishFetch x r).plans.partDeferred = s.plans.partDeferred := by
  unfold State.finishFetch; dsimp only; split <;> [(split <;> simp); (split <;> simp)]
@[simp] theorem State.finishFetch_plans_hold (s : State) (x : Fetch) (r : FetchEnd) :
    (s.finishFetch x r).plans.hold = s.plans.hold := by
  unfold State.finishFetch; dsimp only; split <;> [(split <;> simp); (split <;> simp)]
/-- Staging a plan leaves the boundaries owed, of which none made before can apply it (R137). -/
@[simp] theorem State.finishFetch_plans_owed_epochs (s : State) (x : Fetch) (r : FetchEnd) :
    (s.finishFetch x r).plans.owed.map PlanDue.epoch = s.plans.owed.map PlanDue.epoch := by
  unfold State.finishFetch; dsimp only
  split <;> [(split <;> simp [PlanUnit.stage, List.map_map, Function.comp_def]); (split <;> simp)]
@[simp] theorem State.finishFetch_plans_owed_length (s : State) (x : Fetch) (r : FetchEnd) :
    (s.finishFetch x r).plans.owed.length = s.plans.owed.length := by
  unfold State.finishFetch; dsimp only; split <;> [(split <;> simp [PlanUnit.stage]); (split <;> simp)]

theorem State.refusePlan_notices_length (s : State) (g : Word32) (t : Word16) (r : PlanFault)
    (h : s.mem.notices.length ≤ 32) : (s.refusePlan g t r).mem.notices.length ≤ 32 :=
  State.post_notices_length _ _ h

theorem State.startFetch_notices_length (s : State) (w : Wanted) (h : s.mem.notices.length ≤ 32) :
    (s.startFetch w).mem.notices.length ≤ 32 := by
  rcases s.startFetch_cases w with ⟨_, e⟩ | ⟨_, e⟩
  · rw [e]; exact State.refusePlan_notices_length _ _ _ _ h
  · rw [e]; exact h

theorem State.showPlan_notices_length (s : State) (x : HostHalf) (h : s.mem.notices.length ≤ 32) :
    (s.showPlan x).mem.notices.length ≤ 32 := by
  unfold State.showPlan; dsimp only
  split
  · exact h
  · split
    · exact State.startFetch_notices_length _ _ h
    · exact h

theorem State.finishFetch_notices_length (s : State) (x : Fetch) (r : FetchEnd) (h : s.mem.notices.length ≤ 32) :
    (s.finishFetch x r).mem.notices.length ≤ 32 := by
  unfold State.finishFetch; dsimp only
  split
  · split
    · exact State.refusePlan_notices_length _ _ _ _ h
    · exact h
  · split
    · exact h
    · exact State.startFetch_notices_length _ _ h

/-! ### The queue table (R83, R86, R88, R91) -/

@[simp] theorem PortBlock.unbindQueue_mode (b : PortBlock) (q : QueueId) : (b.unbindQueue q).mode = b.mode := by
  unfold PortBlock.unbindQueue; dsimp only; split <;> simp
@[simp] theorem PortBlock.acceptDemand_mode (b : PortBlock) (q : QueueId) (u : Nat) :
    (b.acceptDemand q u).mode = b.mode := by unfold PortBlock.acceptDemand; dsimp only; split <;> simp
@[simp] theorem PortBlock.reclassify_mode (b : PortBlock) (pl : Plan) (c : Account → Conduct) (p : Port) (q : QueueId) :
    (b.reclassify pl c p q).1.mode = b.mode := by
  unfold PortBlock.reclassify; dsimp only
  repeat' split
  all_goals simp
@[simp] theorem PortBlock.unbindQueue_openEpoch (b : PortBlock) (q : QueueId) : (b.unbindQueue q).openEpoch = b.openEpoch := by
  unfold PortBlock.unbindQueue; dsimp only; split <;> simp
@[simp] theorem PortBlock.acceptDemand_openEpoch (b : PortBlock) (q : QueueId) (u : Nat) :
    (b.acceptDemand q u).openEpoch = b.openEpoch := by unfold PortBlock.acceptDemand; dsimp only; split <;> simp
@[simp] theorem PortBlock.reclassify_openEpoch (b : PortBlock) (pl : Plan) (c : Account → Conduct) (p : Port) (q : QueueId) :
    (b.reclassify pl c p q).1.openEpoch = b.openEpoch := by
  unfold PortBlock.reclassify; dsimp only
  repeat' split
  all_goals simp
@[simp] theorem PortBlock.unbindQueue_table (b : PortBlock) (q : QueueId) : (b.unbindQueue q).table = b.table := by
  unfold PortBlock.unbindQueue; dsimp only; split <;> simp
@[simp] theorem PortBlock.acceptDemand_table (b : PortBlock) (q : QueueId) (u : Nat) :
    (b.acceptDemand q u).table = b.table := by unfold PortBlock.acceptDemand; dsimp only; split <;> simp
@[simp] theorem PortBlock.reclassify_table (b : PortBlock) (pl : Plan) (c : Account → Conduct) (p : Port) (q : QueueId) :
    (b.reclassify pl c p q).1.table = b.table := by
  unfold PortBlock.reclassify; dsimp only
  repeat' split
  all_goals simp
@[simp] theorem PortBlock.unbindQueue_tagCounter (b : PortBlock) (q : QueueId) : (b.unbindQueue q).tagCounter = b.tagCounter := by
  unfold PortBlock.unbindQueue; dsimp only; split <;> simp
@[simp] theorem PortBlock.acceptDemand_tagCounter (b : PortBlock) (q : QueueId) (u : Nat) :
    (b.acceptDemand q u).tagCounter = b.tagCounter := by unfold PortBlock.acceptDemand; dsimp only; split <;> simp
@[simp] theorem PortBlock.reclassify_tagCounter (b : PortBlock) (pl : Plan) (c : Account → Conduct) (p : Port) (q : QueueId) :
    (b.reclassify pl c p q).1.tagCounter = b.tagCounter := by
  unfold PortBlock.reclassify; dsimp only
  repeat' split
  all_goals simp
@[simp] theorem PortBlock.unbindQueue_urgentPtr (b : PortBlock) (q : QueueId) : (b.unbindQueue q).urgentPtr = b.urgentPtr := by
  unfold PortBlock.unbindQueue; dsimp only; split <;> simp
@[simp] theorem PortBlock.acceptDemand_urgentPtr (b : PortBlock) (q : QueueId) (u : Nat) :
    (b.acceptDemand q u).urgentPtr = b.urgentPtr := by unfold PortBlock.acceptDemand; dsimp only; split <;> simp
@[simp] theorem PortBlock.reclassify_urgentPtr (b : PortBlock) (pl : Plan) (c : Account → Conduct) (p : Port) (q : QueueId) :
    (b.reclassify pl c p q).1.urgentPtr = b.urgentPtr := by
  unfold PortBlock.reclassify; dsimp only
  repeat' split
  all_goals simp
@[simp] theorem PortBlock.unbindQueue_bulkPtr (b : PortBlock) (q : QueueId) : (b.unbindQueue q).bulkPtr = b.bulkPtr := by
  unfold PortBlock.unbindQueue; dsimp only; split <;> simp
@[simp] theorem PortBlock.acceptDemand_bulkPtr (b : PortBlock) (q : QueueId) (u : Nat) :
    (b.acceptDemand q u).bulkPtr = b.bulkPtr := by unfold PortBlock.acceptDemand; dsimp only; split <;> simp
@[simp] theorem PortBlock.reclassify_bulkPtr (b : PortBlock) (pl : Plan) (c : Account → Conduct) (p : Port) (q : QueueId) :
    (b.reclassify pl c p q).1.bulkPtr = b.bulkPtr := by
  unfold PortBlock.reclassify; dsimp only
  repeat' split
  all_goals simp
@[simp] theorem PortBlock.unbindQueue_counts (b : PortBlock) (q : QueueId) : (b.unbindQueue q).counts = b.counts := by
  unfold PortBlock.unbindQueue; dsimp only; split <;> simp
@[simp] theorem PortBlock.acceptDemand_counts (b : PortBlock) (q : QueueId) (u : Nat) :
    (b.acceptDemand q u).counts = b.counts := by unfold PortBlock.acceptDemand; dsimp only; split <;> simp
@[simp] theorem PortBlock.reclassify_counts (b : PortBlock) (pl : Plan) (c : Account → Conduct) (p : Port) (q : QueueId) :
    (b.reclassify pl c p q).1.counts = b.counts := by
  unfold PortBlock.reclassify; dsimp only
  repeat' split
  all_goals simp
@[simp] theorem PortBlock.unbindQueue_cells (b : PortBlock) (q : QueueId) : (b.unbindQueue q).cells = b.cells := by
  unfold PortBlock.unbindQueue; dsimp only; split <;> simp
@[simp] theorem PortBlock.acceptDemand_cells (b : PortBlock) (q : QueueId) (u : Nat) :
    (b.acceptDemand q u).cells = b.cells := by unfold PortBlock.acceptDemand; dsimp only; split <;> simp
@[simp] theorem PortBlock.reclassify_cells (b : PortBlock) (pl : Plan) (c : Account → Conduct) (p : Port) (q : QueueId) :
    (b.reclassify pl c p q).1.cells = b.cells := by
  unfold PortBlock.reclassify; dsimp only
  repeat' split
  all_goals simp
@[simp] theorem PortBlock.unbindQueue_capacity (b : PortBlock) (q : QueueId) : (b.unbindQueue q).capacity = b.capacity := by
  unfold PortBlock.unbindQueue; dsimp only; split <;> simp
@[simp] theorem PortBlock.acceptDemand_capacity (b : PortBlock) (q : QueueId) (u : Nat) :
    (b.acceptDemand q u).capacity = b.capacity := by unfold PortBlock.acceptDemand; dsimp only; split <;> simp
@[simp] theorem PortBlock.reclassify_capacity (b : PortBlock) (pl : Plan) (c : Account → Conduct) (p : Port) (q : QueueId) :
    (b.reclassify pl c p q).1.capacity = b.capacity := by
  unfold PortBlock.reclassify; dsimp only
  repeat' split
  all_goals simp
@[simp] theorem PortBlock.unbindQueue_served (b : PortBlock) (q : QueueId) : (b.unbindQueue q).served = b.served := by
  unfold PortBlock.unbindQueue; dsimp only; split <;> simp
@[simp] theorem PortBlock.acceptDemand_served (b : PortBlock) (q : QueueId) (u : Nat) :
    (b.acceptDemand q u).served = b.served := by unfold PortBlock.acceptDemand; dsimp only; split <;> simp
@[simp] theorem PortBlock.reclassify_served (b : PortBlock) (pl : Plan) (c : Account → Conduct) (p : Port) (q : QueueId) :
    (b.reclassify pl c p q).1.served = b.served := by
  unfold PortBlock.reclassify; dsimp only
  repeat' split
  all_goals simp
@[simp] theorem PortBlock.unbindQueue_totals (b : PortBlock) (q : QueueId) : (b.unbindQueue q).totals = b.totals := by
  unfold PortBlock.unbindQueue; dsimp only; split <;> simp
@[simp] theorem PortBlock.acceptDemand_totals (b : PortBlock) (q : QueueId) (u : Nat) :
    (b.acceptDemand q u).totals = b.totals := by unfold PortBlock.acceptDemand; dsimp only; split <;> simp
@[simp] theorem PortBlock.reclassify_totals (b : PortBlock) (pl : Plan) (c : Account → Conduct) (p : Port) (q : QueueId) :
    (b.reclassify pl c p q).1.totals = b.totals := by
  unfold PortBlock.reclassify; dsimp only
  repeat' split
  all_goals simp
@[simp] theorem PortBlock.unbindQueue_filter (b : PortBlock) (q : QueueId) : (b.unbindQueue q).filter = b.filter := by
  unfold PortBlock.unbindQueue; dsimp only; split <;> simp
@[simp] theorem PortBlock.acceptDemand_filter (b : PortBlock) (q : QueueId) (u : Nat) :
    (b.acceptDemand q u).filter = b.filter := by unfold PortBlock.acceptDemand; dsimp only; split <;> simp
@[simp] theorem PortBlock.reclassify_filter (b : PortBlock) (pl : Plan) (c : Account → Conduct) (p : Port) (q : QueueId) :
    (b.reclassify pl c p q).1.filter = b.filter := by
  unfold PortBlock.reclassify; dsimp only
  repeat' split
  all_goals simp
@[simp] theorem PortBlock.unbindQueue_inFlight (b : PortBlock) (q : QueueId) : (b.unbindQueue q).inFlight = b.inFlight := by
  unfold PortBlock.unbindQueue; dsimp only; split <;> simp
@[simp] theorem PortBlock.acceptDemand_inFlight (b : PortBlock) (q : QueueId) (u : Nat) :
    (b.acceptDemand q u).inFlight = b.inFlight := by unfold PortBlock.acceptDemand; dsimp only; split <;> simp
@[simp] theorem PortBlock.reclassify_inFlight (b : PortBlock) (pl : Plan) (c : Account → Conduct) (p : Port) (q : QueueId) :
    (b.reclassify pl c p q).1.inFlight = b.inFlight := by
  unfold PortBlock.reclassify; dsimp only
  repeat' split
  all_goals simp
@[simp] theorem PortBlock.unbindQueue_refused (b : PortBlock) (q : QueueId) : (b.unbindQueue q).refused = b.refused := by
  unfold PortBlock.unbindQueue; dsimp only; split <;> simp
@[simp] theorem PortBlock.acceptDemand_refused (b : PortBlock) (q : QueueId) (u : Nat) :
    (b.acceptDemand q u).refused = b.refused := by unfold PortBlock.acceptDemand; dsimp only; split <;> simp
@[simp] theorem PortBlock.reclassify_refused (b : PortBlock) (pl : Plan) (c : Account → Conduct) (p : Port) (q : QueueId) :
    (b.reclassify pl c p q).1.refused = b.refused := by
  unfold PortBlock.reclassify; dsimp only
  repeat' split
  all_goals simp
@[simp] theorem PortBlock.unbindQueue_values (b : PortBlock) (q : QueueId) : (b.unbindQueue q).values = b.values := by
  unfold PortBlock.unbindQueue; dsimp only; split <;> simp
@[simp] theorem PortBlock.acceptDemand_values (b : PortBlock) (q : QueueId) (u : Nat) :
    (b.acceptDemand q u).values = b.values := by unfold PortBlock.acceptDemand; dsimp only; split <;> simp
@[simp] theorem PortBlock.reclassify_values (b : PortBlock) (pl : Plan) (c : Account → Conduct) (p : Port) (q : QueueId) :
    (b.reclassify pl c p q).1.values = b.values := by
  unfold PortBlock.reclassify; dsimp only
  repeat' split
  all_goals simp
@[simp] theorem PortBlock.unbindQueue_deferred (b : PortBlock) (q : QueueId) : (b.unbindQueue q).deferred = b.deferred := by
  unfold PortBlock.unbindQueue; dsimp only; split <;> simp
@[simp] theorem PortBlock.acceptDemand_deferred (b : PortBlock) (q : QueueId) (u : Nat) :
    (b.acceptDemand q u).deferred = b.deferred := by unfold PortBlock.acceptDemand; dsimp only; split <;> simp
@[simp] theorem PortBlock.reclassify_deferred (b : PortBlock) (pl : Plan) (c : Account → Conduct) (p : Port) (q : QueueId) :
    (b.reclassify pl c p q).1.deferred = b.deferred := by
  unfold PortBlock.reclassify; dsimp only
  repeat' split
  all_goals simp
@[simp] theorem PortBlock.unbindQueue_closeOwed (b : PortBlock) (q : QueueId) : (b.unbindQueue q).closeOwed = b.closeOwed := by
  unfold PortBlock.unbindQueue; dsimp only; split <;> simp
@[simp] theorem PortBlock.acceptDemand_closeOwed (b : PortBlock) (q : QueueId) (u : Nat) :
    (b.acceptDemand q u).closeOwed = b.closeOwed := by unfold PortBlock.acceptDemand; dsimp only; split <;> simp
@[simp] theorem PortBlock.reclassify_closeOwed (b : PortBlock) (pl : Plan) (c : Account → Conduct) (p : Port) (q : QueueId) :
    (b.reclassify pl c p q).1.closeOwed = b.closeOwed := by
  unfold PortBlock.reclassify; dsimp only
  repeat' split
  all_goals simp
@[simp] theorem PortBlock.unbindQueue_changeOwed (b : PortBlock) (q : QueueId) : (b.unbindQueue q).changeOwed = b.changeOwed := by
  unfold PortBlock.unbindQueue; dsimp only; split <;> simp
@[simp] theorem PortBlock.acceptDemand_changeOwed (b : PortBlock) (q : QueueId) (u : Nat) :
    (b.acceptDemand q u).changeOwed = b.changeOwed := by unfold PortBlock.acceptDemand; dsimp only; split <;> simp
@[simp] theorem PortBlock.reclassify_changeOwed (b : PortBlock) (pl : Plan) (c : Account → Conduct) (p : Port) (q : QueueId) :
    (b.reclassify pl c p q).1.changeOwed = b.changeOwed := by
  unfold PortBlock.reclassify; dsimp only
  repeat' split
  all_goals simp
@[simp] theorem PortBlock.unbindQueue_allocDue (b : PortBlock) (q : QueueId) : (b.unbindQueue q).allocDue = b.allocDue := by
  unfold PortBlock.unbindQueue; dsimp only; split <;> simp
@[simp] theorem PortBlock.acceptDemand_allocDue (b : PortBlock) (q : QueueId) (u : Nat) :
    (b.acceptDemand q u).allocDue = b.allocDue := by unfold PortBlock.acceptDemand; dsimp only; split <;> simp
@[simp] theorem PortBlock.reclassify_allocDue (b : PortBlock) (pl : Plan) (c : Account → Conduct) (p : Port) (q : QueueId) :
    (b.reclassify pl c p q).1.allocDue = b.allocDue := by
  unfold PortBlock.reclassify; dsimp only
  repeat' split
  all_goals simp

/-- A fact about a port that reclassifying one queue keeps is kept by reclassifying them all (R91). -/
theorem PortBlock.reclassifyAll_induct {P : PortBlock → Prop} (pl : Plan) (c : Account → Conduct) (p : Port)
    (hq : ∀ (b : PortBlock) q, P b → P (b.reclassify pl c p q).1) (b : PortBlock) (h : P b) :
    P (b.reclassifyAll pl c p).1 := by
  have key : ∀ (l : List QueueId) (acc : PortBlock × List OutMsg), P acc.1 →
      P (l.foldl (fun acc q =>
        let r := acc.1.reclassify pl c p q
        (r.1, acc.2 ++ r.2)) acc).1 := by
    intro l
    induction l with
    | nil => exact fun _ h => h
    | cons q qs ih => exact fun acc h => ih _ (hq _ _ h)
  exact key _ _ h

@[simp] theorem PortBlock.reclassifyAll_mode (b : PortBlock) (pl : Plan) (c : Account → Conduct) (p : Port) :
    (b.reclassifyAll pl c p).1.mode = b.mode :=
  PortBlock.reclassifyAll_induct (P := fun x => x.mode = b.mode) pl c p (by intro x q h; simpa using h) b rfl
@[simp] theorem PortBlock.reclassifyAll_openEpoch (b : PortBlock) (pl : Plan) (c : Account → Conduct) (p : Port) :
    (b.reclassifyAll pl c p).1.openEpoch = b.openEpoch :=
  PortBlock.reclassifyAll_induct (P := fun x => x.openEpoch = b.openEpoch) pl c p (by intro x q h; simpa using h) b rfl
@[simp] theorem PortBlock.reclassifyAll_table (b : PortBlock) (pl : Plan) (c : Account → Conduct) (p : Port) :
    (b.reclassifyAll pl c p).1.table = b.table :=
  PortBlock.reclassifyAll_induct (P := fun x => x.table = b.table) pl c p (by intro x q h; simpa using h) b rfl
@[simp] theorem PortBlock.reclassifyAll_tagCounter (b : PortBlock) (pl : Plan) (c : Account → Conduct) (p : Port) :
    (b.reclassifyAll pl c p).1.tagCounter = b.tagCounter :=
  PortBlock.reclassifyAll_induct (P := fun x => x.tagCounter = b.tagCounter) pl c p (by intro x q h; simpa using h) b rfl
@[simp] theorem PortBlock.reclassifyAll_urgentPtr (b : PortBlock) (pl : Plan) (c : Account → Conduct) (p : Port) :
    (b.reclassifyAll pl c p).1.urgentPtr = b.urgentPtr :=
  PortBlock.reclassifyAll_induct (P := fun x => x.urgentPtr = b.urgentPtr) pl c p (by intro x q h; simpa using h) b rfl
@[simp] theorem PortBlock.reclassifyAll_bulkPtr (b : PortBlock) (pl : Plan) (c : Account → Conduct) (p : Port) :
    (b.reclassifyAll pl c p).1.bulkPtr = b.bulkPtr :=
  PortBlock.reclassifyAll_induct (P := fun x => x.bulkPtr = b.bulkPtr) pl c p (by intro x q h; simpa using h) b rfl
@[simp] theorem PortBlock.reclassifyAll_counts (b : PortBlock) (pl : Plan) (c : Account → Conduct) (p : Port) :
    (b.reclassifyAll pl c p).1.counts = b.counts :=
  PortBlock.reclassifyAll_induct (P := fun x => x.counts = b.counts) pl c p (by intro x q h; simpa using h) b rfl
@[simp] theorem PortBlock.reclassifyAll_cells (b : PortBlock) (pl : Plan) (c : Account → Conduct) (p : Port) :
    (b.reclassifyAll pl c p).1.cells = b.cells :=
  PortBlock.reclassifyAll_induct (P := fun x => x.cells = b.cells) pl c p (by intro x q h; simpa using h) b rfl
@[simp] theorem PortBlock.reclassifyAll_capacity (b : PortBlock) (pl : Plan) (c : Account → Conduct) (p : Port) :
    (b.reclassifyAll pl c p).1.capacity = b.capacity :=
  PortBlock.reclassifyAll_induct (P := fun x => x.capacity = b.capacity) pl c p (by intro x q h; simpa using h) b rfl
@[simp] theorem PortBlock.reclassifyAll_served (b : PortBlock) (pl : Plan) (c : Account → Conduct) (p : Port) :
    (b.reclassifyAll pl c p).1.served = b.served :=
  PortBlock.reclassifyAll_induct (P := fun x => x.served = b.served) pl c p (by intro x q h; simpa using h) b rfl
@[simp] theorem PortBlock.reclassifyAll_totals (b : PortBlock) (pl : Plan) (c : Account → Conduct) (p : Port) :
    (b.reclassifyAll pl c p).1.totals = b.totals :=
  PortBlock.reclassifyAll_induct (P := fun x => x.totals = b.totals) pl c p (by intro x q h; simpa using h) b rfl
@[simp] theorem PortBlock.reclassifyAll_filter (b : PortBlock) (pl : Plan) (c : Account → Conduct) (p : Port) :
    (b.reclassifyAll pl c p).1.filter = b.filter :=
  PortBlock.reclassifyAll_induct (P := fun x => x.filter = b.filter) pl c p (by intro x q h; simpa using h) b rfl
@[simp] theorem PortBlock.reclassifyAll_inFlight (b : PortBlock) (pl : Plan) (c : Account → Conduct) (p : Port) :
    (b.reclassifyAll pl c p).1.inFlight = b.inFlight :=
  PortBlock.reclassifyAll_induct (P := fun x => x.inFlight = b.inFlight) pl c p (by intro x q h; simpa using h) b rfl
@[simp] theorem PortBlock.reclassifyAll_refused (b : PortBlock) (pl : Plan) (c : Account → Conduct) (p : Port) :
    (b.reclassifyAll pl c p).1.refused = b.refused :=
  PortBlock.reclassifyAll_induct (P := fun x => x.refused = b.refused) pl c p (by intro x q h; simpa using h) b rfl
@[simp] theorem PortBlock.reclassifyAll_values (b : PortBlock) (pl : Plan) (c : Account → Conduct) (p : Port) :
    (b.reclassifyAll pl c p).1.values = b.values :=
  PortBlock.reclassifyAll_induct (P := fun x => x.values = b.values) pl c p (by intro x q h; simpa using h) b rfl
@[simp] theorem PortBlock.reclassifyAll_deferred (b : PortBlock) (pl : Plan) (c : Account → Conduct) (p : Port) :
    (b.reclassifyAll pl c p).1.deferred = b.deferred :=
  PortBlock.reclassifyAll_induct (P := fun x => x.deferred = b.deferred) pl c p (by intro x q h; simpa using h) b rfl
@[simp] theorem PortBlock.reclassifyAll_closeOwed (b : PortBlock) (pl : Plan) (c : Account → Conduct) (p : Port) :
    (b.reclassifyAll pl c p).1.closeOwed = b.closeOwed :=
  PortBlock.reclassifyAll_induct (P := fun x => x.closeOwed = b.closeOwed) pl c p (by intro x q h; simpa using h) b rfl
@[simp] theorem PortBlock.reclassifyAll_changeOwed (b : PortBlock) (pl : Plan) (c : Account → Conduct) (p : Port) :
    (b.reclassifyAll pl c p).1.changeOwed = b.changeOwed :=
  PortBlock.reclassifyAll_induct (P := fun x => x.changeOwed = b.changeOwed) pl c p (by intro x q h; simpa using h) b rfl
@[simp] theorem PortBlock.reclassifyAll_allocDue (b : PortBlock) (pl : Plan) (c : Account → Conduct) (p : Port) :
    (b.reclassifyAll pl c p).1.allocDue = b.allocDue :=
  PortBlock.reclassifyAll_induct (P := fun x => x.allocDue = b.allocDue) pl c p (by intro x q h; simpa using h) b rfl

/-- Every port's queues after a reclassification (R91). -/
@[simp] theorem State.reclassifyQueues_ports_get (s : State) (sched : List Port) (p : Port) :
    (s.reclassifyQueues sched).ports.get p =
      ((s.ports.get p).reclassifyAll s.plans.inForce s.conductOf p).1 := by
  simp [State.reclassifyQueues]

@[simp] theorem State.reclassifyQueues_conduct (s : State) (sched : List Port) : (s.reclassifyQueues sched).conduct = s.conduct := by simp [State.reclassifyQueues]
@[simp] theorem State.reclassifyQueues_scan (s : State) (sched : List Port) : (s.reclassifyQueues sched).scan = s.scan := by simp [State.reclassifyQueues]
@[simp] theorem State.reclassifyQueues_timer (s : State) (sched : List Port) : (s.reclassifyQueues sched).timer = s.timer := by simp [State.reclassifyQueues]
@[simp] theorem State.reclassifyQueues_plans (s : State) (sched : List Port) : (s.reclassifyQueues sched).plans = s.plans := by simp [State.reclassifyQueues]
@[simp] theorem State.reclassifyQueues_mem (s : State) (sched : List Port) : (s.reclassifyQueues sched).mem = s.mem := by simp [State.reclassifyQueues]
@[simp] theorem State.reclassifyQueues_win (s : State) (sched : List Port) : (s.reclassifyQueues sched).win = s.win := by simp [State.reclassifyQueues]
@[simp] theorem State.reclassifyQueues_pending (s : State) (sched : List Port) : (s.reclassifyQueues sched).pending = s.pending := by simp [State.reclassifyQueues]

theorem State.reclassifyQueues_output_length (s : State) (sched : List Port) (h : s.link.output.length ≤ 64) :
    (s.reclassifyQueues sched).link.output.length ≤ 64 := by
  unfold State.reclassifyQueues
  exact State.placeAll_output_length _ _ h

/-! ### Reinstatement and the other steps of an application (R138) -/

@[simp] theorem State.reinstateAll_link (s : State) (o : List Account) (e : Epoch) : (s.reinstateAll o e).link = s.link := by simp [State.reinstateAll]
@[simp] theorem State.reinstateAll_ports_get (s : State) (o : List Account) (e : Epoch) (p : Port) :
    (s.reinstateAll o e).ports.get p =
      { s.ports.get p with
        cells := (s.ports.get p).cells.mapIdx fun a c =>
          if decide ((s.conduct.recs.get a).state = Conduct.cutOff) && (s.plans.inForce.accounts.get a).reinstate then
            c.unstarved
          else c } := by
  simp [State.reinstateAll]
@[simp] theorem State.reinstateAll_scan (s : State) (o : List Account) (e : Epoch) : (s.reinstateAll o e).scan = s.scan := by simp [State.reinstateAll]
@[simp] theorem State.reinstateAll_timer (s : State) (o : List Account) (e : Epoch) : (s.reinstateAll o e).timer = s.timer := by simp [State.reinstateAll]
@[simp] theorem State.reinstateAll_plans (s : State) (o : List Account) (e : Epoch) : (s.reinstateAll o e).plans = s.plans := by simp [State.reinstateAll]
@[simp] theorem State.reinstateAll_win (s : State) (o : List Account) (e : Epoch) : (s.reinstateAll o e).win = s.win := by simp [State.reinstateAll]
@[simp] theorem State.reinstateAll_pending (s : State) (o : List Account) (e : Epoch) : (s.reinstateAll o e).pending = s.pending := by simp [State.reinstateAll]

/-- Every record after the reinstatements (R105). -/
@[simp] theorem State.reinstateAll_recs_get (s : State) (o : List Account) (e : Epoch) (a : Account) :
    (s.reinstateAll o e).conduct.recs.get a =
      if (s.conduct.recs.get a).state = .cutOff ∧ (s.plans.inForce.accounts.get a).reinstate = true then
        ConductRec.reset
      else s.conduct.recs.get a := by
  simp [State.reinstateAll, ConductRec.reinstate]

@[simp] theorem State.applyShares_link (s : State) (old : Plan) : (s.applyShares old).link = s.link := rfl
@[simp] theorem State.applyShares_conduct (s : State) (old : Plan) : (s.applyShares old).conduct = s.conduct := rfl
@[simp] theorem State.applyShares_scan (s : State) (old : Plan) : (s.applyShares old).scan = s.scan := rfl
@[simp] theorem State.applyShares_timer (s : State) (old : Plan) : (s.applyShares old).timer = s.timer := rfl
@[simp] theorem State.applyShares_plans (s : State) (old : Plan) : (s.applyShares old).plans = s.plans := rfl
@[simp] theorem State.applyShares_mem (s : State) (old : Plan) : (s.applyShares old).mem = s.mem := rfl
@[simp] theorem State.applyShares_win (s : State) (old : Plan) : (s.applyShares old).win = s.win := rfl
@[simp] theorem State.applyShares_pending (s : State) (old : Plan) : (s.applyShares old).pending = s.pending := rfl

@[simp] theorem State.applyShares_ports_get (s : State) (old : Plan) (p : Port) :
    (s.applyShares old).ports.get p =
      { s.ports.get p with
        cells := (s.ports.get p).cells.mapIdx fun a c => c.applyPlan (old.share p a) (s.plans.inForce.share p a) } := by
  simp [State.applyShares]

/-- A fact about the state that draining a port keeps is kept by draining the ports out of service (R42). -/
theorem State.drainOutOfService_induct {P : State → Prop} (order : List Port)
    (hd : ∀ (s : State) p, P s → P (s.enterDraining p)) (s : State) (h : P s) : P (s.drainOutOfService order) := by
  unfold State.drainOutOfService
  generalize fullOrder order = l
  induction l generalizing s with
  | nil => exact h
  | cons p ps ih =>
    apply ih
    dsimp only
    split
    · exact h
    · exact hd _ _ h

/-- A fact about the state that draining a port keeps is kept by draining every port (R147). -/
theorem State.drainAll_induct {P : State → Prop} (order : List Port)
    (hd : ∀ (s : State) p, P s → P (s.enterDraining p)) (s : State) (h : P s) : P (s.drainAll order) := by
  unfold State.drainAll
  generalize fullOrder order = l
  induction l generalizing s with
  | nil => exact h
  | cons p ps ih => exact ih _ (hd _ _ h)

/-- All that step 6 of an application can do outside the ports (R139). -/
theorem State.placeDeferred_cases (s : State) :
    let pl := s.plans.inForce
    let n : Timing := { lengthUs := pl.lengthUs, role := pl.role }
    let ps := s.ports.mapIdx fun p (b : PortBlock) => b.placeValues (pl.ports.get p).values pl.gen
    (s.allStandby = true ∧
      s.placeDeferred =
        { s with ports := ps, timer := s.timer.handOver n, plans := { s.plans with partDeferred := none } }) ∨
    (s.allStandby = false ∧ n = s.timer.timing ∧
      s.placeDeferred = { s with ports := ps, plans := { s.plans with partDeferred := none } }) ∨
    (s.allStandby = false ∧ n ≠ s.timer.timing ∧
      s.placeDeferred =
        { s with ports := ps, plans := { s.plans with partDeferred := some { timing := n, gen := pl.gen } } }) := by
  intro pl n ps
  unfold State.placeDeferred
  dsimp only
  split
  · exact .inl ⟨‹_›, rfl⟩
  · split
    · exact .inr (.inl ⟨Bool.eq_false_iff.2 ‹_›, ‹_›, rfl⟩)
    · exact .inr (.inr ⟨Bool.eq_false_iff.2 ‹_›, ‹_›, rfl⟩)

@[simp] theorem State.placeDeferred_link (s : State) : s.placeDeferred.link = s.link := by
  rcases s.placeDeferred_cases with ⟨_, e⟩ | ⟨_, _, e⟩ | ⟨_, _, e⟩ <;> simp [e]
@[simp] theorem State.placeDeferred_conduct (s : State) : s.placeDeferred.conduct = s.conduct := by
  rcases s.placeDeferred_cases with ⟨_, e⟩ | ⟨_, _, e⟩ | ⟨_, _, e⟩ <;> simp [e]
@[simp] theorem State.placeDeferred_scan (s : State) : s.placeDeferred.scan = s.scan := by
  rcases s.placeDeferred_cases with ⟨_, e⟩ | ⟨_, _, e⟩ | ⟨_, _, e⟩ <;> simp [e]
@[simp] theorem State.placeDeferred_mem (s : State) : s.placeDeferred.mem = s.mem := by
  rcases s.placeDeferred_cases with ⟨_, e⟩ | ⟨_, _, e⟩ | ⟨_, _, e⟩ <;> simp [e]
@[simp] theorem State.placeDeferred_win (s : State) : s.placeDeferred.win = s.win := by
  rcases s.placeDeferred_cases with ⟨_, e⟩ | ⟨_, _, e⟩ | ⟨_, _, e⟩ <;> simp [e]
@[simp] theorem State.placeDeferred_pending (s : State) : s.placeDeferred.pending = s.pending := by
  rcases s.placeDeferred_cases with ⟨_, e⟩ | ⟨_, _, e⟩ | ⟨_, _, e⟩ <;> simp [e]
@[simp] theorem State.placeDeferred_ports_get (s : State) (p : Port) :
    s.placeDeferred.ports.get p =
      (s.ports.get p).placeValues (s.plans.inForce.ports.get p).values s.plans.inForce.gen := by
  rcases s.placeDeferred_cases with ⟨_, e⟩ | ⟨_, _, e⟩ | ⟨_, _, e⟩ <;> simp [e]

@[simp] theorem PortBlock.placeValues_mode (b : PortBlock) (v : StandbyValues) (g : Word32) :
    (b.placeValues v g).mode = b.mode := by unfold PortBlock.placeValues; split <;> [rfl; (split <;> rfl)]
@[simp] theorem PortBlock.placeValues_openEpoch (b : PortBlock) (v : StandbyValues) (g : Word32) :
    (b.placeValues v g).openEpoch = b.openEpoch := by unfold PortBlock.placeValues; split <;> [rfl; (split <;> rfl)]
@[simp] theorem PortBlock.placeValues_table (b : PortBlock) (v : StandbyValues) (g : Word32) :
    (b.placeValues v g).table = b.table := by unfold PortBlock.placeValues; split <;> [rfl; (split <;> rfl)]
@[simp] theorem PortBlock.placeValues_tagCounter (b : PortBlock) (v : StandbyValues) (g : Word32) :
    (b.placeValues v g).tagCounter = b.tagCounter := by unfold PortBlock.placeValues; split <;> [rfl; (split <;> rfl)]
@[simp] theorem PortBlock.placeValues_urgentLists (b : PortBlock) (v : StandbyValues) (g : Word32) :
    (b.placeValues v g).urgentLists = b.urgentLists := by unfold PortBlock.placeValues; split <;> [rfl; (split <;> rfl)]
@[simp] theorem PortBlock.placeValues_bulkLists (b : PortBlock) (v : StandbyValues) (g : Word32) :
    (b.placeValues v g).bulkLists = b.bulkLists := by unfold PortBlock.placeValues; split <;> [rfl; (split <;> rfl)]
@[simp] theorem PortBlock.placeValues_urgentPtr (b : PortBlock) (v : StandbyValues) (g : Word32) :
    (b.placeValues v g).urgentPtr = b.urgentPtr := by unfold PortBlock.placeValues; split <;> [rfl; (split <;> rfl)]
@[simp] theorem PortBlock.placeValues_bulkPtr (b : PortBlock) (v : StandbyValues) (g : Word32) :
    (b.placeValues v g).bulkPtr = b.bulkPtr := by unfold PortBlock.placeValues; split <;> [rfl; (split <;> rfl)]
@[simp] theorem PortBlock.placeValues_counts (b : PortBlock) (v : StandbyValues) (g : Word32) :
    (b.placeValues v g).counts = b.counts := by unfold PortBlock.placeValues; split <;> [rfl; (split <;> rfl)]
@[simp] theorem PortBlock.placeValues_cells (b : PortBlock) (v : StandbyValues) (g : Word32) :
    (b.placeValues v g).cells = b.cells := by unfold PortBlock.placeValues; split <;> [rfl; (split <;> rfl)]
@[simp] theorem PortBlock.placeValues_capacity (b : PortBlock) (v : StandbyValues) (g : Word32) :
    (b.placeValues v g).capacity = b.capacity := by unfold PortBlock.placeValues; split <;> [rfl; (split <;> rfl)]
@[simp] theorem PortBlock.placeValues_served (b : PortBlock) (v : StandbyValues) (g : Word32) :
    (b.placeValues v g).served = b.served := by unfold PortBlock.placeValues; split <;> [rfl; (split <;> rfl)]
@[simp] theorem PortBlock.placeValues_totals (b : PortBlock) (v : StandbyValues) (g : Word32) :
    (b.placeValues v g).totals = b.totals := by unfold PortBlock.placeValues; split <;> [rfl; (split <;> rfl)]
@[simp] theorem PortBlock.placeValues_filter (b : PortBlock) (v : StandbyValues) (g : Word32) :
    (b.placeValues v g).filter = b.filter := by unfold PortBlock.placeValues; split <;> [rfl; (split <;> rfl)]
@[simp] theorem PortBlock.placeValues_inFlight (b : PortBlock) (v : StandbyValues) (g : Word32) :
    (b.placeValues v g).inFlight = b.inFlight := by unfold PortBlock.placeValues; split <;> [rfl; (split <;> rfl)]
@[simp] theorem PortBlock.placeValues_queues (b : PortBlock) (v : StandbyValues) (g : Word32) :
    (b.placeValues v g).queues = b.queues := by unfold PortBlock.placeValues; split <;> [rfl; (split <;> rfl)]
@[simp] theorem PortBlock.placeValues_refused (b : PortBlock) (v : StandbyValues) (g : Word32) :
    (b.placeValues v g).refused = b.refused := by unfold PortBlock.placeValues; split <;> [rfl; (split <;> rfl)]
@[simp] theorem PortBlock.placeValues_closeOwed (b : PortBlock) (v : StandbyValues) (g : Word32) :
    (b.placeValues v g).closeOwed = b.closeOwed := by unfold PortBlock.placeValues; split <;> [rfl; (split <;> rfl)]
@[simp] theorem PortBlock.placeValues_changeOwed (b : PortBlock) (v : StandbyValues) (g : Word32) :
    (b.placeValues v g).changeOwed = b.changeOwed := by unfold PortBlock.placeValues; split <;> [rfl; (split <;> rfl)]
@[simp] theorem PortBlock.placeValues_allocDue (b : PortBlock) (v : StandbyValues) (g : Word32) :
    (b.placeValues v g).allocDue = b.allocDue := by unfold PortBlock.placeValues; split <;> [rfl; (split <;> rfl)]

/-! ### The part-half writes that wait (R147, R151) -/

/-- All that issuing a waiting part-half write can do. -/
theorem State.issueOwed_cases (s : State) :
    (s.mem.writesOwed = [] ∧ s.issueOwed = s) ∨
    ∃ f rest, s.mem.writesOwed = f :: rest ∧
      s.issueOwed = { s with mem := { s.mem with writesOwed := rest } }.issuePartHalf f := by
  unfold State.issueOwed
  split
  · exact .inl ⟨‹_›, rfl⟩
  · exact .inr ⟨_, _, ‹_›, rfl⟩

@[simp] theorem State.issueOwed_link (s : State) : s.issueOwed.link = s.link := by
  rcases s.issueOwed_cases with ⟨_, e⟩ | ⟨_, _, _, e⟩ <;> simp [e]
@[simp] theorem State.issueOwed_ports (s : State) : s.issueOwed.ports = s.ports := by
  rcases s.issueOwed_cases with ⟨_, e⟩ | ⟨_, _, _, e⟩ <;> simp [e]
@[simp] theorem State.issueOwed_conduct (s : State) : s.issueOwed.conduct = s.conduct := by
  rcases s.issueOwed_cases with ⟨_, e⟩ | ⟨_, _, _, e⟩ <;> simp [e]
@[simp] theorem State.issueOwed_scan (s : State) : s.issueOwed.scan = s.scan := by
  rcases s.issueOwed_cases with ⟨_, e⟩ | ⟨_, _, _, e⟩ <;> simp [e]
@[simp] theorem State.issueOwed_timer (s : State) : s.issueOwed.timer = s.timer := by
  rcases s.issueOwed_cases with ⟨_, e⟩ | ⟨_, _, _, e⟩ <;> simp [e]
@[simp] theorem State.issueOwed_plans (s : State) : s.issueOwed.plans = s.plans := by
  rcases s.issueOwed_cases with ⟨_, e⟩ | ⟨_, _, _, e⟩ <;> simp [e]
@[simp] theorem State.issueOwed_win (s : State) : s.issueOwed.win = s.win := by
  rcases s.issueOwed_cases with ⟨_, e⟩ | ⟨_, _, _, e⟩ <;> simp [e]
@[simp] theorem State.issueOwed_pending (s : State) : s.issueOwed.pending = s.pending := by
  rcases s.issueOwed_cases with ⟨_, e⟩ | ⟨_, _, _, e⟩ <;> simp [e]
@[simp] theorem State.issueOwed_mem_mode (s : State) : s.issueOwed.mem.mode = s.mem.mode := by
  rcases s.issueOwed_cases with ⟨_, e⟩ | ⟨_, _, _, e⟩ <;> simp [e]
@[simp] theorem State.issueOwed_mem_produced (s : State) : s.issueOwed.mem.produced = s.mem.produced := by
  rcases s.issueOwed_cases with ⟨_, e⟩ | ⟨_, _, _, e⟩ <;> simp [e]
@[simp] theorem State.issueOwed_mem_consumed (s : State) : s.issueOwed.mem.consumed = s.mem.consumed := by
  rcases s.issueOwed_cases with ⟨_, e⟩ | ⟨_, _, _, e⟩ <;> simp [e]
@[simp] theorem State.issueOwed_mem_notices (s : State) : s.issueOwed.mem.notices = s.mem.notices := by
  rcases s.issueOwed_cases with ⟨_, e⟩ | ⟨_, _, _, e⟩ <;> simp [e]
@[simp] theorem State.issueOwed_mem_slots (s : State) : s.issueOwed.mem.slots = s.mem.slots := by
  rcases s.issueOwed_cases with ⟨_, e⟩ | ⟨_, _, _, e⟩ <;> simp [e]
@[simp] theorem State.issueOwed_mem_armed (s : State) : s.issueOwed.mem.armed = s.mem.armed := by
  rcases s.issueOwed_cases with ⟨_, e⟩ | ⟨_, _, _, e⟩ <;> simp [e]
@[simp] theorem State.issueOwed_mem_noted (s : State) : s.issueOwed.mem.noted = s.mem.noted := by
  rcases s.issueOwed_cases with ⟨_, e⟩ | ⟨_, _, _, e⟩ <;> simp [e]
@[simp] theorem State.issueOwed_mem_rewrite (s : State) : s.issueOwed.mem.rewrite = s.mem.rewrite := by
  rcases s.issueOwed_cases with ⟨_, e⟩ | ⟨_, _, _, e⟩ <;> simp [e]
@[simp] theorem State.issueOwed_mem_statement (s : State) : s.issueOwed.mem.statement = s.mem.statement := by
  rcases s.issueOwed_cases with ⟨_, e⟩ | ⟨_, _, _, e⟩ <;> simp [e]
@[simp] theorem State.issueOwed_mem_read (s : State) : s.issueOwed.mem.read = s.mem.read := by
  rcases s.issueOwed_cases with ⟨_, e⟩ | ⟨_, _, _, e⟩ <;> simp [e]
@[simp] theorem State.issueOwed_mem_abandoned (s : State) : s.issueOwed.mem.abandoned = s.mem.abandoned := by
  rcases s.issueOwed_cases with ⟨_, e⟩ | ⟨_, _, _, e⟩ <;> simp [e]
@[simp] theorem State.issueOwed_mem_pass (s : State) : s.issueOwed.mem.pass = s.mem.pass := by
  rcases s.issueOwed_cases with ⟨_, e⟩ | ⟨_, _, _, e⟩ <;> simp [e]
@[simp] theorem State.issueOwed_mem_passQueue (s : State) : s.issueOwed.mem.passQueue = s.mem.passQueue := by
  rcases s.issueOwed_cases with ⟨_, e⟩ | ⟨_, _, _, e⟩ <;> simp [e]
@[simp] theorem State.issueOwed_mem_journalWrite (s : State) : s.issueOwed.mem.journalWrite = s.mem.journalWrite := by
  rcases s.issueOwed_cases with ⟨_, e⟩ | ⟨_, _, _, e⟩ <;> simp [e]
@[simp] theorem State.issueOwed_mem_signalWrites (s : State) : s.issueOwed.mem.signalWrites = s.mem.signalWrites := by
  rcases s.issueOwed_cases with ⟨_, e⟩ | ⟨_, _, _, e⟩ <;> simp [e]

end Sys2Proof.Machine
end

