-- ==== Sys2Proof/Tests/Slice0.lean ====
section
/-! SUPPORT. Tests. First the well-formedness checks, each with a term it refuses; then single commands and operations
against the spec's own worked examples; then, for every statement with hypotheses, a state and operands that meet them all,
at the boundaries of their ranges where they have any. -/

namespace Sys2Proof

open Machine

set_option Elab.async false

/-! ### WellFormed: every check refuses an ill-formed term -/

theorem test_refuses_short_order : (Instr.stop [0, 1, 2]).wellFormed = false := by decide
theorem test_refuses_repeated_order : (Instr.transmitMessage [0, 1, 2, 2]).wellFormed = false := by decide
theorem test_refuses_short_host_half :
    (Instr.startReadComplete (.page (zeros 23) (zeros 36)) 0).wellFormed = false := by decide
theorem test_refuses_long_part_static :
    (Instr.startReadComplete (.page (zeros 24) (zeros 37)) 0).wellFormed = false := by decide
theorem test_refuses_pulse_of_mark_length : (Instr.syncPulse 0 500).wellFormed = false := by decide
theorem test_refuses_mark_of_pulse_length : (Instr.syncMark 0 499).wellFormed = false := by decide
theorem test_refuses_entry_examined_twice :
    (Instr.portClose 0 [{ tag := 3, sched := [] }, { tag := 3, sched := [] }]).wellFormed = false := by decide
theorem test_refuses_empty_account_order : (Instr.conductBoundary []).wellFormed = false := by decide
theorem test_refuses_plan_port_order : (Instr.planApplication [0] [] (List.finRange 48)).wellFormed = false := by decide
theorem test_refuses_plan_account_order :
    (Instr.planApplication [0, 1, 2, 3] [] [0, 0]).wellFormed = false := by decide
theorem test_refuses_host_half_of_25_bytes : (Instr.hostHalfReadComplete false (zeros 25)).wellFormed = false := by
  decide
theorem test_refuses_last_plan_read_of_5_bytes : (Instr.planFetchComplete (.data (zeros 5))).wellFormed = false := by
  decide
theorem test_refuses_empty_plan_read : (Instr.planReadComplete []).wellFormed = false := by decide
theorem test_accepts_order_of_ports : (Instr.stop [2, 0, 3, 1]).wellFormed = true := by decide
theorem test_accepts_mark : (Instr.syncMark 0 500).wellFormed = true := by decide

/-- The table gives no row bits, so no word spells a command. -/
theorem test_no_word_is_a_command : decodeTableWord 32 0x12345678 = none := rfl

/-! ### The check, and inbound messages as the switch sends them -/

/-- The reference value of R69: the ASCII digits 1 to 9. -/
theorem test_check_of_digits : crc16 [0x31, 0x32, 0x33, 0x34, 0x35, 0x36, 0x37, 0x38, 0x39] = 0x29B1 := by decide +kernel

/-- DEMAND(P2, queue 7, 300) of 4.7, its fields written out from 13.7. -/
theorem test_demand_is_handed_on :
    judgeInbound (withCheck [0x03, 0x02, 0x07, 0x00, 0x2C, 0x01]) = some (.demand 2 7 300) := by decide +kernel
/-- The same with one bit damaged: arrival 2 of 4.7. -/
theorem test_damaged_demand_is_discarded :
    judgeInbound ([0x03, 0x02, 0x07, 0x00, 0x2D, 0x01] ++ (withCheck [0x03, 0x02, 0x07, 0x00, 0x2C, 0x01]).drop 6) = none := by
  decide +kernel
/-- CLOSE(P5, …), arrival 3 of 4.7. -/
theorem test_close_on_port_5_is_discarded : judgeInbound (withCheck [0x04, 0x05, 0x03, 0, 0x40, 0]) = none := by
  decide +kernel
/-- BIND of queue 140, arrival 4 of 4.7. -/
theorem test_bind_of_queue_140_is_discarded : judgeInbound (withCheck [0x01, 2, 140, 1, 4, 0x12, 0, 0]) = none := by
  decide +kernel
/-- A GRANT coming in, arrival 5 of 4.7. -/
theorem test_grant_coming_in_is_discarded : judgeInbound (OutMsg.grant 2 7 9 64).wire = none := by decide +kernel
/-- LEVEL(P2, 6), arrival 6 of 4.7: handed on, and the raw level becomes 3. -/
theorem test_level_6_is_level_3 :
    judgeInbound (withCheck [0x05, 2, 6, 0]) = some (.level 2 6) ∧ levelOfByte 6 = 3 := by decide +kernel

/-! ### The worked allocations of 1.11 to 1.13 -/

/-- A cell of the worked allocations: floor, credit, ceiling, weight, demand. -/
def workedCell (conduct : Conduct) (f k c w d : Nat) : AllocInput :=
  { takesPart := true, floor := f, ceiling := c, credit := k, weight := w, demand := d, conduct := conduct }

/-- A port of which only some cells hold a share entry. -/
def workedPort (cells : List (Account × AllocInput)) : Tab 48 AllocInput :=
  cells.foldl (fun t x => t.set x.1 x.2)
    (Tab.fill 48
      { takesPart := false, floor := 0, ceiling := 0, credit := 0, weight := 0, demand := 0, conduct := .good })

/-- P2 in 1.11, with the state of A12 and the demand of A20. -/
def workedP2 (a12 : Conduct) (d20 : Nat) : Tab 48 AllocInput :=
  workedPort [(3, workedCell .good 2000 500 6000 4 3000), (7, workedCell .good 1500 0 3000 1 5000),
    (12, workedCell a12 1000 0 8000 3 8000), (20, workedCell .good 0 0 2000 2 d20)]

/-- P0 in 1.13. -/
def workedP0 : Tab 48 AllocInput :=
  workedPort [(1, workedCell .good 1000 200 3000 5 1500), (5, workedCell .good 600 0 1000 2 2000),
    (9, workedCell .good 700 400 2000 1 700), (14, workedCell .good 0 0 800 3 200)]

/-- The allowances of four accounts, and the sum over the port. -/
def figures (t : Tab 48 Nat) (a b c d : Account) : List Nat := [t.get a, t.get b, t.get c, t.get d, t.cells.sum]

theorem test_worked_allocation_1_11 :
    figures (allocate 7500 (workedP2 .good 1800)) 3 7 12 20 = [3000, 1833, 2000, 667, 7500] := by decide +kernel
theorem test_worked_allocation_1_12 :
    figures (allocate 7500 (workedP2 .restricted 1800)) 3 7 12 20 = [3000, 2167, 1000, 1333, 7500] := by decide +kernel
/-- A20's demand 300: 200 units stay idle. -/
theorem test_worked_allocation_1_12_idle :
    figures (allocate 7500 (workedP2 .restricted 300)) 3 7 12 20 = [3000, 3000, 1000, 300, 7300] := by decide +kernel
theorem test_worked_allocation_1_13 :
    figures (allocate 1984 workedP0) 1 5 9 14 = [952, 476, 556, 0, 1984] := by decide +kernel
/-- The cut-off of 1.14 while the allocation is in flight: A12 is marked. -/
theorem test_worked_allocation_1_14 :
    figures ({ epoch := 0, capacity := 7500, inputs := workedP2 .restricted 1800, marked := [12] } : Allocation).result
      3 7 12 20 = [3000, 2167, 0, 1333, 6500] := by decide +kernel

/-- A3 and A7 in the close of 1.11: A3 has spent its credit, A7 banks 300 and is starved. -/
theorem test_worked_close_1_11 :
    let share (f : Nat) : Option Machine.Share :=
      some { account := 3, port := 2, weight := 4, floor := f, ceiling := 6000, burst := 1000, rise := 0, fall := 0 }
    let a3 := { Cell.reset with
      allowance := 3000, issued := 2900, credit := 500, claim := 2500, epochFloor := 2000, demand := 3000 }
    let a7 := { Cell.reset with
      allowance := 1833, issued := 1200, claim := 1500, epochFloor := 1500, demand := 5000 }
    ((a3.closeStages (share 2000) .good true).credit, (a3.closeStages (share 2000) .good true).starved) = (0, 0) ∧
      ((a7.closeStages (share 1500) .good true).credit, (a7.closeStages (share 1500) .good true).starved) = (300, 1) := by
  decide

/-! ### Ramps and the level filter (2.3, 2.5) -/

/-- The weights of the first steps of a ramp. -/
def rampWeights (c : Curve) : Nat → Ramp → List Nat
  | 0, _ => []
  | n + 1, r => (r.advance c).weight :: rampWeights c n (r.advance c)

theorem test_linear_rise :
    rampWeights .linear 9 (Ramp.begin 0 3000 8 0) = [375, 750, 1125, 1500, 1875, 2250, 2625, 3000, 3000] := by decide
theorem test_steep_fall : rampWeights .steep 5 (Ramp.begin 2000 500 9 5) = [1977, 1924, 1801, 1514, 500] := by decide
theorem test_restarted_ramp : rampWeights .linear 4 (Ramp.begin 1125 600 8 4) = [994, 863, 732, 600] := by decide
theorem test_slow_steep_rise : rampWeights .steep 6 (Ramp.begin 0 200 16 0) = [0, 1, 3, 4, 7, 10] := by decide

/-- The accepted levels after samples of these raw levels, filter depth 3. -/
def accepted (f : Filter) : List Level → List Level
  | [] => []
  | l :: ls => (({ f with raw := l }).sample 3).accepted :: accepted (({ f with raw := l }).sample 3) ls

/-- Epochs 41 to 48 of 2.5. -/
theorem test_filter_sequence :
    accepted { raw := 0, history := [], accepted := 0 } [0, 2, 2, 2, 1, 1, 1, 0] = [0, 0, 0, 2, 2, 2, 1, 1] := by decide

/-! ### Numbers: bands, lengths, marks, statement numbers -/

theorem test_bands : [95, 96, 127, 128, 255, 256].map band =
    [.good, .warned, .warned, .restricted, .restricted, .cutOff] := by decide
/-- R119, R135: clamped, then rounded down to a multiple of 10. -/
theorem test_used_lengths : [4999, 15, 60000, 20, 39].map usedLength = [4990, 20, 5000, 20, 30] := by decide
/-- R123: the next multiple of 256, and 0 above the last one. -/
theorem test_realigned : [255, 256, 511, 0xFFFFFF00].map realigned = [256, 512, 512, 0] := by decide
/-- R161: the next odd number. -/
theorem test_next_odd : [0, 1, 7, 0xFFFFFFFF].map nextOdd = [1, 3, 9, 1] := by decide

/-! ### Single commands against the worked sequences -/

/-- The state a command leaves. -/
def after (c : Instr) (s : State) : State :=
  match exec c s with
  | .next t => t
  | _ => s

/-- A part that runs alone, its timer started at 0 with epochs of 100 µs. -/
def runningPart : State :=
  { State.reset with
    win := { Window.reset with run := true, mode := .running }
    timer := { Timer.reset with
      running := true, last := some 0, due := 100000, timing := { lengthUs := 100, role := .alone } } }

/-- A bound queue. -/
def boundQ (a : Account) (lane : Lane) (tally : Nat) : Queue :=
  { bound := true, source := 0, requested := lane, account := a, lane := lane, tally := tally,
    waiting := decide (0 < tally) }

/-- The queues waiting in their lists. -/
def waitingQueues (qs : List (QueueId × Queue)) (b : PortBlock) : PortBlock :=
  qs.foldl (fun b x => (b.modQueue x.1 fun _ => x.2).joinList x.2.lane x.2.account x.1) b

/-- P2 in 3.9 as its allocation of epoch 101 completes. -/
def portP2 : PortBlock :=
  { waitingQueues [(5, boundQ 3 .urgent 800), (9, boundQ 3 .bulk 2200), (17, boundQ 7 .bulk 5000),
      (30, boundQ 12 .bulk 8000), (44, boundQ 20 .bulk 1800)] PortBlock.reset with
    mode := .allocating
    openEpoch := 101
    capacity := 7500
    values := { cnom := 10000, quantum := 1024, life := 4 }
    inFlight := some { epoch := 101, capacity := 7500, inputs := workedP2 .good 1800, marked := [] } }

def stateP2 : State := runningPart.modPort 2 fun _ => portP2

/-- The nine grants of 3.9, in order. -/
theorem test_grants_of_3_9 :
    (after (.allocationComplete 2) stateP2).link.output =
      [.grant 2 0 5 800, .grant 2 1 9 1024, .grant 2 2 17 1024, .grant 2 3 30 1024, .grant 2 4 44 667,
        .grant 2 5 9 1024, .grant 2 6 17 809, .grant 2 7 30 976, .grant 2 8 9 152] := by decide +kernel

/-- What the grants of 3.9 leave: tag counter, pointers, issued net of A3, A7, A12 and A20. -/
theorem test_after_grants_of_3_9 :
    let b := (after (.allocationComplete 2) stateP2).ports.get 2
    (b.tagCounter, b.urgentPtr, b.bulkPtr, b.table.length) = (8, 3, 3, 9) ∧
      [3, 7, 12, 20].map (fun a => (b.cells.get a).issued) = [3000, 1833, 2000, 667] := by decide +kernel

/-- Close 2 of 3.9: the return of 400 units leads to a grant of 400 under tag 9. -/
theorem test_close_2_of_3_9 :
    (after (.close 2 6 409 false []) (after (.allocationComplete 2) stateP2)).link.output.getLast? =
      some (.grant 2 9 17 400) := by decide +kernel

/-- Close 3 of 3.9: an overrun of 33 units charges A20 with 8. -/
theorem test_close_3_of_3_9 :
    let s := after (.close 2 4 700 true []) (after (.allocationComplete 2) stateP2)
    ((s.ports.get 2).counts.overrun, (s.conduct.recs.get 20).score, (s.cell 2 20).issued) = (33, 8, 667) := by
  decide +kernel

/-- The rules of 5.7. -/
def rulesP2 : List Machine.Rule :=
  let every : Tab 4 Bool := Tab.fill 4 true
  let only : Tab 4 Bool := (Tab.fill 4 false).set 2 true
  [{ value := 0x120400, mask := 0xFFFF00, ports := every, account := 3, treatment := .asBound },
    { value := 0x120000, mask := 0xFF0000, ports := only, account := 7, treatment := .asBound },
    { value := 0x340000, mask := 0xFF0000, ports := every, account := 12, treatment := .bulk },
    { value := 0x780000, mask := 0xFF0000, ports := only, account := 15, treatment := .asBound },
    { value := 0, mask := 0, ports := every.set 3 false, account := 20, treatment := .asBound }]

def planP2 : Plan :=
  { emptyPlan with
    gen := 41
    ports := emptyPlan.ports.map fun r => { r with inService := true }
    rules := rulesP2
    accounts := (emptyPlan.accounts.modify 3 fun r => { r with urgentPermitted := true }).modify 20
      fun r => { r with urgentPermitted := true }
    shares := [{ account := 7, port := 2, weight := 1, floor := 1500, ceiling := 3000, burst := 0, rise := 0, fall := 0 },
      { account := 3, port := 2, weight := 4, floor := 2000, ceiling := 6000, burst := 0, rise := 0, fall := 0 }] }

def ruledPart : State := { runningPart with plans := { PlanUnit.reset with inForce := planP2 } }

/-- The account and lane a BIND on P2 leaves. -/
def boundTo (q : QueueId) (src : Word24) (lane : Lane) : Bool × Account × Lane :=
  let x := (after (.bind 2 q src lane) ruledPart).queue 2 q
  (x.bound, x.account, x.lane)

/-- The five BINDs of 5.7 on P2. -/
theorem test_binds_of_5_7 :
    [boundTo 5 0x120417 .urgent, boundTo 9 0x120480 .bulk, boundTo 17 0x1203A0 .urgent, boundTo 30 0x340010 .urgent,
      boundTo 44 0x560001 .bulk] =
      [(true, 3, .urgent), (true, 3, .bulk), (true, 7, .bulk), (true, 12, .bulk), (true, 20, .bulk)] := by decide +kernel

/-- The BIND of 5.7 on P3. -/
theorem test_unclassified_bind_of_5_7 :
    (after (.bind 3 60 0x560001 .bulk) ruledPart).link.output = [.refuse 3 60 .unclassified] := by decide +kernel

/-- Queues 17, 30 and 44 of P2 at the market open of 5.8, and queue 61 of P3. -/
def marketOpen : State :=
  let q (src : Word24) (want lane : Lane) (a : Account) (tally : Nat) : Queue :=
    { bound := true, source := src, requested := want, account := a, lane := lane, tally := tally, waiting := true }
  let plan := { planP2 with
    rules := rulesP2.eraseIdx 2
    accounts := planP2.accounts.modify 7 fun r => { r with urgentPermitted := true } }
  let s := { runningPart with plans := { PlanUnit.reset with inForce := planP2, staged := some plan, owed := [{ epoch := 102, hold := false, ripe := true }] } }
  (s.modPort 2 fun b => { waitingQueues [(17, q 0x1203A0 .urgent .bulk 7 2767), (30, q 0x340010 .urgent .bulk 12 6000),
      (44, q 0x560001 .bulk .bulk 20 1133)] b with mode := .granting }).modPort 3
    fun b => { waitingQueues [(61, q 0x340020 .bulk .bulk 12 400)] b with mode := .granting }

theorem test_market_open_of_5_8 :
    let s := after (.planApplication [] [] []) marketOpen
    let x (p : Port) (q : QueueId) := ((s.queue p q).account, (s.queue p q).lane, (s.queue p q).tally)
    [x 2 17, x 2 30, x 2 44] = [(7, .urgent, 2767), (20, .urgent, 6000), (20, .bulk, 1133)] ∧
      ((s.queue 3 61).bound, (s.queue 3 61).tally) = (false, 0) ∧
      s.link.output = [.refuse 3 61 .unclassified] ∧
      (s.ports.get 2).list .urgent 20 = [30] ∧ (s.ports.get 2).list .bulk 12 = [] := by decide +kernel

/-- A14 at 90 in 6.7: the overrun of epoch 700. -/
theorem test_charge_of_6_7 :
    let s := (runningPart.modConduct 14 fun r => { r with score := 90 }).charge 14 8 []
    ((s.conduct.recs.get 14).score, s.mem.notices) = (98, [.conductChange 14 .good .warned 98 0]) := by decide +kernel

/-- A14 at 96 in 6.7: the boundary ending 703. -/
theorem test_decay_of_6_7 :
    let s := after (.conductBoundary []) { runningPart with conduct :=
      { recs := runningPart.conduct.recs.modify 14 fun r => { r with score := 96, activity := true }, owed := [704] } }
    ((s.conduct.recs.get 14).score, s.mem.notices) = (95, [.conductChange 14 .warned .good 95 704]) := by decide +kernel

/-- A8 on P1 in 4.6: three LIVE entries, a score of 252 and 62 messages waiting. -/
def cutOffPart : State :=
  let e (t : Tag) : Entry := { tag := t, queue := 33, account := 8, units := 1024, issued := 520, age := 0, state := .live }
  ({ runningPart.modConduct 8 fun r => { r with score := 252 } with
      link := { Link.reset with output := List.replicate 62 (.grant 3 0 0 1) } }).modPort 1
    fun b => { b with mode := .granting, openEpoch := 520, table := [e 12, e 15, e 20] }

theorem test_cut_off_of_4_6 :
    let s := after (.close 1 15 1100 false []) cutOffPart
    s.link.output.drop 62 = [.revoke 1 12, .revoke 1 20] ∧ s.conductOf 8 = .cutOff ∧
      (s.ports.get 1).table.map (fun e => (e.tag, e.state)) = [(12, .lapsed), (20, .lapsed)] := by decide +kernel

/-- The scan of 7.5 at the boundary ending 502: cells 1, 5 and 9 have reached 3. -/
def starvedPart : State :=
  let starve (b : PortBlock) (x : Account × Nat × Nat) : PortBlock :=
    b.modCell x.1 fun c => { c with starved := 3, lastFloor := x.2.1, lastNet := x.2.2 }
  ({ runningPart with
      scan := { Scan.reset with state := .sweeping, owed := [503] }
      plans := { PlanUnit.reset with inForce := { emptyPlan with scanS := 3 } } }).modPort 0
    fun b => [(1, 1000, 952), (5, 600, 476), (9, 700, 556)].foldl starve b

theorem test_finding_of_7_5 :
    let s := after .sweep starvedPart
    s.mem.notices = [.starvationFinding 0 1 3 1000 952 503] ∧ s.scan.state = .halted ∧ s.scan.cursor = 1 := by
  decide +kernel

/-- 7.5, the host's consumed counts 7,405 and 7,411: the finding at 7,410 has not passed, and has. -/
theorem test_finding_passed_of_7_5 :
    let sc : Scan := { state := .halted, cursor := 1, finding := some { cell := 1, position := some 7410 }, owed := [] }
    ((sc.checkConsumed 7415 7405).state, (sc.checkConsumed 7418 7411).state, (sc.checkConsumed 7418 7411).cursor) =
      (.halted, .sweeping, 2) := by decide

/-- F in 8.8: a follower of 100 µs, with its sync state, epoch number, last boundary and own next boundary, in ns. -/
def follower (y : SyncState) (e : Epoch) (last due : Moment) : State :=
  { runningPart with timer := { runningPart.timer with
      timing := { lengthUs := 100, role := .follower }, sync := y, epoch := e, last := some last, due := due } }

/-- The mark at 537.8 µs. -/
theorem test_mark_of_8_8 :
    let s := after (.syncMark 537800 800) (follower .seeking 5 500000 600000)
    (s.timer.epoch, s.timer.sync, s.timer.due, s.mem.notices) =
      (256, .locked, 637800, [.syncChange .locked 256 5]) := by decide +kernel
/-- The pulse at 637.2 µs, and the stray one at 960 µs. -/
theorem test_pulses_of_8_8 :
    (after (.syncPulse 637200 200) (follower .locked 256 537800 637800)).timer.epoch = 257 ∧
      (after (.syncPulse 960000 150) (follower .locked 260 937200 1037200)).timer.epoch = 260 := by decide +kernel
/-- The loss at 1,087.2 µs: the next own boundary is at 1,137.2 µs. -/
theorem test_loss_of_8_8 :
    let s := after (.lossOfLock 1087200) (follower .locked 260 937200 1037200)
    (s.timer.epoch, s.timer.sync, s.timer.due, s.mem.notices) =
      (261, .seeking, 1137200, [.syncChange .lost 261 260]) := by decide +kernel

/-- The journal of 11.6 at the boundary ending 800: one notice and two reports, 4 records of room. -/
def slowHost : State :=
  let r (p : Port) : Report := formReport p PortBlock.reset PortBlock.reset
  { runningPart with mem := { MemSide.reset with
      capacity := 64, journalBase := 4096, produced := 3000, consumed := 2940, signalMask := 32, signalAddr := 8
      notices := [.conductChange 1 .good .warned 96 800]
      slots := (MemSide.reset.slots.set 0 { held := some (r 0), waiting := none }).set 1
        { held := some (r 1), waiting := none } } }

/-- The pass of 11.6 is four completed writes: counts 3,000 to 3,002, then P1's report waits, and the part-half write is
signalling and carries 3,003. -/
theorem test_pass_of_11_6 :
    let s := after .journalWriteComplete (after .journalWriteComplete (after .journalWriteComplete
      (slowHost.startPass (.boundary true))))
    s.mem.produced = 3003 ∧ s.mem.journalWrite = none ∧
      s.mem.partHalf.map (fun w => (w.signalling, w.produced)) = some (true, 3003) ∧
      (s.mem.slots.get 1).held.isSome = true := by decide +kernel

/-- After a resumption the report whose write failed is written again with its count, the queued notices after it (R153). -/
theorem test_failed_report_comes_first :
    let s := after (.hostHalfReadComplete false (zeros 24)) { slowHost with
      mem := { slowHost.mem with rewrite := some 1, read := some { resumption := true, writes := false } } }
    s.mem.journalWrite.map JournalWrite.count = some 3000 ∧
      (s.mem.journalWrite.map JournalWrite.item).any (fun x => decide (x = .first 1
        (formReport 1 PortBlock.reset PortBlock.reset))) = true ∧ s.mem.notices.length = 2 := by decide +kernel

/-- A boundary that replaces the read of the one before: that one's part-half write is made (R150, R151). -/
theorem test_boundary_replaces_a_read :
    let s := after (.boundary 100000)
      { runningPart with mem := { MemSide.reset with read := some { resumption := false, writes := true } } }
    s.mem.abandoned = 1 ∧ s.mem.partHalf.isSome = true ∧ s.mem.read = some { resumption := false, writes := true } := by
  decide +kernel

/-- A RUN in PARKED without a control page, and with one. -/
theorem test_run_checks_the_page :
    (after .run State.reset).win.refusal = .baseInvalid ∧
      (after .run { State.reset with win := { Window.reset with pageLo := 0x1000 } }).win.mode = .starting := by
  decide +kernel
/-- A STOP while the read of STARTING is in flight withdraws the start (R144). -/
theorem test_stop_withdraws_a_start :
    (after (.stop []) { State.reset with win := { Window.reset with mode := .starting, run := true, startRead := true } }).win
      = { Window.reset with mode := .starting, startRead := true, withdrawn := true } := by decide +kernel
/-- A part with every port in STANDBY parks after a STOP: its final part-half write is in flight (R147). -/
theorem test_stop_parks :
    let s := after (.stop []) runningPart
    s.win.parking = true ∧ s.mem.partHalf.map PartHalfWrite.final = some true ∧
      (after .partHalfWriteComplete s).win.mode = .parked := by decide +kernel
/-- PART_STAT of a part in RUNNING with its memory side in FAULTED on the journal at epoch 0x12345 (13.2). -/
theorem test_part_stat :
    ({ runningPart with
        mem := { MemSide.reset with mode := .faulted, region := .journal }
        timer := { runningPart.timer with epoch := 0x12345 } } : State).partStat = 0x23450016 := by decide +kernel

/-! ### Witnesses: the hypotheses of each statement, met together -/

/-- One port of a running part. -/
def withPort (f : PortBlock → PortBlock) : State := runningPart.modPort 0 f

/-- A memory side with `n` notices waiting. -/
def withNotices (n : Nat) : MemSide := { MemSide.reset with notices := List.replicate n (.memoryResumed .none 0) }

theorem witness_StopDrainsEveryPort :
    runningPart.win.mode = .running ∧ State.reset.win.mode = .parked ∧
      ({ runningPart.win with mode := .stopping } : Window).mode = .stopping := by decide

/-- STARTING with its read in flight. -/
def startingPart (withdrawn : Bool) : State :=
  { State.reset with win := { Window.reset with mode := .starting, run := true, startRead := true, withdrawn := withdrawn } }

/-- Part-static fields: journal base, capacity, usage base, signal address and value. -/
def statics (base capacity usage : Nat) : List Byte :=
  leBytes 8 base ++ leBytes 4 capacity ++ zeros 4 ++ leBytes 8 usage ++ leBytes 8 8 ++ leBytes 4 1

theorem witness_StartReadEndsTheStart_state : ∀ w, (startingPart w).win.mode = .starting ∧
    (startingPart w).win.startRead = true ∧ (startingPart w).win.withdrawn = w := by decide
theorem witness_StopDrainsEveryPort_withdrawal :
    (startingPart false).win.mode = .starting ∧ (startingPart false).win.startRead = true := by decide
theorem witness_StartReadEndsTheStart_passes_smallest :
    startChecks (staticsOf (statics 32 64 64)) (hostHalfOf (zeros 24)) none :=
  .inl ⟨rfl, ⟨by decide, by decide, 6, by decide, by decide, by decide⟩, by decide, by decide⟩
theorem witness_StartReadEndsTheStart_passes_largest :
    startChecks (staticsOf (statics 4096 32768 4096)) (hostHalfOf (zeros 24)) none :=
  .inl ⟨rfl, ⟨by decide, by decide, 15, by decide, by decide, by decide⟩, by decide, by decide⟩
theorem witness_StartReadEndsTheStart_bad_journal :
    startChecks (staticsOf (statics 16 64 64)) (hostHalfOf (zeros 24)) (some .badJournal) :=
  .inr (.inl ⟨rfl, fun h => absurd h.2.1 (by decide)⟩)
theorem witness_StartReadEndsTheStart_bad_usage :
    startChecks (staticsOf (statics 32 64 32)) (hostHalfOf (zeros 24)) (some .badUsageBase) :=
  .inr (.inr (.inl ⟨rfl, ⟨by decide, by decide, 6, by decide, by decide, by decide⟩, fun h => absurd h.2 (by decide)⟩))
theorem witness_StartReadEndsTheStart_journal_count :
    startChecks (staticsOf (statics 32 64 64)) (hostHalfOf (zeros 20 ++ leBytes 4 1)) (some .journalCount) :=
  .inr (.inr (.inr ⟨rfl, ⟨by decide, by decide, 6, by decide, by decide, by decide⟩, by decide, by decide⟩))

/-- What the start does with the scan and the plan unit: a HALTED scan whose finding has its journal position, an IDLE one; a
generation shown that is not known, at an address that no fetch reads from, and generation 0. -/
theorem witness_StartReadEndsTheStart_scan_and_plan :
    let f : Finding := { cell := 191, position := some 7410 }
    let s := { startingPart false with scan := { state := .halted, cursor := 191, finding := some f, owed := [] } }
    s.scan.state = .halted ∧ s.scan.finding = some f ∧ f.position = some 7410 ∧ (startingPart false).scan.state ≠ .halted ∧
      refusesAtOnce s.plans (hostHalfOf (leBytes 8 4 ++ leBytes 4 42 ++ zeros 12)) ∧
      ¬refusesAtOnce s.plans (hostHalfOf (zeros 24)) := by
  refine ⟨rfl, rfl, rfl, by decide, ⟨?_, rfl, by decide⟩, fun h => h.1 (.inl (by decide))⟩
  rintro (h | h | ⟨_, h, _⟩ | ⟨_, h, _⟩ | h)
  · exact absurd h (by decide)
  · exact absurd h (by decide)
  · cases h
  · cases h
  · cases h

theorem witness_BindOfAnUnboundQueue : (State.reset.queue 3 127).bound = false := by decide +kernel

/-- Queue 5 of P0 bound to A7, waiting with 10 units. -/
def demandPort (mode : PortMode) : State :=
  { withPort fun b => { waitingQueues [(5, boundQ 7 .bulk 10)] b with mode := mode } with
    plans := { PlanUnit.reset with inForce := { emptyPlan with shares :=
      [{ account := 7, port := 0, weight := 1, floor := 0, ceiling := 100, burst := 0, rise := 0, fall := 0 }] } } }

theorem witness_BindOfABoundQueue :
    let s := demandPort .allocating
    (s.queue 0 5).bound = true ∧ ((s.queue 0 5).source = 0 ∧ (s.queue 0 5).requested = .bulk) ∧
      ¬((s.queue 0 5).source = 1 ∧ (s.queue 0 5).requested = .bulk) ∧ (s.queue 0 5).tally ≠ 0 := by decide +kernel
theorem witness_BindOfABoundQueue_rebind :
    let s := withPort fun b => b.modQueue 5 fun _ => boundQ 7 .bulk 0
    (s.queue 0 5).bound = true ∧ ¬((s.queue 0 5).source = 0 ∧ (s.queue 0 5).requested = .urgent) ∧
      (s.queue 0 5).tally = 0 ∧ ∀ e ∈ (s.ports.get 0).table, e.state = .live → e.queue ≠ 5 := by decide +kernel
theorem witness_UnbindReleasesTheQueue :
    ((demandPort .allocating).queue 0 5).bound = true ∧ ((demandPort .allocating).queue 0 6).bound = false := by
  decide +kernel

theorem witness_DemandRefusedByTheFirstCase :
    let s := demandPort .allocating
    demandReason s 0 6 = some .unbound ∧ demandReason (demandPort .standby) 0 5 = some .portClosed ∧
      demandReason (demandPort .draining) 0 5 = some .portClosed ∧
      demandReason (s.modConduct 7 fun r => { r with score := 256 }) 0 5 = some .cutOff ∧
      demandReason { s with plans := PlanUnit.reset } 0 5 = some .noShare := by decide +kernel
theorem witness_DemandAcceptedInAllocating :
    let s := (demandPort .allocating).modConduct 7 fun r => { r with score := 255 }
    demandReason s 0 5 = none ∧ (s.ports.get 0).mode = .allocating := by decide +kernel
theorem witness_GrantingPortRunsUntilNothingIsLeft :
    demandReason (demandPort .granting) 0 5 = none ∧ ((demandPort .granting).ports.get 0).mode = .granting := by
  decide +kernel

/-- A table entry of P0. -/
def entryOf (t : Tag) (st : EntryState) (age : Nat) : Entry :=
  { tag := t, queue := 5, account := 7, units := 100, issued := 0, age := age, state := st }

/-- One place left in the output queue, one slot in the table. -/
theorem witness_GrantTakesItsSevenEffects :
    let s := { (demandPort .granting).modPort 0 fun b =>
        { b with table := (List.range 31).map fun i => entryOf (BitVec.ofNat 8 i) .live 0 } with
      link := { Link.reset with output := List.replicate 63 (.revoke 0 0) } }
    (s.ports.get 0).list .bulk 7 = 5 :: [] ∧ s.link.output.length < 64 ∧ (s.ports.get 0).table.length < 32 := by
  decide +kernel

/-- Somebody may be served on P0, and nobody; and a run may begin. -/
theorem witness_GrantTakesItsSevenEffects_choice :
    let s := (demandPort .granting).modPort 0 fun b => b.modCell 7 fun c => { c with allowance := 1 }
    s.choose 0 = some (.bulk, 7) ∧ runningPart.choose 0 = none ∧ (s.ports.get 0).mode = .granting ∧
      (s.ports.get 0).table.length < 32 ∧ s.link.output.length < 64 := by decide +kernel

/-- The largest port, queue and units of a DEMAND, and a message that carries none. -/
theorem witness_DiscardsAreCounted :
    carries (withCheck [0x03, 3, 127, 0, 0xFF, 0xFF]) (.demand 3 127 65535) ∧ ∀ m, ¬carries [] m :=
  ⟨⟨by decide +kernel, by decide +kernel, by decide +kernel, by decide +kernel, by decide +kernel, by decide +kernel,
    by decide +kernel⟩, fun _ h => absurd h.1 (by decide)⟩

theorem witness_TransmitterTakesTheHead :
    cutOffPart.link.output = .grant 3 0 0 1 :: List.replicate 61 (.grant 3 0 0 1) ∧
      (cutOffPart.ports.get 1).mode = .granting ∧ (cutOffPart.ports.get 0).mode ≠ .granting := by decide +kernel

/-- P0 in a state, with two entries: tag 7 LIVE, tag 9 LAPSED, both at an age. -/
def tablePort (mode : PortMode) (age : Nat) : State :=
  withPort fun b => { b with mode := mode, table := [entryOf 7 .live age, entryOf 9 .lapsed age] }

/-- What the closes of both entries find. -/
def found (s : State) (t : Tag) : Option Entry := (s.ports.get 0).table.find? fun x => decide (x.tag = t)

/-- Used units equal to the grant: the largest that CloseReturnsUnusedUnits takes. -/
theorem witness_CloseReturnsUnusedUnits :
    let s := tablePort .allocating 0
    found s 7 = some (entryOf 7 .live 0) ∧ (entryOf 7 .live 0).state = .live ∧
      (100 : Word16).toNat ≤ (entryOf 7 .live 0).units ∧ (s.ports.get 0).mode = .allocating := by decide +kernel
/-- The same in GRANTING, with the entry issued in the open epoch, and in DRAINING, with the entry of tag 9 left. -/
theorem witness_CloseReturnsUnusedUnits_other_states :
    let g := tablePort .granting 0
    let d := tablePort .draining 0
    found g 7 = some (entryOf 7 .live 0) ∧ (g.ports.get 0).mode = .granting ∧
      (entryOf 7 .live 0).issued = (g.ports.get 0).openEpoch ∧ found d 7 = some (entryOf 7 .live 0) ∧
      (d.ports.get 0).mode = .draining ∧
      (d.ports.get 0).table.filter (fun x => decide (x.tag ≠ 7)) ≠ [] := by decide +kernel
/-- One unit more: the smallest overrun. -/
theorem witness_OverrunIsChargedToTheAccount :
    found (tablePort .allocating 0) 7 = some (entryOf 7 .live 0) ∧
      found (tablePort .granting 0) 7 = some (entryOf 7 .live 0) ∧ (entryOf 7 .live 0).state = .live ∧
      (entryOf 7 .live 0).units < (101 : Word16).toNat ∧ ((tablePort .allocating 0).ports.get 0).mode = .allocating ∧
      ((tablePort .granting 0).ports.get 0).mode = .granting := by decide +kernel
/-- The same overrun by the last entry of a DRAINING port. -/
theorem witness_OverrunIsChargedToTheAccount_draining :
    let s := withPort fun b => { b with mode := .draining, table := [entryOf 7 .live 0] }
    found s 7 = some (entryOf 7 .live 0) ∧ (entryOf 7 .live 0).units < (101 : Word16).toNat ∧
      (s.ports.get 0).mode = .draining ∧ (s.ports.get 0).table.filter (fun x => decide (x.tag ≠ 7)) = [] := by
  decide +kernel
/-- The bands of R96 under a charge: 87 goes to 95 and 119 to 127 without a notice, 88 to 96 and 120 to 128 with one. -/
theorem test_charges_at_the_bands :
    [87, 88, 119, 120].map (fun n =>
      let s := (runningPart.modConduct 14 fun r => { r with score := n }).charge 14 8 []
      ((s.conduct.recs.get 14).score, s.mem.notices)) =
      [(95, []), (96, [.conductChange 14 .good .warned 96 0]), (127, []),
        (128, [.conductChange 14 .warned .restricted 128 0])] := by decide +kernel
/-- A score of 248 is the lowest that the charge carries to 256, in either port state. -/
theorem witness_OverrunIsChargedToTheAccount_cut_off :
    ∀ m, m = .allocating ∨ m = .granting →
      let s := (tablePort m 0).modConduct 7 fun r => { r with score := 248 }
      found s 7 = some (entryOf 7 .live 0) ∧ (s.ports.get 0).mode = m ∧
        (s.conduct.recs.get (entryOf 7 .live 0).account).score < 256 ∧
        248 ≤ (s.conduct.recs.get (entryOf 7 .live 0).account).score := by
  rintro m (rfl | rfl) <;> decide +kernel
theorem witness_LateCloseIsOnlyCounted :
    found (tablePort .allocating 0) 9 = some (entryOf 9 .lapsed 0) ∧ (entryOf 9 .lapsed 0).state = .lapsed ∧
      ((tablePort .allocating 0).ports.get 0).mode = .allocating := by decide +kernel
/-- In GRANTING, in DRAINING with the entry of tag 7 left, and in DRAINING with none left. -/
theorem witness_LateCloseIsOnlyCounted_other_states :
    let last := withPort fun b => { b with mode := .draining, table := [entryOf 9 .lapsed 0] }
    found (tablePort .granting 0) 9 = some (entryOf 9 .lapsed 0) ∧ ((tablePort .granting 0).ports.get 0).mode = .granting ∧
      found (tablePort .draining 0) 9 = some (entryOf 9 .lapsed 0) ∧
      ((tablePort .draining 0).ports.get 0).mode = .draining ∧
      ((tablePort .draining 0).ports.get 0).table.filter (fun x => decide (x.tag ≠ 9)) ≠ [] ∧
      found last 9 = some (entryOf 9 .lapsed 0) ∧ (last.ports.get 0).mode = .draining ∧
      (last.ports.get 0).table.filter (fun x => decide (x.tag ≠ 9)) = [] := by decide +kernel
theorem witness_StrayCloseIsOnlyCounted : ∀ e ∈ ((tablePort .granting 0).ports.get 0).table, e.tag ≠ 8 := by
  decide +kernel
/-- With room for one notice more, and with the notice queue full. -/
theorem witness_LastCloseOfADrainingPort :
    let s (n : Nat) := { withPort fun b => { b with mode := .draining, table := [entryOf 9 .lapsed 0] } with
      mem := withNotices n }
    ∀ n ∈ [31, 32], ((s n).ports.get 0).mode = .draining ∧ ((s n).ports.get 0).table = [entryOf 9 .lapsed 0] ∧
      (entryOf 9 .lapsed 0).tag = 9 ∧ (entryOf 9 .lapsed 0).state = .lapsed ∧ (s n).mem.notices.length = n := by
  decide +kernel
theorem witness_LastCloseOfADrainingPort_within_its_grant :
    let s := withPort fun b => { b with mode := .draining, table := [entryOf 7 .live 0] }
    (s.ports.get 0).mode = .draining ∧ (s.ports.get 0).table = [entryOf 7 .live 0] ∧ (entryOf 7 .live 0).tag = 7 ∧
      (entryOf 7 .live 0).state = .live ∧ (100 : Word16).toNat ≤ (entryOf 7 .live 0).units := by decide +kernel

/-- Lifetime 4: age 4 has reached it, age 3 has not. -/
theorem witness_StageFourExaminesOneEntry :
    let s := tablePort .granting 4
    let y := tablePort .granting 3
    found s 7 = some (entryOf 7 .live 4) ∧ found s 9 = some (entryOf 9 .lapsed 4) ∧
      (s.ports.get 0).values.life ≤ (entryOf 7 .live 4).age ∧ (s.ports.get 0).mode ≠ .draining ∧
      found y 7 = some (entryOf 7 .live 3) ∧ ¬(y.ports.get 0).values.life ≤ (entryOf 7 .live 3).age := by decide +kernel

/-- The last entry of a DRAINING port, LAPSED, at its lifetime; and one of two. -/
theorem witness_StageFourExaminesOneEntry_draining :
    let s := withPort fun b => { b with mode := .draining, table := [entryOf 9 .lapsed 4] }
    let y := tablePort .draining 4
    found s 9 = some (entryOf 9 .lapsed 4) ∧ (s.ports.get 0).values.life ≤ (entryOf 9 .lapsed 4).age ∧
      (s.ports.get 0).mode = .draining ∧ ((entryRemoved s 0 9).ports.get 0).table = [] ∧
      found y 9 = some (entryOf 9 .lapsed 4) ∧ ((entryRemoved y 0 9).ports.get 0).table ≠ [] := by decide +kernel

/-- A score of 252 is the lowest that the charge carries to 256. -/
theorem witness_StageFourExaminesOneEntry_cut_off :
    let s := (tablePort .granting 4).modConduct 7 fun r => { r with score := 252 }
    found s 7 = some (entryOf 7 .live 4) ∧ (s.ports.get 0).values.life ≤ (entryOf 7 .live 4).age ∧
      (s.conduct.recs.get (entryOf 7 .live 4).account).score < 256 ∧
      252 ≤ (s.conduct.recs.get (entryOf 7 .live 4).account).score := by decide +kernel

/-- A boundary's read still in flight, with no part-half write in flight and none waiting. -/
theorem witness_boundaryMade :
    let m : MemSide := { MemSide.reset with read := some { resumption := false, writes := true } }
    m.mode = .serving ∧ m.read = some { resumption := false, writes := true } ∧ m.partHalf = none ∧
      m.finalDue = false := by decide
/-- 0.1 µs before and after the due moment, and the moments next to these. -/
theorem witness_OwnBoundaryAdvancesTheEpoch :
    runningPart.timer.running = true ∧ runningPart.timer.sync ≠ .locked ∧
      (∀ now ∈ [99900, 100100], runningPart.timer.due ≤ now + 100 ∧ now ≤ runningPart.timer.due + 100) ∧
      99899 + 100 < runningPart.timer.due ∧ runningPart.timer.due + 100 < 100101 := by decide

/-- The window of R124 at both its ends and just before it, and signals of 50, 499 and 500 ns. -/
theorem witness_FollowerTakesPulsesAndMarks :
    let s := follower .locked 255 100000 200000
    let e2 := 500 * s.timer.timing.lengthUs
    s.timer.running = true ∧ s.timer.timing.role = .follower ∧ s.timer.last = some 100000 ∧ s.timer.pending = none ∧
      s.timer.sync = .locked ∧ (follower .seeking 5 100000 200000).timer.sync = .seeking ∧
      (100000 + e2 ≤ 150000 ∧ 150000 ≤ 100000 + 3 * e2 ∧ s.timer.started + 50 ≤ 150000) ∧
      (100000 + e2 ≤ 250000 ∧ 250000 ≤ 100000 + 3 * e2 ∧ s.timer.started + 499 ≤ 250000) ∧
      (100000 ≤ 149999 ∧ 149999 < 100000 + e2 ∧ s.timer.started + 500 ≤ 149999) := by decide
/-- The first moment after the window, timing pending, and a part that leads. -/
theorem witness_FollowerTakesPulsesAndMarks_otherwise :
    let s := follower .locked 255 100000 200000
    let y := { s with timer := { s.timer with pending := some { lengthUs := 200, role := .follower } } }
    100000 + 3 * (500 * s.timer.timing.lengthUs) < 250001 ∧ s.timer.started + 50 ≤ 250001 ∧
      y.timer.sync = .locked ∧ (∀ n, y.timer.pending = some n → n.role = .follower) ∧
      ({ y.timer with timing := { lengthUs := 100, role := .leader } } : Timer).timing.role ≠ .follower := by
  refine ⟨by decide, by decide, rfl, fun n h => ?_, by decide⟩
  cases h; rfl
/-- A follower with a full notice queue, at a mark in LOCKED, at one in SEEKING, and at the loss of lock. -/
theorem witness_FollowerTakesPulsesAndMarks_full_queue :
    ∀ y, y = .locked ∨ y = .seeking →
      let s := { follower y 5 100000 200000 with mem := withNotices 32 }
      s.timer.running = true ∧ s.timer.timing.role = .follower ∧ s.timer.last = some 100000 ∧ s.timer.sync = y ∧
        s.timer.started + 500 ≤ 200000 ∧ 100000 + 500 * s.timer.timing.lengthUs ≤ 200000 ∧
        200000 ≤ 100000 + 1500 * s.timer.timing.lengthUs ∧
        BitVec.ofNat 32 (nextMultiple s.timer.epoch) ≠ s.timer.epoch + 1 ∧ s.mem.notices.length = 32 := by
  rintro y (rfl | rfl) <;> decide
/-- At 3E/2, 0.1 µs later, and the moments before and after these. -/
theorem witness_LossOfLockIsFoundAtThreeHalves :
    let s := follower .locked 260 937200 1037200
    let found := 937200 + 1500 * s.timer.timing.lengthUs
    s.timer.running = true ∧ s.timer.timing.role = .follower ∧ s.timer.sync = .locked ∧ s.timer.last = some 937200 ∧
      (∀ now ∈ [1087200, 1087300], found ≤ now ∧ now ≤ found + 100) ∧ 937200 ≤ 1087199 ∧ 1087199 < found ∧
      found + 100 < 1087301 := by decide

/-- P0 owing the close of the boundary that began epoch 102. -/
def closingPort (mode : PortMode) : State :=
  withPort fun b => { b with
    mode := mode, openEpoch := 101, served := true, closeOwed := [102], changeOwed := [102], capacity := 4294967295,
    totals := { effective := 4294967295, allocated := 4294967295, idle := 0 },
    cells := b.cells.set 7 { Cell.reset with allowance := 4294967295, issued := 4294967295 } }

theorem witness_PortCloseSettlesTheEpoch :
    ∀ m, m = .allocating ∨ m = .granting →
      ((closingPort m).ports.get 0).closeOwed = 102 :: [] ∧ ((closingPort m).ports.get 0).inFlight = none ∧
        ((closingPort m).ports.get 0).table = [] ∧ ((closingPort m).ports.get 0).mode = m := by
  rintro m (rfl | rfl) <;> decide +kernel
/-- A LIVE entry of A7 whose expiry takes a score of 251 to 255, one of each state that stays, and a LAPSED one that goes. -/
theorem witness_PortCloseSettlesTheEpoch_with_grants :
    let s := ((closingPort .granting).modPort 0 fun b => { b with
      table := [entryOf 7 .live 3, entryOf 8 .live 2, entryOf 9 .lapsed 2, entryOf 10 .lapsed 3] }).modConduct 7
        fun r => { r with score := 251 }
    ((s.ports.get 0).table.map Entry.tag).Nodup ∧ 1 ≤ (s.ports.get 0).values.life ∧
      (∀ a, expiring (s.ports.get 0).table 4 a = 0 ∨ (s.conduct.recs.get a).score + 4 *
        expiring (s.ports.get 0).table 4 a < 256) ∧
      ¬((s.ports.get 0).mode = .draining ∧ (s.ports.get 0).table.filterMap (aged 4) = []) := by decide +kernel
/-- A DRAINING port whose last entry is removed. -/
theorem witness_PortCloseSettlesTheEpoch_rests :
    let s := (closingPort .draining).modPort 0 fun b => { b with table := [entryOf 9 .lapsed 3] }
    (s.ports.get 0).closeOwed = 102 :: [] ∧ (s.ports.get 0).inFlight = none ∧ (s.ports.get 0).mode ≠ .standby ∧
      ((s.ports.get 0).table.map Entry.tag).Nodup ∧ 1 ≤ (s.ports.get 0).values.life ∧ s.mem.notices.length < 32 ∧
      (∀ a, expiring (s.ports.get 0).table 4 a = 0) ∧
      (∀ p', p' ≠ 0 → (s.ports.get p').mode = .standby) ∧ (s.ports.get 0).mode = .draining ∧
      (s.ports.get 0).table.filterMap (aged 4) = [] := by decide +kernel
/-- A report of P0 being written, and a journal write of another. -/
theorem witness_CloseHandsOverItsReport_being_written :
    let r := formReport 0 PortBlock.reset PortBlock.reset
    let m (p : Port) : MemSide := { MemSide.reset with
      journalWrite := some { item := .continuation p r, count := 1, write := { addr := 0, data := [] } } }
    reportBeingWritten (m 0) 0 ∧ ¬reportBeingWritten (m 1) 0 ∧ ¬reportBeingWritten MemSide.reset 0 := by decide +kernel
/-- A DRAINING port with one LIVE entry that expires, at a score of 251, and one that stays. -/
theorem witness_CloseHandsOverItsReport_with_grants :
    let s := ((closingPort .draining).modPort 0 fun b => { b with
      table := [entryOf 7 .live 3, entryOf 8 .live 2] }).modConduct 7 fun r => { r with score := 251 }
    (s.ports.get 0).closeOwed = 102 :: [] ∧ (s.ports.get 0).inFlight = none ∧ (s.ports.get 0).mode ≠ .standby ∧
      ((s.ports.get 0).table.map Entry.tag).Nodup ∧ 1 ≤ (s.ports.get 0).values.life ∧
      (∀ a, expiring (s.ports.get 0).table (s.ports.get 0).values.life a = 0 ∨ (s.conduct.recs.get a).score + 4 *
        expiring (s.ports.get 0).table (s.ports.get 0).values.life a < 256) ∧
      ¬((s.ports.get 0).mode = .draining ∧
        (s.ports.get 0).table.filterMap (aged (s.ports.get 0).values.life) = []) := by decide +kernel
/-- The largest sums that the report's fields hold. -/
theorem witness_CloseHandsOverItsReport :
    let s := closingPort .granting
    (s.ports.get 0).closeOwed = 102 :: [] ∧ (s.ports.get 0).inFlight = none ∧ (s.ports.get 0).table = [] ∧
      (s.ports.get 0).mode = .granting ∧ (s.ports.get 0).totals.effective ≤ 4294967295 ∧
      (s.ports.get 0).sumCells Cell.allowance ≤ (s.ports.get 0).totals.effective ∧
      (s.ports.get 0).sumCells Cell.issued ≤ 4294967295 := by decide +kernel

/-- Depth 2 with two equal last samples, and depth 4 with one that differs; a full history. -/
theorem witness_LevelIsAcceptedWhenSamplesAgree :
    let f : Filter := { raw := 3, history := [0, 1, 2, 3], accepted := 0 }
    (1 ≤ 2 ∧ 2 ≤ 4 ∧ f.history.length ≤ 4 ∧ 2 ≤ (f.sample 2).history.length ∧
      ∀ x ∈ (f.sample 2).history.drop ((f.sample 2).history.length - 2), x = f.raw) ∧
    ¬(4 ≤ (f.sample 4).history.length ∧
      ∀ x ∈ (f.sample 4).history.drop ((f.sample 4).history.length - 4), x = f.raw) := by decide

/-- P0 in service in each state, owing two boundaries of which the plan unit has taken the first: a port that closes has
taken its close of it, and one that rests owes both closes and takes none. -/
theorem witness_StateChangeAtABoundary :
    ∀ m, m = .standby ∨ m = .allocating ∨ m = .granting ∨ m = .draining →
      let s := { withPort fun b => { b with
          mode := m, changeOwed := [102, 103], closeOwed := if m = .standby then [102, 103] else [103] } with
        plans := { PlanUnit.reset with inForce := planP2, owed := [{ epoch := 103, hold := false, ripe := false }] } }
      (s.ports.get 0).changeOwed = 102 :: [103] ∧ s.plans.owed.length ≤ [103].length ∧ (s.ports.get 0).mode = m ∧
        ((s.ports.get 0).closeOwed.length ≤ [103].length ∨ (s.ports.get 0).mode = .standby) ∧
        (s.plans.inForce.ports.get 0).inService = true ∧ s.win.mode = .running := by
  rintro m (rfl | rfl | rfl | rfl) <;> decide +kernel
/-- The ordinary departure from STANDBY, with the notice queue full: the port owes the close that it does not take. -/
theorem witness_StateChangeAtABoundary_from_standby :
    let s := { withPort fun b => { b with changeOwed := [102], closeOwed := [102] } with
      plans := { PlanUnit.reset with inForce := planP2 }
      mem := withNotices 32 }
    (s.ports.get 0).changeOwed = [102] ∧ s.plans.owed.length ≤ ([] : List Epoch).length ∧ (s.ports.get 0).mode = .standby ∧
      ([] : List Epoch).length < (s.ports.get 0).closeOwed.length ∧ s.mem.notices.length = 32 ∧
      (s.plans.inForce.ports.get 0).inService = true ∧ s.win.mode = .running := by decide +kernel
/-- The boundary not yet taken by the plan unit; and a GRANTING port that owes its close of it. -/
theorem witness_StateChangeAtABoundary_not_ready :
    let s := { withPort fun b => { b with changeOwed := [102] } with
      plans := { PlanUnit.reset with owed := [{ epoch := 102, hold := false, ripe := false }] } }
    let y := withPort fun b => { b with mode := .granting, changeOwed := [102], closeOwed := [102] }
    (s.ports.get 0).changeOwed = 102 :: [] ∧ ¬s.plans.owed.length ≤ ([] : List Epoch).length ∧
      (y.ports.get 0).changeOwed = 102 :: [] ∧ y.plans.owed.length ≤ ([] : List Epoch).length ∧ ¬((y.ports.get 0).closeOwed.length ≤ ([] : List Epoch).length ∨
        (y.ports.get 0).mode = .standby) := by decide +kernel
theorem witness_AllocationStartTakesItsCopies :
    let s := (demandPort .allocating).modPort 0 fun b => { b with allocDue := true }
    (s.ports.get 0).mode = .allocating ∧ (s.ports.get 0).allocDue = true ∧ (s.ports.get 0).inFlight = none ∧
      (s.ports.get 0).closeOwed = [] ∧ (s.ports.get 0).changeOwed = [] ∧ s.plans.owed = [] ∧ s.conduct.owed = [] ∧
      (s.plans.inForce.share 0 7).isSome = true ∧ (s.conduct.recs.get 7).score < 256 := by decide +kernel
/-- P2 of 3.9 delivers; with a close waiting it does not. -/
theorem witness_AllocationIsDeliveredOrDiscarded :
    let al : Allocation := { epoch := 101, capacity := 7500, inputs := workedP2 .good 1800, marked := [] }
    (stateP2.ports.get 2).inFlight = some al ∧ (stateP2.ports.get 2).mode = .allocating ∧
      al.epoch = (stateP2.ports.get 2).openEpoch ∧ (stateP2.ports.get 2).closeOwed = [] := by decide +kernel

/-- 1.12 (claims fit, A12 RESTRICTED, others take no part) and 1.13 (claims do not fit). -/
theorem witness_AllocationKeepsToWantsAndClaims :
    ((workedP2 .restricted 1800).cells.map AllocInput.claim).sum ≤ 5000 ∧
      ((workedP2 .restricted 1800).get 12).conduct = .restricted ∧ ((workedP2 .restricted 1800).get 0).takesPart = false ∧
      1984 < (workedP0.cells.map AllocInput.claim).sum := by decide +kernel
/-- 1.12: three cells want more than their claims, and the first round satisfies A3 alone. -/
theorem witness_AllocationKeepsToWantsAndClaims_excess :
    let i := workedP2 .restricted 1800
    let claim := i.map AllocInput.claim
    claim.cells.sum = 5000 ∧ (wantingCells i claim).map Wanting.account = [3, 7, 20] ∧
      ((wantingCells i claim).filter fun e => decide (e.want ≤ e.share 2500 7)).map Wanting.account = [3] := by
  decide +kernel
/-- A3 of the variant of 1.12 with idle capacity. -/
theorem witness_IdleCapacityMeansNoWantIsLeft :
    ((workedP2 .restricted 300).get 3).takesPart = true ∧ ((workedP2 .restricted 300).get 3).conduct = .good ∧
      0 < ((workedP2 .restricted 300).get 3).weight := by decide +kernel
theorem witness_RampStaysBetweenStartAndTarget :
    (Ramp.begin 0 3000 8 0).length ≤ 8 ∧ (Ramp.begin 2000 500 9 5).length ≤ 5 ∧ (Ramp.begin 7 7 8 8).length ≤ 0 := by
  decide

/-- A7 in CUT_OFF after 31 quiet boundaries, the conduct unit owing one. -/
def recoveringPart : State :=
  { runningPart.modConduct 7 fun r => { r with score := 256, quiet := 31 } with
    plans := { PlanUnit.reset with inForce :=
      { emptyPlan with accounts := emptyPlan.accounts.modify 7 fun r => { r with autoRecovery := true } } } }

theorem witness_ConductTakesABoundary :
    let s := { recoveringPart with conduct := { recoveringPart.conduct with owed := [933] } }
    s.conduct.owed = 933 :: [] ∧ 256 ≤ (s.conduct.recs.get 7).score ∧
      (s.plans.inForce.accounts.get 7).autoRecovery = true ∧ (s.conduct.recs.get 7).demand = false ∧
      min 32 ((s.conduct.recs.get 7).quiet + 1) = 32 ∧ s.mem.notices.length < 32 ∧
      (s.conduct.recs.get 0).score < 256 ∧ s.win.mode = .running := by decide +kernel
theorem witness_ConductTakesABoundary_parked :
    let s := { State.reset with conduct := { State.reset.conduct with owed := [933] } }
    s.conduct.owed = 933 :: [] ∧ ¬(s.win.mode = .running ∨ s.win.mode = .stopping) := by decide +kernel

/-- The part of 7.5 with the cursor behind cell 1: it is the 192nd cell of the sweep. -/
theorem witness_SweepReportsTheFirstStarvedCell :
    let s := { starvedPart.modPort 0 fun b => [5, 9].foldl (fun b a => b.modCell a Cell.unstarved) b with
      scan := { starvedPart.scan with cursor := 2 } }
    s.scan.owed = 503 :: [] ∧ s.scan.state = .sweeping ∧ s.mem.notices.length < 32 ∧
      s.plans.inForce.scanS ≤ (s.cellAt (Fin.ofNat 192 (s.scan.cursor.val + 191))).starved ∧
      (s.cellAt (Fin.ofNat 192 (s.scan.cursor.val + 191))).reported = false ∧
      ∀ m < 191, ¬(s.plans.inForce.scanS ≤ (s.cellAt (Fin.ofNat 192 (s.scan.cursor.val + m))).starved ∧
        (s.cellAt (Fin.ofNat 192 (s.scan.cursor.val + m))).reported = false) := by decide +kernel
/-- The same with a full notice queue, and a part where no cell is starved. -/
theorem witness_SweepReportsTheFirstStarvedCell_otherwise :
    32 ≤ (List.replicate 32 (Notice.memoryResumed .none 0)).length ∧
      ∀ n < 192, ¬(3 ≤ (runningPart.cellAt (Fin.ofNat 192 n)).starved ∧
        (runningPart.cellAt (Fin.ofNat 192 n)).reported = false) := by decide +kernel

/-- An IDLE scan and a HALTED one, each owing a boundary. -/
theorem witness_SweepReportsTheFirstStarvedCell_not_sweeping :
    ∀ y, y = .idle ∨ y = .halted →
      let s := { starvedPart with scan := { starvedPart.scan with state := y } }
      s.scan.owed = 503 :: [] ∧ s.scan.state ≠ .sweeping := by
  rintro y (rfl | rfl) <;> decide

theorem witness_PlanIsAppliedWhole :
    marketOpen.plans.owed = { epoch := 102, hold := false, ripe := true } :: [] ∧ marketOpen.plans.staged.isSome = true ∧
      marketOpen.win.mode = .running := by decide +kernel
/-- P3 of the market open: its lists are sound, with a queue waiting that no rule of the new plan takes. -/
theorem witness_PlanIsAppliedWhole_lists :
    (marketOpen.ports.get 3).listsSound ∧ (marketOpen.ports.get 3).list .bulk 12 = [61] :=
  ⟨⟨fun l => by cases l <;> decide +kernel, fun l => by cases l <;> decide +kernel, by decide +kernel, by decide +kernel⟩,
    by decide +kernel⟩
theorem witness_PlanIsAppliedWhole_nothing_staged :
    let d : PlanDue := { epoch := 102, hold := false, ripe := false }
    let s := { runningPart with plans := { PlanUnit.reset with owed := [d] } }
    s.plans.owed = d :: [] ∧ s.plans.staged = none := by decide +kernel
theorem witness_PlanIsAppliedWhole_held :
    let d : PlanDue := { epoch := 102, hold := true, ripe := true }
    let s := { marketOpen with plans := { marketOpen.plans with owed := [d] } }
    s.plans.owed = d :: [] ∧ s.plans.staged.isSome = true ∧
      ¬(d.ripe = true ∧ d.hold = false ∧ s.win.mode = .running) := by decide +kernel

/-- The fixed part of a plan of generation 42 (13.4), with these counts, its ports with these first five bytes. -/
def planBytes (gen : Nat) (port : List Byte) (entries rules : Nat) : List Byte :=
  leBytes 4 gen ++ leBytes 2 9 ++ zeros 2 ++ leBytes 2 4999 ++ zeros 14 ++ (List.replicate 4 (padTo 16 port)).flatten
    ++ zeros 48 ++ leBytes 2 entries ++ leBytes 2 rules ++ zeros 4

/-- A part whose fetch of generation 42 has read these bytes. -/
def fetching (data : List Byte) : State :=
  { runningPart with plans := { PlanUnit.reset with
      wanted := some { gen := 42, addr := 8 }, fetch := some { gen := 42, addr := 8, data := data } } }

theorem witness_PlanFetchIsStagedOrRefused_first_read :
    let b := planBytes 42 [1, 0, 2, 4, 1] 192 24
    (fetching []).plans.fetch = some { gen := 42, addr := 8, data := [] } ∧ b.length = 144 ∧
      BitVec.ofNat 32 (field b 0 4) = 42 ∧ field b 136 2 ≤ 192 ∧ field b 138 2 ≤ 24 ∧
      (fetching []).plans.wanted.map Wanted.gen = some 42 := by decide +kernel
/-- Each read that ends the fetch of the generation still wanted, with the notice queue full. -/
theorem witness_PlanFetchIsStagedOrRefused_full_queue :
    let b := planBytes 42 [1, 0, 2, 4, 1] 0 0
    ∀ data ∈ [[], b],
      let s := { fetching data with mem := withNotices 32 }
      s.plans.fetch = some { gen := 42, addr := 8, data := data } ∧ s.plans.wanted.map Wanted.gen = some 42 ∧
        s.mem.notices.length = 32 := by decide +kernel
theorem witness_PlanFetchIsStagedOrRefused_torn_and_count :
    BitVec.ofNat 32 (field (planBytes 41 [] 0 0) 0 4) ≠ 42 ∧ 192 < field (planBytes 42 [] 193 0) 136 2 ∧
      24 < field (planBytes 42 [] 0 25) 138 2 := by decide +kernel
/-- With one share entry and one rule: the entries' read, the rules' read, then the tail. -/
theorem witness_PlanFetchIsStagedOrRefused_later_reads :
    let b := planBytes 42 [1, 0, 2, 4, 1] 1 1
    (144 ≤ b.length ∧ b.length < planTailOffset b ∧ b.length < 144 + 24 * planEntryCount b) ∧
      (144 ≤ (b ++ zeros 24).length ∧ (b ++ zeros 24).length < planTailOffset (b ++ zeros 24) ∧
        ¬(b ++ zeros 24).length < 144 + 24 * planEntryCount (b ++ zeros 24)) ∧
      (144 ≤ (b ++ zeros 40).length ∧ planTailOffset (b ++ zeros 40) ≤ (b ++ zeros 40).length) := by decide +kernel
/-- Ports out of service with Cnom 1 pass; a port in service with Cnom 0 does not. -/
theorem witness_PlanFetchIsStagedOrRefused_tail :
    planFault (planBytes 42 [1, 0, 2, 4, 1] 0 0) 42 = none ∧
      planFault (planBytes 42 [1, 0, 2, 4, 0] 0 0) 42 = some .capacityZero := by decide +kernel
/-- Nothing wanted, at each read that ends a fetch: the first one, torn or with a count out of range, and the tail. -/
theorem witness_PlanFetchIsStagedOrRefused_superseded :
    let s (data : List Byte) : State := { fetching data with plans := { (fetching data).plans with wanted := none } }
    let b := planBytes 42 [1, 0, 2, 4, 1] 0 0
    (s []).plans.wanted = none ∧ (s []).plans.fetch = some { gen := 42, addr := 8, data := [] } ∧
      (s b).plans.fetch = some { gen := 42, addr := 8, data := b } ∧ 144 ≤ b.length ∧ planTailOffset b ≤ b.length ∧
      (planBytes 41 [] 0 0).length = 144 ∧ BitVec.ofNat 32 (field (planBytes 41 [] 0 0) 0 4) ≠ 42 := by decide +kernel
/-- Generation 43 wanted while 42 is fetched, at an address that a fetch reads from and at one that none does. -/
theorem witness_PlanFetchIsStagedOrRefused_other_wanted :
    ∀ addr : Word64, addr = 8 ∨ addr = 4 →
      let s := { fetching [] with plans := { (fetching []).plans with wanted := some { gen := 43, addr := addr } } }
      s.plans.fetch = some { gen := 42, addr := 8, data := [] } ∧ s.plans.wanted = some { gen := 43, addr := addr } ∧
        (43 : Word32) ≠ 42 ∧ ((8 : Word64).toNat ≠ 0 ∧ (8 : Word64).toNat % 8 = 0) ∧
        (4 : Word64).toNat % 8 ≠ 0 := by
  rintro addr (rfl | rfl) <;> decide +kernel
/-- Every fault that the tail's read shows, each in a plan that has none before it: a role of 3, two share entries of A0 on
P0, and a port in service with Cnom 0. -/
theorem witness_StagedPlansAreInRange_faults :
    let role := (planBytes 42 [1, 0, 2, 4, 1] 0 0).set 10 3
    let twice := planBytes 42 [1, 0, 2, 4, 1] 2 0 ++ zeros 48
    let empty := planBytes 42 [1, 0, 2, 4, 0] 0 0
    ((41 : Word32) ≠ BitVec.ofNat 32 (field empty 0 4)) ∧ ¬((42 : Word32) ≠ BitVec.ofNat 32 (field empty 0 4)) ∧
      indexFaulty role ∧ ¬indexFaulty twice ∧ duplicateFaulty twice ∧ ¬indexFaulty empty ∧ ¬duplicateFaulty empty ∧
      capacityFaulty empty := by
  unfold indexFaulty duplicateFaulty capacityFaulty
  decide +kernel
theorem witness_StagedPlansAreInRange :
    planFault (planBytes 42 [1, 0, 2, 4, 1] 0 0) 42 = none ∧
      ((readPlan (planBytes 42 [1, 0, 2, 4, 1] 0 0)).ports.get 0).inService = true := by decide +kernel

/-- A read in flight while the scan is HALTED with a finding at journal position 7,410. -/
theorem witness_HostHalfReadIsTaken :
    let s := { runningPart with
      mem := { MemSide.reset with read := some { resumption := false, writes := true } }
      scan := { state := .halted, cursor := 1, finding := some { cell := 1, position := some 7410 }, owed := [] } }
    s.mem.read.isSome = true ∧ s.scan.state = .halted ∧ s.scan.finding = some { cell := 1, position := some 7410 } ∧
      runningPart.scan.finding = none := by decide +kernel

/-- A resumption read, of a HALTED scan whose finding has no position, that shows a generation the plan unit knows (0), and
one it does not (42), with a fetch in flight, with none, and at an address that no fetch reads from. -/
theorem witness_HostHalfReadIsTaken_shown :
    let s := { runningPart with
      mem := { MemSide.reset with read := some { resumption := true, writes := false } }
      scan := { state := .halted, cursor := 1, finding := some { cell := 1, position := none }, owed := [] } }
    let shown (addr gen : Nat) : List Byte := leBytes 8 addr ++ leBytes 4 gen ++ zeros 12
    s.mem.read = some { resumption := true, writes := false } ∧
      s.scan.finding = some { cell := 1, position := none } ∧
      BitVec.ofNat 32 (field (shown 8 0) 8 4) = (0 : Word32) ∧ BitVec.ofNat 32 (field (shown 8 42) 8 4) = (42 : Word32) ∧
      s.plans.inForce.gen ≠ 42 ∧ s.plans.staged = none ∧ s.plans.wanted = none ∧ s.plans.refused = none ∧
      s.plans.fetch = none ∧ (fetching []).plans.fetch.isSome = true ∧
      ((BitVec.ofNat 64 (field (shown 8 42) 0 8)).toNat ≠ 0 ∧ (BitVec.ofNat 64 (field (shown 8 42) 0 8)).toNat % 8 = 0) ∧
      (BitVec.ofNat 64 (field (shown 4 42) 0 8)).toNat % 8 ≠ 0 := by decide +kernel

/-- A report to write again, with two records of room. -/
theorem witness_HostHalfReadIsTaken_rewrite :
    let m : MemSide := { slowHost.mem with
      consumed := 2938, rewrite := some 1, read := some { resumption := true, writes := false } }
    m.read.isSome = true ∧ m.rewrite = some 1 ∧ (m.slots.get 1).held.isSome = true ∧ m.pass = none ∧ m.passQueue = [] ∧
      2 ≤ m.capacity - (m.produced - m.consumed).toNat := by decide +kernel

/-- A boundary's read on an idle writer with nothing to write; and one with a pass under way. -/
theorem witness_HostHalfReadIsTaken_pass :
    let m : MemSide := { MemSide.reset with read := some { resumption := false, writes := true } }
    let y : MemSide := { m with pass := some { occasion := .entry, stage := .notices } }
    m.read = some { resumption := false, writes := true } ∧ m.pass = none ∧ m.passQueue = [] ∧ m.notices = [] ∧
      (∀ p, (m.slots.get p).held = none) ∧ m.partHalf = none ∧ m.writesOwed = [] ∧ m.signalWrites = [] ∧
      ¬refusesAtOnce runningPart.plans (hostHalfOf (zeros 24)) ∧ y.pass ≠ none := by
  refine ⟨rfl, rfl, rfl, rfl, by decide +kernel, rfl, rfl, rfl, fun h => h.1 (.inl (by decide)), by decide⟩

/-- A first record in flight with exactly two records of room (11.6, the first with room 2). -/
theorem witness_JournalWriteCompletes :
    let r := formReport 0 PortBlock.reset PortBlock.reset
    let w (i : JournalItem) : JournalWrite := { item := i, count := 3000, write := { addr := 0, data := [] } }
    let s (i : JournalItem) := { slowHost with mem := { slowHost.mem with consumed := 2938, journalWrite := some (w i) } }
    (s (.notice (.memoryResumed .none 0))).mem.journalWrite = some (w (.notice (.memoryResumed .none 0))) ∧
      (s (.first 0 r)).mem.journalWrite = some (w (.first 0 r)) ∧
      2 ≤ (s (.first 0 r)).mem.capacity - ((s (.first 0 r)).mem.produced - (s (.first 0 r)).mem.consumed).toNat ∧
      (s (.continuation 0 r)).mem.journalWrite = some (w (.continuation 0 r)) := by decide +kernel

/-- The outstanding finding's own record, the last notice but one, in a pass that writes notices; and a pass that has come
to P0's report, with P1's pending. -/
theorem witness_JournalWriteCompletes_pass :
    let n : Notice := .starvationFinding 0 1 3 10 0 503
    let x : Notice := .memoryResumed .none 0
    let r := formReport 0 PortBlock.reset PortBlock.reset
    let s (stage : PassStage) (i : JournalItem) (notices : List Notice) : State := { slowHost with
      scan := { state := .halted, cursor := 1, finding := some { cell := 1, position := none }, owed := [] }
      mem := { slowHost.mem with
        notices := notices, pass := some { occasion := .boundary true, stage := stage }
        journalWrite := some { item := i, count := 3000, write := { addr := 0, data := [] } } } }
    placesFinding (s .notices (.notice n) [n, x]) n { cell := 1, position := none } ∧
      (s .notices (.notice n) [n, x]).mem.pass.map Pass.stage = some .notices ∧
      (s .notices (.notice n) [n]).mem.notices.tail = [] ∧
      2 ≤ 64 - ((3001 : Word32) - slowHost.mem.consumed).toNat ∧ (slowHost.mem.slots.get 0).held.isSome = true ∧
      (s (.reports 0) (.continuation 0 r) []).mem.pass.map Pass.stage = some (.reports 0) ∧ (0 : Port) < 1 ∧
      (slowHost.mem.slots.get 1).held.isSome = true ∧ 2 ≤ 64 - ((3002 : Word32) - slowHost.mem.consumed).toNat := by
  refine ⟨⟨rfl, rfl, rfl, by decide +kernel⟩, ?_⟩
  decide +kernel

/-- A pass whose last record completes, a notice's; and a first record that finds room for one more record only, with a
report that waits. -/
theorem witness_JournalWriteCompletes_pass_ends :
    let r := formReport 0 PortBlock.reset PortBlock.reset
    let s (i : JournalItem) (stage : PassStage) (consumed : Word32) : MemSide := { slowHost.mem with
      consumed := consumed, notices := [.memoryResumed .none 0], slots := (MemSide.reset.slots).set 0
        { held := some r, waiting := some r }
      pass := some { occasion := .parking, stage := stage }
      journalWrite := some { item := i, count := 3000, write := { addr := 0, data := [] } } }
    let n := s (.notice (.memoryResumed .none 0)) .notices 2937
    let f := s (.first 0 r) (.reports 0) 2937
    n.pass = some { occasion := .parking, stage := .notices } ∧ n.passQueue = [] ∧
      noticeOrReport { n with notices := [], produced := 3001 } = none ∧ roomOf f = 1 ∧
      (f.slots.get 0).waiting = some r := by decide +kernel

/-- A boundary's part-half write completes, signalling with the signal armed and not, while another one waits. -/
theorem witness_PartHalfWriteSignalsOrParks_owed :
    ∀ armed : Bool,
      let w : PartHalfWrite := { write := { addr := 0, data := [] }, signalling := true, produced := 3, final := false }
      let m : MemSide := { MemSide.reset with partHalf := some w, armed := armed, writesOwed := [false, true] }
      m.partHalf = some w ∧ w.final = false ∧ m.writesOwed = false :: [true] ∧ m.armed = armed := by decide
/-- The final part-half write of a parking part, and the signal write that follows it. -/
theorem witness_PartHalfWriteSignalsOrParks :
    let w : PartHalfWrite := { write := { addr := 0, data := [] }, signalling := true, produced := 3, final := true }
    let x : SignalWrite := { write := { addr := 8, data := [] }, final := true }
    let s := { runningPart with mem := { MemSide.reset with partHalf := some w, armed := true, signalWrites := [x] } }
    s.mem.partHalf = some w ∧ w.signalling = true ∧ s.mem.armed = true ∧ MemSide.reset.armed = false ∧
      s.mem.writesOwed = [] ∧ s.mem.signalWrites = x :: [] ∧ x.final = true := by decide +kernel

/-- The interval of the empty plan is 1000: counts of 998 and 999, and a statement in each stage of writing. -/
theorem witness_UsageStatementsAreWrittenInOrder :
    let s (n : Nat) := { runningPart with mem := { MemSide.reset with stmtOwed := [5], stmtCount := n } }
    (s 998).mem.stmtOwed = 5 :: [] ∧ (s 998).mem.stmtCount + 1 < (s 998).plans.inForce.interval ∧
      (s 999).plans.inForce.interval ≤ (s 999).mem.stmtCount + 1 ∧ (s 999).mem.mode = .serving ∧
      (s 999).mem.statement = none ∧ (s 999).win.mode = .running := by decide +kernel
theorem witness_UsageStatementsAreWrittenInOrder_steps :
    ∀ x ∈ [UsageStep.opening, .cell 0, .cell 191, .account 0, .account 47, .closing],
      ∃ s : State, ∃ st : Statement, s.mem.statement = some st ∧ st.step = x := by
  intro x _
  exact ⟨runningPart.issueUsage 5 x, _, rfl, rfl⟩

/-- Every access in flight at once on a part that is parking. -/
theorem witness_FailedAccessFaultsTheMemorySide :
    let m : MemSide := { (runningPart.issueUsage 5 .opening).mem with
      read := some { resumption := false, writes := true }, abandoned := 1,
      partHalf := some { write := { addr := 0, data := [] }, signalling := true, produced := 3, final := false },
      signalWrites := [{ write := { addr := 8, data := [] }, final := false }],
      journalWrite := some { item := .notice (.memoryResumed .none 0), count := 0, write := { addr := 0, data := [] } } }
    let s := { runningPart with mem := m, win := { runningPart.win with mode := .stopping, parking := true } }
    s.win.mode = .stopping ∧ s.mem.mode = .serving ∧ s.mem.read.isSome = true ∧ 0 < s.mem.abandoned ∧
      s.mem.partHalf.isSome = true ∧ s.mem.signalWrites ≠ [] ∧ s.mem.journalWrite.isSome = true ∧
      s.mem.statement.isSome = true ∧ s.win.parking = true := by decide +kernel

/-- P0's report being written while another one waits, and a notice being written. -/
theorem witness_FailedAccessFaultsTheMemorySide_slots :
    let r := formReport 0 PortBlock.reset PortBlock.reset
    let m (i : JournalItem) : MemSide := { MemSide.reset with
      slots := MemSide.reset.slots.set 0 { held := some r, waiting := some r }
      journalWrite := some { item := i, count := 1, write := { addr := 0, data := [] } } }
    reportBeingWritten (m (.first 0 r)) 0 ∧ unwritten ((m (.first 0 r)).slots.get 0) ≠ (m (.first 0 r)).slots.get 0 ∧
      ∀ p, ¬reportBeingWritten (m (.notice (.memoryResumed .none 0))) p := by decide +kernel

/-! The kept facts hold of a running part with a command waiting, and it takes a step. -/

/-- A running part with a BIND waiting. -/
def busyPart : State := { runningPart with pending := [.bind 0 5 0x120417 .urgent] }

theorem witness_busyPart_steps : ∃ t, step busyPart = .next t := ⟨_, rfl⟩
theorem witness_QueuesStayWithinTheirDepths : busyPart.queuesWithin := ⟨by decide, by decide⟩
theorem witness_GrantTablesStaySound : busyPart.tablesSound := by
  intro p
  exact ⟨⟨by revert p; decide +kernel, by revert p; decide +kernel, by revert p; decide +kernel⟩,
    by revert p; decide +kernel⟩
theorem witness_IssuedNeverExceedsAllowance : busyPart.accountsSound := by
  intro p
  have h : busyPart.ports.get p = PortBlock.reset := by revert p; decide +kernel
  rw [h]
  refine ⟨by decide +kernel, by decide +kernel, fun _ => ?_, fun hm => absurd hm (by decide), fun hm => absurd hm (by decide),
    fun al h => ?_⟩
  · intro a; revert a; decide +kernel
  · cases h
theorem witness_ServiceListsMatchTheTallies : busyPart.demandSound := by
  intro p
  have h : busyPart.ports.get p = PortBlock.reset := by revert p; decide +kernel
  have hq : ∀ q, (PortBlock.reset.queues.get q) = Queue.reset := by decide +kernel
  have hl : ∀ l a, PortBlock.reset.list l a = [] := by intro l; cases l <;> decide +kernel
  refine ⟨?_, fun q hp => ?_⟩
  · rw [h]
    refine ⟨fun l a => by rw [hl]; exact List.nodup_nil, fun l a q => ?_, fun q => by rw [hq]; rfl, fun q hp => ?_⟩
    · rw [hl, hq]; exact ⟨fun hm => absurd hm (by simp), fun hm => absurd hm.1 (by decide)⟩
    · rw [hq] at hp; exact absurd hp (by decide)
  · have : (busyPart.queue p q).tally = 0 := by unfold State.queue; rw [h, hq]; rfl
    omega
theorem witness_ConductRecordsStayInRange : busyPart.conductSound := by
  intro a
  exact ⟨by revert a; decide +kernel, by revert a; decide +kernel, by revert a; decide +kernel⟩
theorem witness_SyncStateFollowsTheRole : busyPart.timerSound :=
  ⟨rfl, by decide, by decide⟩
theorem witness_PlanValuesStayInRange : busyPart.plansSound := by
  have hv : ({ cnom := 1, quantum := 64, life := 4 } : StandbyValues).inRange :=
    ⟨by decide, by decide, by decide, by decide, by decide, by decide⟩
  have hr : ∀ p, emptyPlan.ports.get p = emptyPlan.ports.get 0 := by decide +kernel
  refine ⟨⟨⟨by decide, by decide, by decide⟩, by decide, by decide, by decide, fun p => ?_, fun e h => (by cases h),
    List.nodup_nil⟩, fun pl h => (by cases h), fun p => ?_, ⟨by decide, by decide, by decide⟩, fun n h => (by cases h),
    fun d h => (by cases h)⟩
  · have hr' : busyPart.plans.inForce.ports.get p = emptyPlan.ports.get 0 := hr p
    rw [hr']
    exact ⟨hv, by decide, by decide, by decide, by decide, by decide⟩
  · have h : busyPart.ports.get p = PortBlock.reset := by revert p; decide +kernel
    rw [h]
    exact ⟨hv, fun d hd => by cases hd⟩
theorem witness_NoAccessInParkedOrFaulted : busyPart.accessSound :=
  ⟨by decide, by decide, fun _ => ⟨⟨rfl, rfl, rfl, rfl, rfl, rfl, rfl, rfl⟩, rfl⟩⟩
theorem witness_ParkedMeansEveryPortRests : busyPart.parkSound := by
  refine ⟨fun _ p => ?_, by decide, ?_⟩
  · revert p; decide +kernel
  · rintro (h | ⟨w, h, _⟩ | ⟨w, h, _⟩ | ⟨x, h, _⟩ | h)
    · cases h
    · cases h
    · cases h
    · cases h
    · cases h
/-- Scan and journal, with a finding outstanding and its record being written at the next count. -/
theorem witness_JournalNeverOverwritesAnUnreadRecord :
    let w : JournalWrite :=
      { item := .notice (.memoryResumed .none 0), count := 70, write := { addr := 4096 + 32 * 6, data := [] } }
    let s := { busyPart with
      scan := { state := .halted, cursor := 1, finding := some { cell := 1, position := none }, owed := [] }
      mem := { MemSide.reset with capacity := 64, journalBase := 4096, produced := 70, consumed := 7, journalWrite := some w } }
    s.scanSound ∧ s.accessSound ∧ s.journalSound := by
  refine ⟨by unfold State.scanSound; decide, ⟨by decide, by decide, fun h => ?_⟩, fun w hw => ?_⟩
  · rcases h with h | h | h <;> cases h
  · cases hw
    exact ⟨rfl, by decide⟩

end Sys2Proof
end

section
/-! PROOF. A CLOSE that matches no entry of the port's table (R59). -/

namespace Sys2Proof.Machine

theorem exec_close (p : Port) (t : Tag) (used : Word16) (ff : Bool) (sched : List Port) (s : State) :
    exec (.close p t used ff sched) s = execClose p t used ff sched s := rfl

/-- A tag that no entry of the table carries is not found. -/
theorem PortBlock.entry_eq_none_of_tag_ne {b : PortBlock} {t : Tag} (h : ∀ e ∈ b.table, e.tag ≠ t) :
    b.entry t = none := by
  rw [PortBlock.entry_none, List.mem_map]
  rintro ⟨e, he, ht⟩
  exact h e he ht

/-- R59: the used units, the order of the follow-up and the schedule play no part in a stray close. -/
theorem execClose_of_entry_none {s : State} {p : Port} {t : Tag} (used : Word16) (ff : Bool) (sched : List Port)
    (h : (s.ports.get p).entry t = none) :
    execClose p t used ff sched s = .next (s.modPort p PortBlock.closeStray) := by
  simp only [execClose, h]

/-- The stray count saturates where every epoch count does (R60). -/
theorem State.modPort_closeStray (s : State) (p : Port) :
    s.modPort p PortBlock.closeStray = { s with ports := s.ports.set p { s.ports.get p with
      counts := { (s.ports.get p).counts with stray := min ((s.ports.get p).counts.stray + 1) 4294967295 } } } := rfl

/-- Settles O24: the tag is not found, so the close takes the stray arm, which writes the stray count alone. -/
theorem strayCloseIsOnlyCounted : Obligations.StrayCloseIsOnlyCounted := by
  intro s p t used ff sched hstray
  have hnone : (s.ports.get p).entry t = none := PortBlock.entry_eq_none_of_tag_ne hstray
  rw [exec_close, execClose_of_entry_none used ff sched hnone, State.modPort_closeStray]

end Sys2Proof.Machine
end

section
/-! PROOF. BIND of an unbound and of a bound queue, and UNBIND (R81 to R86). -/

namespace Sys2Proof.Machine

/-! ### The operations that BIND and UNBIND use -/

theorem exec_bind (p : Port) (q : QueueId) (src : Word24) (lane : Lane) (s : State) :
    exec (.bind p q src lane) s = execBind p q src lane s := rfl

theorem exec_unbind (p : Port) (q : QueueId) (s : State) : exec (.unbind p q) s = execUnbind p q s := rfl

/-- A change of one port, as the replacement of its block. -/
theorem State.modPort_eq_set (s : State) (p : Port) (f : PortBlock → PortBlock) :
    s.modPort p f = { s with ports := s.ports.set p (f (s.ports.get p)) } := rfl

theorem PortBlock.modQueue_queues (b : PortBlock) (q : QueueId) (f : Queue → Queue) :
    (b.modQueue q f).queues = b.queues.set q (f (b.queues.get q)) := rfl

/-- A message placed, with room or without (R73, R75). -/
theorem State.place_eq_placed (s : State) (m : OutMsg) :
    s.place m = { s with link := { s.link with output := placed s.link.output m } } := by
  rcases s.place_cases m with ⟨hroom, hplace⟩ | ⟨hfull, hplace⟩
  · rw [hplace, placed, if_pos hroom]
  · rw [hplace, placed, if_neg (by omega)]

theorem State.refuse_eq (s : State) (p : Port) (q : QueueId) (r : RefuseReason) :
    s.refuse p q r = { s with link := { s.link with output := placed s.link.output (.refuse p q r) } } :=
  s.place_eq_placed _

/-- No LIVE entry of the table names the queue (R48). -/
theorem PortBlock.liveFor_eq_false (b : PortBlock) (q : QueueId) :
    b.liveFor q = false ↔ ∀ e ∈ b.table, e.state = .live → e.queue ≠ q := by
  simp [PortBlock.liveFor]

/-! ### Releasing a queue (R86) -/

/-- Beside the service lists, a replaced list leaves the port as it was. -/
theorem PortBlock.setList_frame (b : PortBlock) (l : Lane) (a : Account) (qs : List QueueId) :
    b.setList l a qs = { b with
      urgentLists := (b.setList l a qs).urgentLists, bulkLists := (b.setList l a qs).bulkLists } := by
  cases l <;> rfl

theorem PortBlock.unbindQueue_of_waiting {b : PortBlock} {q : QueueId} (h : (b.queues.get q).waiting = true) :
    b.unbindQueue q =
      (b.leaveList (b.queues.get q).lane (b.queues.get q).account q).modQueue q
        fun x => { x.cleared with bound := false } := by
  simp only [PortBlock.unbindQueue, if_pos h]

theorem PortBlock.unbindQueue_of_not_waiting {b : PortBlock} {q : QueueId} (h : (b.queues.get q).waiting ≠ true) :
    b.unbindQueue q = b.modQueue q fun x => { x.cleared with bound := false } := by
  simp only [PortBlock.unbindQueue, if_neg h]

/-- Of the queues, releasing one writes that one alone: its tally discarded and its two flags cleared. -/
theorem PortBlock.unbindQueue_queues (b : PortBlock) (q : QueueId) :
    (b.unbindQueue q).queues =
      b.queues.set q { b.queues.get q with bound := false, tally := 0, waiting := false } := by
  by_cases h : (b.queues.get q).waiting = true
  · rw [unbindQueue_of_waiting h, modQueue_queues, leaveList_queues]; rfl
  · rw [unbindQueue_of_not_waiting h, modQueue_queues]; rfl

/-- Of the service lists, releasing a queue writes the one it waits in alone. -/
theorem PortBlock.unbindQueue_list (b : PortBlock) (q : QueueId) (l : Lane) (a : Account) :
    (b.unbindQueue q).list l a =
      if (b.queues.get q).waiting = true ∧ (b.queues.get q).lane = l ∧ (b.queues.get q).account = a then
        (b.list l a).filter (· ≠ q)
      else b.list l a := by
  by_cases h : (b.queues.get q).waiting = true
  · rw [unbindQueue_of_waiting h, modQueue_list, leaveList_list]
    by_cases hl : (b.queues.get q).lane = l ∧ (b.queues.get q).account = a
    · obtain ⟨rfl, rfl⟩ := hl
      rw [if_pos ⟨rfl, rfl⟩, if_pos ⟨h, rfl, rfl⟩]
    · rw [if_neg hl, if_neg fun hc => hl hc.2]
  · rw [unbindQueue_of_not_waiting h, modQueue_list, if_neg fun hc => h hc.1]

/-- Beside the queues and the service lists, releasing a queue leaves the port as it was. -/
theorem PortBlock.unbindQueue_frame (b : PortBlock) (q : QueueId) :
    b.unbindQueue q = { b with
      queues := (b.unbindQueue q).queues
      urgentLists := (b.unbindQueue q).urgentLists, bulkLists := (b.unbindQueue q).bulkLists } := by
  by_cases h : (b.queues.get q).waiting = true
  · rw [unbindQueue_of_waiting h, leaveList, setList_frame]; rfl
  · rw [unbindQueue_of_not_waiting h]; rfl

theorem State.unbindQueue_bound (s : State) (p : Port) (q : QueueId) :
    ((s.modPort p fun b => b.unbindQueue q).queue p q).bound = false := by
  simp [State.queue, PortBlock.unbindQueue_queues]

theorem execUnbind_of_unbound {s : State} {p : Port} {q : QueueId} (h : (s.queue p q).bound = false) :
    execUnbind p q s = .next s :=
  if_neg (ne_true_of_eq_false h)

theorem execUnbind_of_bound {s : State} {p : Port} {q : QueueId} (h : (s.queue p q).bound = true) :
    execUnbind p q s = .next (s.modPort p fun b => b.unbindQueue q) :=
  if_pos h

/-- Settles O11: an unbound queue takes the arm that changes nothing, and of a bound one the released block is the
witness, its queues, lists and frame each by their own lemma. -/
theorem unbindReleasesTheQueue : Obligations.UnbindReleasesTheQueue := by
  intro s p q
  refine ⟨fun hunbound => ?_, fun hbound => ⟨(s.ports.get p).unbindQueue q, ?_, ?_, ?_, ?_⟩⟩
  · rw [exec_unbind, execUnbind_of_unbound hunbound]
  · rw [exec_unbind, execUnbind_of_bound hbound, State.modPort_eq_set]
  · exact PortBlock.unbindQueue_queues _ q
  · exact PortBlock.unbindQueue_list _ q
  · exact PortBlock.unbindQueue_frame _ q

/-! ### Binding (R81 to R85) -/

section
variable {s : State} {p : Port} {q : QueueId} {src : Word24} {lane : Lane}

theorem State.bindUnbound_of_no_rule (q : QueueId) (lane : Lane) (h : s.plans.inForce.classify p src = none) :
    s.bindUnbound p q src lane = s.refuse p q .unclassified := by
  simp only [State.bindUnbound, h]

theorem State.bindUnbound_of_rule {r : Rule} (q : QueueId) (lane : Lane)
    (h : s.plans.inForce.classify p src = some r) :
    s.bindUnbound p q src lane =
      s.modPort p fun b => b.modQueue q fun _ => boundQueue s.plans.inForce r src lane := by
  simp only [State.bindUnbound, h]

theorem execBind_of_unbound (src : Word24) (lane : Lane) (h : (s.queue p q).bound = false) :
    execBind p q src lane s = .next (s.bindUnbound p q src lane) :=
  if_pos h

theorem execBind_of_recorded (hbound : (s.queue p q).bound = true)
    (hsame : (s.queue p q).source = src ∧ (s.queue p q).requested = lane) :
    execBind p q src lane s = .next s :=
  (if_neg (ne_false_of_eq_true hbound)).trans (if_pos hsame)

theorem execBind_of_free (hbound : (s.queue p q).bound = true)
    (hdiff : ¬((s.queue p q).source = src ∧ (s.queue p q).requested = lane))
    (hfree : (s.queue p q).tally = 0 ∧ (s.ports.get p).liveFor q = false) :
    execBind p q src lane s = .next ((s.modPort p fun b => b.unbindQueue q).bindUnbound p q src lane) :=
  (if_neg (ne_false_of_eq_true hbound)).trans ((if_neg hdiff).trans (if_pos hfree))

theorem execBind_of_busy (hbound : (s.queue p q).bound = true)
    (hdiff : ¬((s.queue p q).source = src ∧ (s.queue p q).requested = lane))
    (hbusy : ¬((s.queue p q).tally = 0 ∧ (s.ports.get p).liveFor q = false)) :
    execBind p q src lane s = .next (s.refuse p q .queueBusy) :=
  (if_neg (ne_false_of_eq_true hbound)).trans ((if_neg hdiff).trans (if_neg hbusy))

end

/-- Settles O9, by whether a rule matches: the search is R81's, the lane R82's. -/
theorem bindOfAnUnboundQueue : Obligations.BindOfAnUnboundQueue := by
  intro s p q src lane hunbound pl treated
  have hfind : (pl.rules.find? fun r => r.ports.get p && decide (src &&& r.mask = r.value &&& r.mask)) =
      pl.classify p src := rfl
  have htreated (r : Rule) : treated r = r.treatment.apply lane := by
    dsimp only [treated]
    cases r.treatment <;> rfl
  rw [exec_bind, execBind_of_unbound src lane hunbound, hfind]
  cases hrule : pl.classify p src with
  | none => rw [State.bindUnbound_of_no_rule q lane hrule, State.refuse_eq]
  | some r =>
    rw [State.bindUnbound_of_rule q lane hrule, State.modPort_eq_set]
    simp only [htreated]
    rfl

/-- Settles O10, by the three outcomes of R84 and R85; the release of the third is UNBIND's. -/
theorem bindOfABoundQueue : Obligations.BindOfABoundQueue := by
  intro s p q src lane hbound
  refine ⟨fun hsame => ?_, fun hdiff hbusy => ?_, fun hdiff htally hlive => ?_⟩
  · rw [exec_bind, execBind_of_recorded hbound hsame]
  · have hheld : ¬((s.queue p q).tally = 0 ∧ (s.ports.get p).liveFor q = false) := by
      rintro ⟨htally, hlive⟩
      rcases hbusy with hne | ⟨e, he, hel, heq⟩
      · exact hne htally
      · exact (PortBlock.liveFor_eq_false _ q).1 hlive e he hel heq
    rw [exec_bind, execBind_of_busy hbound hdiff hheld, State.refuse_eq]
  · have hfree := And.intro htally ((PortBlock.liveFor_eq_false _ q).2 hlive)
    have hreleased := s.unbindQueue_bound p q
    refine ⟨_, by rw [exec_unbind, execUnbind_of_bound hbound], hreleased, ?_⟩
    rw [exec_bind, execBind_of_free hbound hdiff hfree, exec_bind, execBind_of_unbound src lane hreleased]

end Sys2Proof.Machine
end

section
/-! PROOF. The elementary updates that the commands on the ports, the link, the conduct unit, the scan, the timer and the
register window are made of. Each kept fact is proved once for every update, and so for every such command; the commands
of the memory side and of the plan fetch, the start and the resets are taken one by one. -/

namespace Sys2Proof.Machine

/-! ### Ports that gain nothing -/

/-- Nothing a port holds grows: its entries keep their order and lose, lapse or age, no issued net rises, and beside
counts, credits, ramps and the filter the rest stands. -/
structure PortBlock.Eased (b b' : PortBlock) : Prop where
  mode : b'.mode = b.mode
  list : ∀ l a, b'.list l a = b.list l a
  queues : b'.queues = b.queues
  values : b'.values = b.values
  deferred : b'.deferred = b.deferred
  capacity : b'.capacity = b.capacity
  inFlight : b'.inFlight = b.inFlight
  closeOwed : b'.closeOwed = b.closeOwed
  changeOwed : b'.changeOwed = b.changeOwed
  allowance : ∀ a, (b'.cells.get a).allowance = (b.cells.get a).allowance
  issued : ∀ a, (b'.cells.get a).issued ≤ (b.cells.get a).issued
  tags : (b'.table.map Entry.tag).Sublist (b.table.map Entry.tag)
  live : ∀ e ∈ b'.table, e.state = .live → ∃ e' ∈ b.table, e'.state = .live ∧ e'.account = e.account

theorem PortBlock.Eased.refl (b : PortBlock) : b.Eased b :=
  { mode := rfl, list := fun _ _ => rfl, queues := rfl, values := rfl, deferred := rfl, capacity := rfl,
    inFlight := rfl, closeOwed := rfl, changeOwed := rfl, allowance := fun _ => rfl, issued := fun _ => le_rfl,
    tags := List.Sublist.refl _, live := fun e he hl => ⟨e, he, hl, rfl⟩ }

theorem PortBlock.Eased.trans {a b c : PortBlock} (h : a.Eased b) (k : b.Eased c) : a.Eased c where
  mode := k.mode.trans h.mode
  list l x := (k.list l x).trans (h.list l x)
  queues := k.queues.trans h.queues
  values := k.values.trans h.values
  deferred := k.deferred.trans h.deferred
  capacity := k.capacity.trans h.capacity
  inFlight := k.inFlight.trans h.inFlight
  closeOwed := k.closeOwed.trans h.closeOwed
  changeOwed := k.changeOwed.trans h.changeOwed
  allowance x := (k.allowance x).trans (h.allowance x)
  issued x := (k.issued x).trans (h.issued x)
  tags := k.tags.trans h.tags
  live e he hl := by
    obtain ⟨e', he', hl', ha⟩ := k.live e he hl
    obtain ⟨e'', he'', hl'', ha'⟩ := h.live e' he' hl'
    exact ⟨e'', he'', hl'', ha'.trans ha⟩

/-- A port of which counts, filter, epoch and sums alone are written. -/
theorem PortBlock.eased_of_frame (b : PortBlock) (e : Epoch) (n : Counts) (f : Filter) (r : Nat) (sv : Bool) (tt : Totals)
    (d : Bool) : b.Eased { b with
      openEpoch := e, counts := n, filter := f, refused := r, served := sv, totals := tt, allocDue := d } :=
  { PortBlock.Eased.refl b with list := fun l _ => by cases l <;> rfl }

/-- A port whose cells keep their allowances and whose issued nets do not rise. -/
theorem PortBlock.eased_of_cells (b : PortBlock) (cs : Tab 48 Cell)
    (ha : ∀ a, (cs.get a).allowance = (b.cells.get a).allowance)
    (hi : ∀ a, (cs.get a).issued ≤ (b.cells.get a).issued) : b.Eased { b with cells := cs } :=
  { PortBlock.Eased.refl b with list := fun l _ => by cases l <;> rfl, allowance := ha, issued := hi }

theorem PortBlock.eased_modCell (b : PortBlock) (x : Account) (f : Cell → Cell)
    (ha : ∀ c, (f c).allowance = c.allowance) (hi : ∀ c, (f c).issued ≤ c.issued) : b.Eased (b.modCell x f) := by
  refine b.eased_of_cells _ (fun a => ?_) (fun a => ?_)
  · rw [Tab.get_modify]; split <;> simp [ha]
  · rw [Tab.get_modify]; split <;> simp [hi]

/-- A port whose table loses entries or has entries lapse or age. -/
theorem PortBlock.eased_of_table (b : PortBlock) (es : List Entry)
    (ht : (es.map Entry.tag).Sublist (b.table.map Entry.tag))
    (hl : ∀ e ∈ es, e.state = .live → ∃ e' ∈ b.table, e'.state = .live ∧ e'.account = e.account) :
    b.Eased { b with table := es } :=
  { PortBlock.Eased.refl b with list := fun l _ => by cases l <;> rfl, tags := ht, live := hl }

theorem PortBlock.eased_removeEntry (b : PortBlock) (t : Tag) : b.Eased (b.removeEntry t) :=
  b.eased_of_table _ (List.filter_sublist.map _) fun e he hl => ⟨e, List.mem_of_mem_filter he, hl, rfl⟩

theorem PortBlock.eased_countUsed (b : PortBlock) (a : Account) (n : Nat) : b.Eased (b.countUsed a n) :=
  (b.eased_modCell a (fun c => { c with cumUsed := c.cumUsed + BitVec.ofNat 64 n }) (fun _ => rfl) fun _ => le_rfl).trans
    (PortBlock.eased_of_frame _ _ _ _ _ _ _ _)

theorem PortBlock.eased_countOverrun (b : PortBlock) (a : Account) (n : Nat) : b.Eased (b.countOverrun a n) :=
  (b.eased_modCell a (fun c => { c with cumOverrun := c.cumOverrun + BitVec.ofNat 64 n }) (fun _ => rfl)
    fun _ => le_rfl).trans (PortBlock.eased_of_frame _ _ _ _ _ _ _ _)

theorem PortBlock.eased_takeReturn (b : PortBlock) (e : Entry) (n : Nat) : b.Eased (b.takeReturn e n) := by
  unfold PortBlock.takeReturn
  split
  · exact b.eased_modCell _ _ (fun _ => rfl) fun _ => Nat.sub_le _ _
  · exact PortBlock.Eased.refl b

theorem PortBlock.eased_closeLive (b : PortBlock) (e : Entry) (n : Nat) : b.Eased (b.closeLive e n) := by
  have h := (b.eased_removeEntry e.tag).trans (PortBlock.eased_countUsed _ e.account n)
  unfold PortBlock.closeLive
  dsimp only
  split
  · exact h.trans (PortBlock.eased_takeReturn _ e n)
  · exact h.trans (PortBlock.eased_countOverrun _ e.account _)

theorem PortBlock.eased_closeLapsed (b : PortBlock) (e : Entry) (n : Nat) : b.Eased (b.closeLapsed e n) :=
  ((b.eased_removeEntry e.tag).trans (PortBlock.eased_countUsed _ e.account n)).trans
    (PortBlock.eased_of_frame _ _ _ _ _ _ _ _)

theorem PortBlock.eased_ageTable (b : PortBlock) : b.Eased b.ageTable := by
  refine b.eased_of_table _ (by simp [Function.comp_def]) fun e he hl => ?_
  obtain ⟨e', he', rfl⟩ := List.mem_map.1 he
  exact ⟨e', he', hl, rfl⟩

/-- An expiry lapses entries, so that every LIVE one was LIVE before. -/
theorem PortBlock.eased_expire (b : PortBlock) (e : Entry) : b.Eased (b.expire e) := by
  have hlapse : b.Eased (b.modEntry e.tag Entry.lapse) := by
    refine b.eased_of_table _ ?_ fun x hx hl => ?_
    · rw [List.map_map, List.map_congr_left (g := Entry.tag)]
      intro x _
      simp only [Function.comp_apply]
      split <;> rfl
    · obtain ⟨y, hy, rfl⟩ := List.mem_map.1 hx
      split at hl
      · cases hl
      · rw [if_neg ‹_›]; exact ⟨y, hy, hl, rfl⟩
  exact (hlapse.trans (PortBlock.eased_modCell _ e.account (fun c => { c with cumExpiries := c.cumExpiries + 1 })
    (fun _ => rfl) fun _ => le_rfl)).trans
    (PortBlock.eased_of_frame _ _ _ _ _ _ _ _)

/-! ### The conduct records -/

/-- A record that no charge touches: the score does not rise, and the quiet count stays in its range. -/
structure ConductRec.Eased (r r' : ConductRec) : Prop where
  score : r'.score ≤ r.score
  quiet : r.quiet ≤ 32 → r'.quiet ≤ 32
  clear : r'.quiet = 0 ∨ r'.state = .cutOff ∨ r'.quiet = r.quiet ∧ r.state ≠ .cutOff

theorem ConductRec.state_eq_cutOff (r : ConductRec) : r.state = .cutOff ↔ 256 ≤ r.score := band_eq_cutOff _

/-- A record whose flags alone are written. -/
theorem ConductRec.eased_of_flags (r : ConductRec) (f a d : Bool) :
    r.Eased { r with fault := f, activity := a, demand := d } where
  score := le_rfl
  quiet := id
  clear := by
    by_cases h : r.state = .cutOff
    · exact .inr (.inl h)
    · exact .inr (.inr ⟨rfl, h⟩)

theorem ConductRec.eased_seeDemand (r : ConductRec) : r.Eased r.seeDemand where
  score := le_rfl
  quiet h := by unfold ConductRec.seeDemand; dsimp only; split <;> omega
  clear := by
    unfold ConductRec.seeDemand
    dsimp only
    split
    · exact .inl rfl
    · exact .inr (.inr ⟨rfl, ‹_›⟩)

theorem ConductRec.eased_recover (r : ConductRec) : r.Eased r.recover.clearFlags :=
  { score := Nat.zero_le _, quiet := fun _ => Nat.zero_le _, clear := .inl rfl }

theorem ConductRec.eased_reset (r : ConductRec) : r.Eased ConductRec.reset :=
  { score := Nat.zero_le _, quiet := fun _ => Nat.zero_le _, clear := .inl rfl }

/-- A boundary lowers a score by at most 1, and counts quiet epochs up to 32 in CUT_OFF alone (R100, R103, R104). -/
theorem ConductRec.eased_atBoundary (r : ConductRec) (auto : Bool) : r.Eased (r.atBoundary auto) := by
  unfold ConductRec.atBoundary
  split
  next hcut =>
    split
    · exact r.eased_recover
    · refine { score := le_rfl, quiet := fun h => ?_, clear := .inr (.inl hcut) }
      show r.nextQuiet ≤ 32
      simp only [ConductRec.nextQuiet, Config.quietLimit]
      split <;> omega
  next hcut =>
    split
    · exact { score := Nat.sub_le _ _, quiet := id, clear := .inr (.inr ⟨rfl, hcut⟩) }
    · exact r.eased_of_flags _ _ _

/-! ### The updates -/

/-- The part-wide values of the plan unit stand, and no plan is staged. -/
structure PlanUnit.Kept (u u' : PlanUnit) : Prop where
  inForce : u'.inForce = u.inForce
  staged : u'.staged = u.staged
  fetch : u'.fetch = u.fetch
  partDeferred : u'.partDeferred = u.partDeferred

/-- One elementary update of the state, with the facts under which the commands make it. -/
inductive Update (s : State) : State → Prop where
  | window (w : Window) (hm : w.mode = s.win.mode) (hp : w.parking = s.win.parking) : Update s { s with win := w }
  | enterStarting (w : Window) (h : s.win.mode = .parked) (hm : w.mode = .starting) (hp : w.parking = s.win.parking) :
      Update s { s with win := w, mem := { s.mem with mode := .serving, region := .none } }
  | leaveStarting (r : StartRefusal) (h : s.win.mode = .starting) : Update s (s.leaveStarting r)
  | returnToRunning (w : Window) (h : s.win.mode = .stopping) (hn : s.win.parking = false) (hm : w.mode = .running)
      (hp : w.parking = s.win.parking) : Update s { s with win := w }
  | resume (h : s.win.mode = .running) : Update s s.resumeMemory
  | enterStopping (w : Window) (h : s.win.mode = .running) (hm : w.mode = .stopping) (hp : w.parking = s.win.parking) :
      Update s { s with win := w }
  | parkIfDone : Update s s.parkIfDone
  | link (l : Link) (h : l.output.length ≤ s.link.output.length) : Update s { s with link := l }
  | place (m : OutMsg) : Update s (s.place m)
  | post (n : Notice) : Update s (s.post n)
  | handOver (r : Report) : Update s (s.handOver r)
  | conduct (u : ConductUnit) (h : ∀ a, (s.conduct.recs.get a).Eased (u.recs.get a)) : Update s { s with conduct := u }
  | charge (a : Account) (n : Nat) (sched : List Port) : Update s (s.charge a n sched)
  | ports (ps : Tab 4 PortBlock) (h : ∀ p, (s.ports.get p).Eased (ps.get p)) : Update s { s with ports := ps }
  | unbindQueue (p : Port) (q : QueueId) : Update s (s.modPort p fun b => b.unbindQueue q)
  | bindQueue (p : Port) (q : QueueId) (pl : Plan) (r : Rule) (src : Word24) (lane : Lane)
      (h : (s.queue p q).bound = false) : Update s (s.modPort p fun b => b.modQueue q fun _ => boundQueue pl r src lane)
  | acceptDemand (p : Port) (q : QueueId) (n : Nat) (hb : (s.queue p q).bound = true)
      (hm : (s.ports.get p).mode ≠ .standby) (hc : s.conductOf (s.queue p q).account ≠ .cutOff) :
      Update s (s.modPort p fun b => b.acceptDemand q n)
  | issueGrant (p : Port) (l : Lane) (a : Account) (h : s.nextGrant p = some (l, a)) : Update s (s.issueGrant p l a)
  | drain (p : Port) (h : (s.ports.get p).mode = .granting ∨ (s.ports.get p).mode = .allocating) :
      Update s (s.modPort p fun b => { b with mode := .draining })
  | enterStandby (p : Port) (hm : (s.ports.get p).mode = .draining) (ht : (s.ports.get p).table = []) :
      Update s (s.standbyEntered p)
  | settle (p : Port) (cs : Tab 48 Cell) (e : Epoch) (h : ∀ a, (cs.get a).allowance = 0 ∧ (cs.get a).issued = 0) :
      Update s (s.modPort p fun b => { b with cells := cs, openEpoch := e })
  | afterClose (p : Port) (e : Epoch) (rest : List Epoch) (hm : (s.ports.get p).mode ≠ .standby)
      (hf : (s.ports.get p).inFlight = none) (ho : (s.ports.get p).closeOwed = e :: rest)
      (hs : (s.ports.get p).settled) : Update s (s.modPort p fun b => b.afterClose rest)
  | takeChange (p : Port) (e : Epoch) (rest : List Epoch) (m : PortMode) (ho : (s.ports.get p).changeOwed = e :: rest)
      (hr : (s.ports.get p).closeOwed.length < (s.ports.get p).changeOwed.length ∨ (s.ports.get p).mode = .standby)
      (hm : m = (s.ports.get p).mode ∧ m ≠ .granting ∨
        m = .allocating ∧ ((s.ports.get p).mode = .standby → s.win.mode = .running)) :
      Update s (s.modPort p fun b => { b.takeChange rest with mode := m })
  | startAllocation (p : Port) (r : PortRecord) (sh : Account → Option Share) (c : Account → Conduct)
      (hm : (s.ports.get p).mode = .allocating) (hc : (s.ports.get p).closeOwed = [])
      (ho : (s.ports.get p).changeOwed = []) : Update s (s.modPort p fun b => b.startAllocation r sh c)
  | deliver (p : Port) (al : Allocation) (hf : (s.ports.get p).inFlight = some al)
      (hm : (s.ports.get p).mode = .allocating) : Update s (s.modPort p fun b => b.deliver al)
  | discard (p : Port) : Update s (s.modPort p fun b => { b with inFlight := none })
  | setSync (y : SyncState) (hr : s.timer.timing.role = .follower ∨ s.timer.sync = .locked)
      (hy : y = .seeking ∨ y = .locked) : Update s (s.setSync y)
  | boundary (now : Moment) (e : Epoch) (due : Moment) (h : s.timer.running = true) : Update s (s.makeBoundary now e due)
  | scan (sc : Scan) (h : s.scanSound → (sc.state = .halted ↔ sc.finding.isSome = true)) : Update s { s with scan := sc }
  | plans (u : PlanUnit) (h : s.plans.Kept u) : Update s { s with plans := u }
  | takePlan (pl : Plan) (e : Epoch) (h : s.plans.staged = some pl) :
      Update s { s with plans := { s.plans with inForce := pl, appliedEpoch := e, staged := none } }
  | reclassify : Update s { s with
      ports := s.ports.mapIdx fun p b => (b.reclassifyAll s.plans.inForce s.conductOf p).1 }
  | applyShares (old : Plan) : Update s (s.applyShares old)
  | placeDeferred : Update s s.placeDeferred

/-- Updates one after another. -/
abbrev Updates : State → State → Prop := Relation.ReflTransGen Update

theorem Update.chain {s t : State} (h : Update s t) : Updates s t := .single h

/-- A fact that every update keeps is kept by updates one after another. -/
theorem Updates.keep {P : State → Prop} (hP : ∀ s t, P s → Update s t → P t) {s t : State} (h : Updates s t) (hs : P s) :
    P t := by
  induction h with
  | refl => exact hs
  | tail _ hu ih => exact hP _ _ ih hu

/-! ### The shared operations as updates -/

/-- One port that gains nothing. -/
theorem Update.port {s : State} {p : Port} {f : PortBlock → PortBlock} (h : (s.ports.get p).Eased (f (s.ports.get p))) :
    Update s (s.modPort p f) := by
  refine .ports _ fun q => ?_
  rw [Tab.get_modify]
  split
  · subst q; exact h
  · exact PortBlock.Eased.refl _

theorem Update.modConduct {s : State} {a : Account} {f : ConductRec → ConductRec} (h : ∀ r : ConductRec, r.Eased (f r)) :
    Update s (s.modConduct a f) := by
  refine .conduct _ fun x => ?_
  rw [Tab.get_modify]
  split
  · exact h _
  · exact ConductRec.eased_of_flags _ _ _ _

theorem Update.beginAnew (s : State) (left : Account → Bool) : Update s (s.beginAnew left) := by
  refine .ports _ fun p => ?_
  rw [Tab.get_map]
  refine PortBlock.eased_of_cells _ _ (fun a => ?_) fun a => ?_
  · rw [Tab.get_mapIdx]; split <;> simp
  · rw [Tab.get_mapIdx]; split <;> simp

theorem Updates.postAll (s : State) (ns : List Notice) : Updates s (s.postAll ns) :=
  s.postAll_induct (P := Updates s) (fun _ n h => h.tail (.post n)) ns .refl

theorem Updates.placeAll (s : State) (ms : List OutMsg) : Updates s (s.placeAll ms) :=
  s.placeAll_induct (P := Updates s) (fun _ m h => h.tail (.place m)) ms .refl

theorem Updates.arbiterRun (s : State) (p : Port) : Updates s (s.arbiterRun p) :=
  State.arbiterRun_induct (P := Updates s) p (fun _ l a hn h => h.tail (.issueGrant p l a hn)) s .refl

theorem Updates.runAll (s : State) (order : List Port) : Updates s (s.runAll order) :=
  State.runAll_induct (P := Updates s) order (fun t p _ h => h.trans (Updates.arbiterRun t p)) s .refl

theorem Updates.restIfDrained (s : State) (p : Port) : Updates s (s.restIfDrained p) := by
  rcases s.restIfDrained_cases p with ⟨hm, ht, e⟩ | ⟨_, e⟩
  · rw [e, State.enterStandby_eq]
    exact (Update.enterStandby p hm ht).chain.tail .parkIfDone
  · rw [e]

theorem Updates.enterDraining (s : State) (p : Port) : Updates s (s.enterDraining p) := by
  rcases s.enterDraining_cases p with ⟨hm, e⟩ | ⟨_, e⟩
  · rw [e]
    exact ((Update.drain p hm).chain.tail (.post _)).trans (Updates.restIfDrained _ p)
  · rw [e]

theorem Updates.drainAll (s : State) (order : List Port) : Updates s (s.drainAll order) :=
  State.drainAll_induct (P := Updates s) order (fun t p h => h.trans (Updates.enterDraining t p)) s .refl

theorem Updates.drainOutOfService (s : State) (order : List Port) : Updates s (s.drainOutOfService order) :=
  State.drainOutOfService_induct (P := Updates s) order (fun t p h => h.trans (Updates.enterDraining t p)) s .refl

theorem Updates.afterRemoval (s : State) (p : Port) : Updates s (s.afterRemoval p) := by
  unfold State.afterRemoval
  split
  · exact Updates.arbiterRun s p
  · exact Updates.restIfDrained s p
  · exact .refl
  · exact .refl

theorem Updates.expireEntry (s : State) (p : Port) (t : Tag) (sched : List Port) : Updates s (s.expireEntry p t sched) := by
  rcases s.expireEntry_cases p t sched with e | ⟨x, _, _, _, e⟩
  · rw [e]
  · rw [e]
    exact (Update.port (PortBlock.eased_expire _ x)).chain.tail (.charge _ _ _)

theorem Updates.removeLapsed (s : State) (p : Port) (t : Tag) : Updates s (s.removeLapsed p t) := by
  rcases s.removeLapsed_cases p t with e | ⟨_, _, _, _, e⟩
  · rw [e]
  · rw [e]
    exact (Update.port (PortBlock.eased_removeEntry _ t)).chain

theorem Updates.ageAndExamine (s : State) (p : Port) (exams : List Exam) : Updates s (s.ageAndExamine p exams) :=
  State.ageAndExamine_induct (P := Updates s) p exams s (Update.port (PortBlock.eased_ageTable _)).chain
    (fun t x sched h => h.trans (Updates.expireEntry t p x sched)) (fun t x h => h.trans (Updates.removeLapsed t p x))

theorem Updates.refuseDemand (s : State) (p : Port) (q : QueueId) (r : RefuseReason) :
    Updates s (s.refuseDemand p q r) :=
  (Update.port (PortBlock.eased_of_frame _ _ _ _ _ _ _ _)).chain.tail (.place _)

theorem Updates.reclassifyQueues (s : State) (sched : List Port) : Updates s (s.reclassifyQueues sched) := by
  have h : (s.ports.mapIdx fun p b => b.reclassifyAll s.plans.inForce s.conductOf p).map Prod.fst =
      s.ports.mapIdx fun p b => (b.reclassifyAll s.plans.inForce s.conductOf p).1 :=
    Tab.ext_get fun p => by simp
  unfold State.reclassifyQueues
  dsimp only
  rw [h]
  exact Update.reclassify.chain.trans (Updates.placeAll _ _)

theorem Updates.reinstateAll (s : State) (order : List Account) (e : Epoch) : Updates s (s.reinstateAll order e) := by
  unfold State.reinstateAll
  dsimp only
  refine .trans (.tail (.single (.conduct _ fun a => ?_)) (.beginAnew _ _)) (Updates.postAll _ _)
  rw [Tab.get_mapIdx]
  split
  · exact ConductRec.eased_reset _
  · exact ConductRec.eased_of_flags _ _ _ _

end Sys2Proof.Machine
end

section
/-! PROOF. Every command but the resets, the start, the plan fetch's and the memory side's is a sequence of elementary
updates. -/

namespace Sys2Proof.Machine

/-- The outcome is a next state that updates lead to. -/
def UpdatesTo (s : State) (o : Host.Outcome State Fault Refusal) : Prop := ∃ t, o = .next t ∧ Updates s t

theorem UpdatesTo.of {s t : State} (h : Updates s t) : UpdatesTo s (.next t) := ⟨t, rfl, h⟩

theorem Update.to {s t : State} (h : Update s t) : UpdatesTo s (.next t) := .of h.chain

theorem UpdatesTo.stay (s : State) : UpdatesTo s (.next s) := .of .refl

/-- An update, followed by what a branch makes of the state. -/
theorem UpdatesTo.after {s t : State} {o : Host.Outcome State Fault Refusal} (h : Updates s t) (k : UpdatesTo t o) :
    UpdatesTo s o := by
  obtain ⟨u, ho, hu⟩ := k
  exact ⟨u, ho, h.trans hu⟩

theorem State.modPort_modPort (s : State) (p : Port) (f g : PortBlock → PortBlock) :
    (s.modPort p f).modPort p g = s.modPort p fun b => g (f b) := by
  have h : (s.ports.modify p f).modify p g = s.ports.modify p fun b => g (f b) := Tab.ext_get fun q => by
    simp only [Tab.get_modify]
    split <;> rfl
  simp only [State.modPort, h]

/-! ### The register window and the part state -/

theorem Updates.storeRun (s : State) (v : Bool) : Updates s (s.storeRun v) := (Update.window { s.win with run := v } rfl rfl).chain

theorem execRun_updates (s : State) : UpdatesTo s (execRun s) := by
  have hs := Updates.storeRun s true
  unfold execRun
  dsimp only
  split
  next hm =>
    have hstart := (Update.enterStarting (s := s)
      { s.win with run := true, mode := .starting, refusal := .none, withdrawn := false } hm rfl rfl).chain
    unfold State.beginStart
    dsimp only
    split
    · exact .of (hstart.tail (.window
        { s.win with run := true, mode := .starting, refusal := .none, withdrawn := false, startRead := true } rfl rfl))
    · exact .of (hstart.tail (.leaveStarting .baseInvalid rfl))
  · exact .of (hs.tail (.window _ rfl rfl))
  next hm => exact .of (hs.tail (.resume hm))
  next hm =>
    split
    · exact .of hs
    next hn =>
      exact .of ((hs.tail (.returnToRunning { s.win with run := true, mode := .running } hm (Bool.eq_false_iff.2 hn) rfl
        rfl)).tail (.resume rfl))

theorem execStop_updates (order : List Port) (s : State) : UpdatesTo s (execStop order s) := by
  have hs := Updates.storeRun s false
  unfold execStop
  dsimp only
  split
  · exact .of hs
  next hm =>
    split
    · exact .of (hs.tail (.window _ rfl rfl))
    · exact .of (hs.tail (.leaveStarting _ hm))
  next hm =>
    exact .of (((hs.tail (.enterStopping { s.win with run := false, mode := .stopping } hm rfl rfl)).trans
      (Updates.drainAll _ order)).tail .parkIfDone)
  · exact .of hs

theorem execRegisterWrite_updates (reg : WindowReg) (v : Word32) (s : State) :
    UpdatesTo s (execRegisterWrite reg v s) := by
  unfold execRegisterWrite
  split
  · cases reg
    · exact (Update.window { s.win with pageLo := v } rfl rfl).to
    · exact (Update.window { s.win with pageHi := v } rfl rfl).to
    · exact .stay s
  · exact .stay s

/-! ### The queue table and the link -/

theorem Updates.bindUnbound (s : State) (p : Port) (q : QueueId) (src : Word24) (lane : Lane)
    (h : (s.queue p q).bound = false) : Updates s (s.bindUnbound p q src lane) := by
  unfold State.bindUnbound
  split
  · exact (Update.place _).chain
  next r _ => exact (Update.bindQueue p q _ r src lane h).chain

theorem execBind_updates (p : Port) (q : QueueId) (src : Word24) (lane : Lane) (s : State) :
    UpdatesTo s (execBind p q src lane s) := by
  unfold execBind
  dsimp only
  split
  next hb => exact .of (Updates.bindUnbound s p q src lane hb)
  · split
    · exact .stay s
    · split
      · exact .of ((Update.unbindQueue p q).chain.trans
          (Updates.bindUnbound _ p q src lane (s.unbindQueue_bound p q)))
      · exact (Update.place _).to

theorem execUnbind_updates (p : Port) (q : QueueId) (s : State) : UpdatesTo s (execUnbind p q s) := by
  unfold execUnbind
  split
  · exact (Update.unbindQueue p q).to
  · exact .stay s

/-- What R87 lets pass: the port neither in STANDBY nor in DRAINING, the account not in CUT_OFF and with a share. -/
theorem State.demandRefusal_none {s : State} {p : Port} {q : QueueId} (h : s.demandRefusal p q = none) :
    (s.ports.get p).mode ≠ .standby ∧ (s.ports.get p).mode ≠ .draining ∧ s.conductOf (s.queue p q).account ≠ .cutOff ∧
      (s.plans.inForce.share p (s.queue p q).account).isSome = true := by
  simp only [State.demandRefusal] at h
  split at h
  · cases h
  next hm =>
    split at h
    · cases h
    next hc =>
      split at h
      · cases h
      next hs =>
        rw [not_or] at hm
        exact ⟨hm.1, hm.2, hc, by
          simpa [Option.isSome_iff_ne_none, State.queue] using hs⟩

theorem State.modConduct_seeDemand_conductOf (s : State) (a x : Account) :
    (s.modConduct a ConductRec.seeDemand).conductOf x = s.conductOf x := by
  unfold State.conductOf
  rw [State.modConduct_recs_get]
  split <;> rfl

theorem execDemand_updates (p : Port) (q : QueueId) (u : Word16) (s : State) : UpdatesTo s (execDemand p q u s) := by
  unfold execDemand
  dsimp only
  split
  · exact .of (Updates.refuseDemand s p q _)
  next hb =>
    have hsee := (Update.modConduct (s := s) (a := (s.queue p q).account) ConductRec.eased_seeDemand).chain
    split
    · exact .of (hsee.trans (Updates.refuseDemand _ p q _))
    next hn =>
      obtain ⟨hm, -, hc, -⟩ := State.demandRefusal_none hn
      have hacc := hsee.tail (.acceptDemand p q u.toNat (Bool.eq_true_of_not_eq_false hb) hm
        (by rw [State.modConduct_seeDemand_conductOf]; exact hc))
      split
      · exact .of (hacc.trans (Updates.arbiterRun _ p))
      · exact .of hacc

theorem execLevel_updates (p : Port) (l : Byte) (s : State) : UpdatesTo s (execLevel p l s) :=
  (Update.port (PortBlock.eased_of_frame _ _ _ _ _ _ _ _)).to

theorem execInboundDiscard_updates (bs : List Byte) (s : State) : UpdatesTo s (execInboundDiscard bs s) := by
  unfold execInboundDiscard
  split
  · exact (Update.link { s.link with discards := s.link.discards + 1 } le_rfl).to
  · exact .stay s

theorem execTransmitMessage_updates (order : List Port) (s : State) : UpdatesTo s (execTransmitMessage order s) := by
  unfold execTransmitMessage
  split
  · exact .stay s
  next m rest ho =>
    exact .of ((Update.link { s.link with output := rest, sending := some m.wire } (by simp [ho])).chain.trans
      (Updates.runAll _ _))

/-! ### The arbiter -/

theorem execClose_updates (p : Port) (t : Tag) (u : Word16) (ff : Bool) (sched : List Port) (s : State) :
    UpdatesTo s (execClose p t u ff sched s) := by
  unfold execClose
  split
  · exact (Update.port (PortBlock.eased_of_frame _ _ _ _ _ _ _ _)).to
  next e _ =>
    split
    · exact .of ((Update.port (PortBlock.eased_closeLapsed _ e _)).chain.trans (Updates.afterRemoval _ p))
    · have hclose := (Update.port (s := s) (p := p) (f := fun b => b.closeLive e u.toNat)
        (PortBlock.eased_closeLive _ e u.toNat)).chain
      dsimp only
      split
      · exact .of (hclose.trans (Updates.afterRemoval _ p))
      · split
        · exact .of ((hclose.trans (Updates.afterRemoval _ p)).tail (.charge _ _ _))
        · exact .of ((hclose.tail (.charge _ _ _)).trans (Updates.afterRemoval _ p))

theorem execGrantExpiry_updates (p : Port) (t : Tag) (sched : List Port) (s : State) :
    UpdatesTo s (execGrantExpiry p t sched s) := .of (Updates.expireEntry s p t sched)

theorem execLapsedEntryRemoval_updates (p : Port) (t : Tag) (s : State) : UpdatesTo s (execLapsedEntryRemoval p t s) :=
  .of ((Updates.removeLapsed s p t).trans (Updates.restIfDrained _ p))

/-! ### The timer -/

theorem Timer.ownBoundary_running {t : Timer} {now : Moment} (h : t.ownBoundary now = true) : t.running = true := by
  simp only [Timer.ownBoundary, Bool.and_eq_true] at h
  exact h.1.1.1

/-- The timer of a signal that is taken runs, in the follower's role. -/
theorem Timer.takesSignal_follower {t : Timer} {now : Moment} {n : Nat} {y : SyncSignal}
    (h : t.takesSignal now n y = true) : t.running = true ∧ t.timing.role = .follower := by
  simp only [Timer.takesSignal, Bool.and_eq_true, decide_eq_true_eq] at h
  exact ⟨h.1.1.1, h.1.1.2⟩

/-- A loss is found by a running timer in LOCKED. -/
theorem Timer.findsLoss_locked {t : Timer} {now : Moment} (h : t.findsLoss now = true) :
    t.running = true ∧ t.sync = .locked := by
  simp only [Timer.findsLoss, Bool.and_eq_true, decide_eq_true_eq] at h
  exact ⟨h.1.1.1, h.1.1.2⟩

theorem execBoundary_updates (now : Moment) (s : State) : UpdatesTo s (execBoundary now s) := by
  unfold execBoundary
  split
  next h => exact (Update.boundary _ _ _ (Timer.ownBoundary_running h)).to
  · exact .stay s

theorem execSyncPulse_updates (now : Moment) (n : Nat) (s : State) : UpdatesTo s (execSyncPulse now n s) := by
  unfold execSyncPulse
  split
  next h =>
    rw [Bool.and_eq_true, Bool.and_eq_true] at h
    exact (Update.boundary _ _ _ (Timer.takesSignal_follower h.1.1).1).to
  · exact .stay s

theorem execSyncMark_updates (now : Moment) (n : Nat) (s : State) : UpdatesTo s (execSyncMark now n s) := by
  unfold execSyncMark
  dsimp only
  split
  next h =>
    obtain ⟨hrun, hrole⟩ := Timer.takesSignal_follower h
    split
    · exact .of (((Update.setSync .locked (.inl hrole) (.inr rfl)).chain.tail (.boundary _ _ _ hrun)).tail (.post _))
    · split
      · have hb := (Update.boundary (s := s) now (realigned s.timer.epoch) (now + s.timer.timing.ns) hrun).chain
        split
        · exact .of hb
        · exact .of (hb.tail (.post _))
      · exact .stay s
    · exact .stay s
    · exact .stay s
  · exact .stay s

theorem execLossOfLock_updates (now : Moment) (s : State) : UpdatesTo s (execLossOfLock now s) := by
  unfold execLossOfLock
  dsimp only
  split
  next h =>
    obtain ⟨hrun, hsync⟩ := Timer.findsLoss_locked h
    exact .of (((Update.setSync .seeking (.inr hsync) (.inl rfl)).chain.tail (.boundary _ _ _ hrun)).tail (.post _))
  · exact .stay s

/-! ### A port's epoch -/

theorem Cell.closeStages_settled (c : Cell) (sh : Option Share) (st : Conduct) (sv : Bool) :
    (c.closeStages sh st sv).allowance = 0 ∧ (c.closeStages sh st sv).issued = 0 := by
  unfold Cell.closeStages Cell.updateStarved Cell.updateCredit
  split <;> split <;> exact ⟨rfl, rfl⟩

/-- A port with nothing allowed, nothing issued and no allocation in flight. -/
def PortBlock.atRest (b : PortBlock) : Prop := b.settled ∧ b.inFlight = none

theorem PortBlock.Eased.atRest {b b' : PortBlock} (h : b.Eased b') (hb : b.atRest) : b'.atRest :=
  ⟨fun a => ⟨(h.allowance a).trans (hb.1 a).1, Nat.le_zero.1 ((h.issued a).trans_eq (hb.1 a).2)⟩,
    h.inFlight.trans hb.2⟩

theorem PortBlock.cutOff_atRest {b : PortBlock} (a : Account) (hb : b.atRest) : (b.cutOff a).atRest := by
  refine ⟨fun x => ?_, by simp [PortBlock.cutOff, hb.2]⟩
  rw [PortBlock.cutOff_cell, hb.2]
  split
  · exact ⟨(hb.1 x).2, (hb.1 x).2⟩
  · exact hb.1 x

theorem State.charge_atRest {s : State} {p : Port} (a : Account) (n : Nat) (sched : List Port)
    (h : (s.ports.get p).atRest) : ((s.charge a n sched).ports.get p).atRest := by
  rcases s.charge_ports a n sched with e | ⟨_, _, e⟩
  · rw [e]; exact h
  · rw [e]; exact PortBlock.cutOff_atRest a h

/-- Stage 4 leaves a settled port settled, whomever its expiries cut off. -/
theorem State.ageAndExamine_atRest {s : State} {p : Port} (exams : List Exam) (h : (s.ports.get p).atRest) :
    ((s.ageAndExamine p exams).ports.get p).atRest := by
  refine State.ageAndExamine_induct (P := fun t => (t.ports.get p).atRest) p exams s ?_ ?_ ?_
  · rw [State.modPort_ports_self]; exact (PortBlock.eased_ageTable _).atRest h
  · intro t x sched ht
    rcases t.expireEntry_cases p x sched with e | ⟨y, _, _, _, e⟩
    · rw [e]; exact ht
    · rw [e]
      exact State.charge_atRest _ _ _ (by rw [State.modPort_ports_self]; exact (PortBlock.eased_expire _ y).atRest ht)
  · intro t x ht
    rcases t.removeLapsed_cases p x with e | ⟨_, _, _, _, e⟩
    · rw [e]; exact ht
    · rw [e, State.modPort_ports_self]; exact (PortBlock.eased_removeEntry _ x).atRest ht

/-- When a port takes its close: out of STANDBY, with no allocation in flight, owing one (R19). -/
theorem PortBlock.closeReady_iff (b : PortBlock) :
    b.closeReady = true ↔ b.mode ≠ .standby ∧ b.inFlight = none ∧ b.closeOwed ≠ [] := by
  simp [PortBlock.closeReady, and_assoc]

theorem execPortClose_updates (p : Port) (exams : List Exam) (s : State) : UpdatesTo s (execPortClose p exams s) := by
  unfold execPortClose
  dsimp only
  split
  · exact .stay s
  next e rest ho =>
    split
    next hr =>
      obtain ⟨hm, hf, -⟩ := (PortBlock.closeReady_iff _).1 hr
      have hzero : ∀ a : Account, (((s.ports.get p).cells.mapIdx fun a c =>
          Cell.closeStages c (s.plans.inForce.share p a) (s.conductOf a) (s.ports.get p).served).get a).allowance = 0 ∧
          (((s.ports.get p).cells.mapIdx fun a c =>
          Cell.closeStages c (s.plans.inForce.share p a) (s.conductOf a) (s.ports.get p).served).get a).issued = 0 := by
        intro a
        rw [Tab.get_mapIdx]
        exact Cell.closeStages_settled _ _ _ _
      have hsettle := (Update.settle (s := s) p _ e hzero).chain
      have hblock : (s.modPort p fun b => b.closeStages e (s.plans.inForce.share p) s.conductOf) =
          s.modPort p fun b => { b with
            cells := (s.ports.get p).cells.mapIdx fun a c =>
              c.closeStages (s.plans.inForce.share p a) (s.conductOf a) (s.ports.get p).served
            openEpoch := e } := rfl
      rw [← hblock] at hsettle
      have hrest : ((s.modPort p fun b => b.closeStages e (s.plans.inForce.share p) s.conductOf).ports.get p).atRest := by
        rw [State.modPort_ports_self]
        exact ⟨hzero, hf⟩
      have hrest' := State.ageAndExamine_atRest exams hrest
      have hsampled := (hsettle.trans (Updates.ageAndExamine _ p exams)).tail (.port (p := p)
        (f := fun b => b.sampleLevel (s.portRecord p).depth) (PortBlock.eased_of_frame _ _ _ _ _ _ _ _))
      refine .of (((hsampled.tail (.handOver _)).tail (.afterClose p e rest ?_ ?_ ?_ ?_)).trans
        (Updates.restIfDrained _ p))
      · simpa [PortBlock.sampleLevel, PortBlock.closeStages] using hm
      · simpa [PortBlock.sampleLevel] using hrest'.2
      · simpa [PortBlock.sampleLevel, PortBlock.closeStages] using ho
      · rw [State.handOver_ports, State.modPort_ports_self]; exact hrest'.1
    · exact .stay s

/-- When a port takes its state change (R41). -/
theorem State.changeReady_owes {s : State} {p : Port} (h : s.changeReady p = true) :
    (s.ports.get p).closeOwed.length < (s.ports.get p).changeOwed.length ∨ (s.ports.get p).mode = .standby := by
  simp only [State.changeReady, Bool.and_eq_true, Bool.or_eq_true, decide_eq_true_eq] at h
  exact h.2

theorem State.inService_running {s : State} {p : Port} (h : s.inService p = true) : s.win.mode = .running := by
  simp only [State.inService, Bool.and_eq_true, decide_eq_true_eq] at h
  exact h.2

theorem execPortStateChange_updates (p : Port) (s : State) : UpdatesTo s (execPortStateChange p s) := by
  unfold execPortStateChange
  dsimp only
  split
  · exact .stay s
  next e rest ho =>
    split
    next hr =>
      have howes := State.changeReady_owes hr
      have hstay (hn : (s.ports.get p).mode ≠ .granting) : Updates s (s.modPort p fun b => b.takeChange rest) := by
        have hsame : (s.modPort p fun b => b.takeChange rest) =
            s.modPort p fun b => { b.takeChange rest with mode := (s.ports.get p).mode } := rfl
        rw [hsame]
        exact (Update.takeChange p e rest _ ho howes (.inl ⟨rfl, hn⟩)).chain
      have hgo (hrun : (s.ports.get p).mode = .standby → s.win.mode = .running) :
          Updates s (s.modPort p fun b => { b.takeChange rest with mode := .allocating }) :=
        (Update.takeChange p e rest _ ho howes (.inr ⟨rfl, hrun⟩)).chain
      split
      next hm =>
        split
        next hin =>
          have hopen : Update (s.modPort p fun b => { b.takeChange rest with mode := .allocating })
              ((s.modPort p fun b => { b.takeChange rest with mode := .allocating }).modPort p fun b =>
                { b with openEpoch := e, allocDue := true }) := .port (PortBlock.eased_of_frame _ _ _ _ _ _ _ _)
          rw [State.modPort_modPort] at hopen
          rw [State.modPort_modPort]
          exact .of (((hgo fun _ => State.inService_running hin).tail hopen).tail (.post _))
        · exact .of (hstay (by rw [hm]; decide))
      next hm => rw [State.modPort_modPort]; exact .of (hgo fun h => by rw [hm] at h; cases h)
      next hm => exact .of (hstay (by rw [hm]; decide))
      next hm =>
        split
        · rw [State.modPort_modPort]; exact .of (hgo fun h => by rw [hm] at h; cases h)
        · exact .of (hstay (by rw [hm]; decide))
    · exact .stay s

theorem execAllocationStart_updates (p : Port) (s : State) : UpdatesTo s (execAllocationStart p s) := by
  unfold execAllocationStart
  split
  next h =>
    simp only [State.startReady, Bool.and_eq_true, decide_eq_true_eq, List.isEmpty_iff] at h
    exact (Update.startAllocation p _ _ _ (by tauto) (by tauto) (by tauto)).to
  · exact .stay s

theorem execAllocationComplete_updates (p : Port) (s : State) : UpdatesTo s (execAllocationComplete p s) := by
  unfold execAllocationComplete
  dsimp only
  split
  · exact .stay s
  next al hf =>
    split
    next h =>
      simp only [PortBlock.delivers, Bool.and_eq_true, decide_eq_true_eq] at h
      exact .of ((Update.deliver p al hf h.1.1).chain.trans (Updates.arbiterRun _ p))
    · exact (Update.discard p).to

/-! ### Conduct, the scan and a plan's application -/

theorem execConductBoundary_updates (order : List Account) (s : State) : UpdatesTo s (execConductBoundary order s) := by
  unfold execConductBoundary
  split
  · exact .stay s
  · dsimp only
    split
    · refine .of (.trans (.tail (.single (.conduct _ fun a => ?_)) (.beginAnew _ _)) (Updates.postAll _ _))
      rw [Tab.get_mapIdx]
      exact ConductRec.eased_atBoundary _ _
    · exact .stay s

theorem execAutoRecovery_updates (a : Account) (s : State) : UpdatesTo s (execAutoRecovery a s) := by
  unfold execAutoRecovery
  split
  · exact .stay s
  · split
    · exact .of (.tail (.tail (.single (.modConduct ConductRec.eased_recover)) (.beginAnew _ _)) (.post _))
    · exact .stay s

theorem execSweep_updates (s : State) : UpdatesTo s (execSweep s) := by
  unfold execSweep
  split
  · exact .stay s
  next e rest _ =>
    have howed := (Update.scan (s := s) { s.scan with owed := rest } id).chain
    dsimp only
    split
    · split
      · exact .of howed
      next c _ =>
        refine .after howed ?_
        unfold State.offerFinding
        dsimp only
        split
        · refine .of (.tail (.tail (.single (.post _)) (.port ?_)) (.scan _ fun _ => by simp))
          exact PortBlock.eased_modCell _ _ _ (fun _ => rfl) fun _ => le_rfl
        · exact (Update.scan (s := { s with scan := { s.scan with owed := rest } })
            { s.scan with owed := rest, cursor := c } id).to
    · exact .of howed

/-- A new threshold has the scan leave HALTED, with its finding, or leaves both (R110). -/
theorem Scan.takeThreshold_sound {sc : Scan} (n : Nat) (h : sc.state = .halted ↔ sc.finding.isSome = true) :
    (sc.takeThreshold n).state = .halted ↔ (sc.takeThreshold n).finding.isSome = true := by
  unfold Scan.takeThreshold
  split <;> split <;> simp_all

theorem Updates.applyPlan (s : State) (pl : Plan) (e : Epoch) (order sched : List Port) (accounts : List Account)
    (h : s.plans.staged = some pl) : Updates s (s.applyPlan pl e order sched accounts) := by
  unfold State.applyPlan
  dsimp only
  have h1 := (Update.takePlan pl e h).chain
  have h3 := (h1.trans (Updates.reinstateAll _ accounts e)).trans (Updates.reclassifyQueues _ sched)
  have h5 := (h3.tail (.applyShares s.plans.inForce)).trans (Updates.drainOutOfService _ order)
  exact ((h5.tail .placeDeferred).tail (.scan _ (Scan.takeThreshold_sound pl.scanS))).tail (.post _)

theorem execPlanApplication_updates (order sched : List Port) (accounts : List Account) (s : State) :
    UpdatesTo s (execPlanApplication order sched accounts s) := by
  unfold execPlanApplication
  split
  · exact .stay s
  next d rest _ =>
    have howed := (Update.plans (s := s) { s.plans with owed := rest } ⟨rfl, rfl, rfl, rfl⟩).chain
    dsimp only
    split
    · exact .of howed
    next pl hst =>
      split
      · exact .of (howed.trans (Updates.applyPlan _ pl _ _ _ _ hst))
      · exact .of howed

/-! ### The commands -/

/-- The commands that are sequences of updates: all but the resets, the start, the plan fetch's and the memory side's. -/
def plainCommand : Instr → Bool
  | .powerOnReset | .controlReset _ | .startReadComplete _ _ | .hostHalfReadComplete _ _ | .planFetchComplete _
  | .journalWriteComplete | .partHalfWriteComplete | .signalWriteComplete | .statementDue | .usageWriteComplete
  | .memoryAccessFailed _ | .planReadComplete _ => false
  | _ => true

theorem exec_updates (c : Instr) (hc : plainCommand c = true) (s : State) : UpdatesTo s (exec c s) := by
  cases c with
  | run => exact execRun_updates s
  | stop order => exact execStop_updates order s
  | registerWrite reg v => exact execRegisterWrite_updates reg v s
  | bind p q src lane => exact execBind_updates p q src lane s
  | unbind p q => exact execUnbind_updates p q s
  | demand p q u => exact execDemand_updates p q u s
  | close p t u ff sched => exact execClose_updates p t u ff sched s
  | level p l => exact execLevel_updates p l s
  | inboundDiscard bs => exact execInboundDiscard_updates bs s
  | transmitMessage order => exact execTransmitMessage_updates order s
  | boundary now => exact execBoundary_updates now s
  | syncPulse now n => exact execSyncPulse_updates now n s
  | syncMark now n => exact execSyncMark_updates now n s
  | lossOfLock now => exact execLossOfLock_updates now s
  | portClose p exams => exact execPortClose_updates p exams s
  | grantExpiry p t sched => exact execGrantExpiry_updates p t sched s
  | lapsedEntryRemoval p t => exact execLapsedEntryRemoval_updates p t s
  | portStateChange p => exact execPortStateChange_updates p s
  | allocationStart p => exact execAllocationStart_updates p s
  | allocationComplete p => exact execAllocationComplete_updates p s
  | conductBoundary order => exact execConductBoundary_updates order s
  | autoRecovery a => exact execAutoRecovery_updates a s
  | sweep => exact execSweep_updates s
  | planApplication order sched accounts => exact execPlanApplication_updates order sched accounts s
  | _ => cases hc

end Sys2Proof.Machine
end

section
/-! PROOF. What the other commands make of the state: the resets, the start, the plan fetch's and the memory side's. With the
updates this says once what a step can do. -/

namespace Sys2Proof.Machine

/-- What one command that is no sequence of updates makes of the state, with what it goes by. -/
inductive Turn (s : State) : State → Prop where
  | stay : Turn s s
  | reset (lo hi : Word32) : Turn s { State.reset with
      win := { Window.reset with pageLo := lo, pageHi := hi }, pending := s.pending }
  | leaveStarting (r : StartRefusal) (h : s.win.mode = .starting) : Turn s (s.leaveStarting r)
  | enterRunning (st : PartStatic) (hh : HostHalf) (now : Moment) (h : s.win.mode = .starting) :
      Turn s (s.enterRunning st hh now)
  | dropRead : Turn s { s with mem := { s.mem with abandoned := s.mem.abandoned - 1 } }
  | completeRead (r : HostRead) (hh : HostHalf) (h : s.mem.read = some r) : Turn s (s.completeRead r hh)
  | keepFetching (f : Fetch) (data : List Byte) (h : s.plans.fetch = some f) :
      Turn s { s with plans := { s.plans with fetch := some { f with data := data } } }
  | finishFetch (f : Fetch) (r : FetchEnd) (h : s.plans.fetch = some f)
      (hr : ∀ pl, r = .passed pl → ∃ bytes tail, planFault bytes tail = none ∧ pl = (readPlan bytes).clamped) :
      Turn s (s.finishFetch f r)
  | noticeWritten (w : JournalWrite) (n : Notice) (h : s.mem.journalWrite = some w) (hi : w.item = .notice n) :
      Turn s (s.noticeWritten n w.count).pump
  | firstWritten (w : JournalWrite) (p : Port) (r : Report) (h : s.mem.journalWrite = some w) (hi : w.item = .first p r) :
      Turn s (s.firstWritten p r w.count)
  | reportWritten (w : JournalWrite) (p : Port) (r : Report) (h : s.mem.journalWrite = some w)
      (hi : w.item = .continuation p r) : Turn s (s.reportWritten p).pump
  | signalFinal (w : PartHalfWrite) (h : s.mem.partHalf = some w) (hf : w.final = true) :
      Turn s ({ s with mem := { s.mem with partHalf := none } }.issueSignal w)
  | signalNext (w : PartHalfWrite) (h : s.mem.partHalf = some w) (hf : w.final = false) :
      Turn s ({ s with mem := { s.mem with partHalf := none } }.issueSignal w).issueOwed
  | partHalfFinal (w : PartHalfWrite) (h : s.mem.partHalf = some w) (hf : w.final = true) :
      Turn s { s with mem := { s.mem with partHalf := none, signalDue := s.mem.signalDue || w.signalling } }.park
  | partHalfNext (w : PartHalfWrite) (h : s.mem.partHalf = some w) (hf : w.final = false) :
      Turn s { s with mem := { s.mem with partHalf := none, signalDue := s.mem.signalDue || w.signalling } }.issueOwed
  | lastSignal (w : SignalWrite) (rest : List SignalWrite) (h : s.mem.signalWrites = w :: rest) (hf : w.final = true) :
      Turn s { s with mem := { s.mem with signalWrites := rest } }.park
  | signal (w : SignalWrite) (rest : List SignalWrite) (h : s.mem.signalWrites = w :: rest) (hf : w.final = false) :
      Turn s { s with mem := { s.mem with signalWrites := rest } }
  | countStatement (owed : List Epoch) (n : Nat) :
      Turn s { s with mem := { s.mem with stmtOwed := owed, stmtCount := n } }
  | beginStatement (owed : List Epoch) (n : Word32) (e : Epoch) (ha : s.active = true) (hm : s.mem.mode = .serving) :
      Turn s ({ s with mem := { s.mem with stmtOwed := owed, stmtCount := 0, stmtNumber := n } }.issueUsage e .opening)
  | nextUsage (st : Statement) (step : UsageStep) (n : Word32) (h : s.mem.statement = some st) :
      Turn s ({ s with mem := { s.mem with stmtNumber := n } }.issueUsage st.epoch step)
  | endStatement : Turn s { s with mem := { s.mem with statement := none } }
  | enterFaulted (r : Region) (ha : s.active = true) (hm : s.mem.mode = .serving) : Turn s (s.enterFaulted r)

/-- The outcome is a next state that a turn makes. -/
def TurnsTo (s : State) (o : Host.Outcome State Fault Refusal) : Prop := ∃ t, o = .next t ∧ Turn s t

theorem Turn.to {s t : State} (h : Turn s t) : TurnsTo s (.next t) := ⟨t, rfl, h⟩

theorem execStartReadComplete_turns (r : StartRead) (now : Moment) (s : State) :
    TurnsTo s (execStartReadComplete r now s) := by
  unfold execStartReadComplete
  split
  next h =>
    split
    · exact (Turn.leaveStarting _ h.1).to
    · cases r with
      | failed => exact (Turn.leaveStarting _ h.1).to
      | page hb sb =>
        dsimp only
        split
        · exact (Turn.leaveStarting _ h.1).to
        · exact (Turn.enterRunning _ _ _ h.1).to
  · exact Turn.stay.to

theorem execHostHalfReadComplete_turns (ab : Bool) (bytes : List Byte) (s : State) :
    TurnsTo s (execHostHalfReadComplete ab bytes s) := by
  unfold execHostHalfReadComplete
  split
  · exact Turn.dropRead.to
  · split
    · exact Turn.stay.to
    · exact (Turn.completeRead _ _ ‹_›).to

/-- A fetch that ends with a plan that passes has found no fault in its bytes (R134, R135). -/
theorem Fetch.endWith_passed {f : Fetch} {bytes : List Byte} {pl : Plan} (h : f.endWith bytes = some (.passed pl)) :
    ∃ data tail, planFault data tail = none ∧ pl = (readPlan data).clamped := by
  unfold Fetch.endWith at h
  split at h
  · cases h
  · split at h
    · simp at h
    · split at h
      · split at h
        · cases h
        · cases h; exact ⟨_, _, ‹_›, rfl⟩
      · cases h

theorem execPlanFetchComplete_turns (r : PlanRead) (s : State) : TurnsTo s (execPlanFetchComplete r s) := by
  unfold execPlanFetchComplete
  split
  · exact Turn.stay.to
  next f hf =>
    cases r with
    | failed => exact (Turn.finishFetch f _ hf fun _ h => by cases h).to
    | data bytes =>
      dsimp only
      split
      · exact Turn.stay.to
      next e he =>
        exact (Turn.finishFetch f e hf fun pl h => Fetch.endWith_passed (by rw [he, h])).to

theorem execPlanReadComplete_turns (bytes : List Byte) (s : State) : TurnsTo s (execPlanReadComplete bytes s) := by
  unfold execPlanReadComplete
  split
  · exact Turn.stay.to
  next f hf =>
    split
    · exact (Turn.keepFetching f _ hf).to
    · exact Turn.stay.to

theorem execJournalWriteComplete_turns (s : State) : TurnsTo s (execJournalWriteComplete s) := by
  unfold execJournalWriteComplete
  split
  · exact Turn.stay.to
  next w hw =>
    split
    next n hi => exact (Turn.noticeWritten w n hw hi).to
    next p r hi => exact (Turn.firstWritten w p r hw hi).to
    next p r hi => exact (Turn.reportWritten w p r hw hi).to

theorem execPartHalfWriteComplete_turns (s : State) : TurnsTo s (execPartHalfWriteComplete s) := by
  unfold execPartHalfWriteComplete
  split
  · exact Turn.stay.to
  next w hw =>
    dsimp only
    split
    · split
      next hf => exact (Turn.signalFinal w hw hf).to
      next hf => exact (Turn.signalNext w hw (Bool.eq_false_iff.2 hf)).to
    · split
      next hf => exact (Turn.partHalfFinal w hw hf).to
      next hf => exact (Turn.partHalfNext w hw (Bool.eq_false_iff.2 hf)).to

theorem execSignalWriteComplete_turns (s : State) : TurnsTo s (execSignalWriteComplete s) := by
  unfold execSignalWriteComplete
  split
  · exact Turn.stay.to
  next w rest hw =>
    dsimp only
    split
    next hf => exact (Turn.lastSignal w rest hw hf).to
    next hf => exact (Turn.signal w rest hw (Bool.eq_false_iff.2 hf)).to

theorem execStatementDue_turns (s : State) : TurnsTo s (execStatementDue s) := by
  unfold execStatementDue
  split
  · exact Turn.stay.to
  next e rest _ =>
    split
    · exact (Turn.countStatement rest _).to
    · unfold State.beginStatement
      split
      · exact (Turn.countStatement rest 0).to
      next h =>
        rw [not_or, not_or] at h
        obtain ⟨hm, -, ha⟩ := h
        refine (Turn.beginStatement (s := s) rest (nextOdd s.mem.stmtNumber) e (Bool.eq_true_of_not_eq_false ha) ?_).to
        cases hc : s.mem.mode with
        | serving => rfl
        | faulted => exact absurd hc hm

theorem execUsageWriteComplete_turns (s : State) : TurnsTo s (execUsageWriteComplete s) := by
  unfold execUsageWriteComplete
  split
  · exact Turn.stay.to
  next st hst =>
    split
    · exact Turn.endStatement.to
    · exact (Turn.nextUsage st .closing _ hst).to
    · exact (Turn.nextUsage st _ s.mem.stmtNumber hst).to

theorem execMemoryAccessFailed_turns (x : Access) (s : State) : TurnsTo s (execMemoryAccessFailed x s) := by
  unfold execMemoryAccessFailed
  split
  next h => exact (Turn.enterFaulted _ h.1 h.2.1).to
  · exact Turn.stay.to

/-- The commands that are no sequences of updates take a turn. -/
theorem exec_turns (c : Instr) (hc : plainCommand c = false) (s : State) : TurnsTo s (exec c s) := by
  cases c with
  | powerOnReset => exact (Turn.reset 0 0).to
  | controlReset v => exact (Turn.reset s.win.pageLo s.win.pageHi).to
  | startReadComplete r now => exact execStartReadComplete_turns r now s
  | hostHalfReadComplete ab bytes => exact execHostHalfReadComplete_turns ab bytes s
  | planFetchComplete r => exact execPlanFetchComplete_turns r s
  | planReadComplete bytes => exact execPlanReadComplete_turns bytes s
  | journalWriteComplete => exact execJournalWriteComplete_turns s
  | partHalfWriteComplete => exact execPartHalfWriteComplete_turns s
  | signalWriteComplete => exact execSignalWriteComplete_turns s
  | statementDue => exact execStatementDue_turns s
  | usageWriteComplete => exact execUsageWriteComplete_turns s
  | memoryAccessFailed x => exact execMemoryAccessFailed_turns x s
  | _ => cases hc

/-- All that a command does: updates one after another, or a turn. -/
theorem exec_cases (c : Instr) (s : State) : ∃ t, exec c s = .next t ∧ (Updates s t ∨ Turn s t) := by
  cases hc : plainCommand c with
  | true => obtain ⟨t, ht, hu⟩ := exec_updates c hc s; exact ⟨t, ht, .inl hu⟩
  | false => obtain ⟨t, ht, hu⟩ := exec_turns c hc s; exact ⟨t, ht, .inr hu⟩

/-- The step takes the front command, or the part idles. -/
theorem step_cases {s t : State} (h : step s = .next t) :
    t = s ∨ ∃ c rest, s.pending = c :: rest ∧
      (Updates { s with pending := rest } t ∨ Turn { s with pending := rest } t) := by
  unfold step at h
  split at h
  · cases h; exact .inl rfl
  next c rest hp =>
    obtain ⟨u, hu, hcase⟩ := exec_cases c { s with pending := rest }
    rw [hu] at h
    cases h
    exact .inr ⟨c, rest, hp, hcase⟩

/-- A fact that the queue of waiting commands has no part in, and that every update and every turn keeps, is kept by every
step. -/
theorem keptByEveryStep_of {P : State → Prop} (hq : ∀ (s : State) l, P s → P { s with pending := l })
    (hu : ∀ s t, P s → Update s t → P t) (ht : ∀ s t, P s → Turn s t → P t) : KeptByEveryStep P := by
  intro s t hs h
  rcases step_cases h with rfl | ⟨c, rest, -, hup | hturn⟩
  · exact hs
  · exact hup.keep hu (hq s rest hs)
  · exact ht _ _ (hq s rest hs) hturn

/-! ### What the memory side's completions leave -/

@[simp] theorem State.noticeWritten_link (s : State) (n : Notice) (c : Word32) : (s.noticeWritten n c).link = s.link := by
  unfold State.noticeWritten; dsimp only; split <;> rfl
@[simp] theorem State.noticeWritten_ports (s : State) (n : Notice) (c : Word32) : (s.noticeWritten n c).ports = s.ports := by
  unfold State.noticeWritten; dsimp only; split <;> rfl
@[simp] theorem State.noticeWritten_conduct (s : State) (n : Notice) (c : Word32) : (s.noticeWritten n c).conduct = s.conduct := by
  unfold State.noticeWritten; dsimp only; split <;> rfl
@[simp] theorem State.noticeWritten_timer (s : State) (n : Notice) (c : Word32) : (s.noticeWritten n c).timer = s.timer := by
  unfold State.noticeWritten; dsimp only; split <;> rfl
@[simp] theorem State.noticeWritten_plans (s : State) (n : Notice) (c : Word32) : (s.noticeWritten n c).plans = s.plans := by
  unfold State.noticeWritten; dsimp only; split <;> rfl
@[simp] theorem State.noticeWritten_win (s : State) (n : Notice) (c : Word32) : (s.noticeWritten n c).win = s.win := by
  unfold State.noticeWritten; dsimp only; split <;> rfl
@[simp] theorem State.noticeWritten_pending (s : State) (n : Notice) (c : Word32) : (s.noticeWritten n c).pending = s.pending := by
  unfold State.noticeWritten; dsimp only; split <;> rfl
@[simp] theorem State.firstWritten_link (s : State) (p : Port) (r : Report) (c : Word32) :
    (s.firstWritten p r c).link = s.link := by unfold State.firstWritten; dsimp only; split <;> simp
@[simp] theorem State.firstWritten_ports (s : State) (p : Port) (r : Report) (c : Word32) :
    (s.firstWritten p r c).ports = s.ports := by unfold State.firstWritten; dsimp only; split <;> simp
@[simp] theorem State.firstWritten_conduct (s : State) (p : Port) (r : Report) (c : Word32) :
    (s.firstWritten p r c).conduct = s.conduct := by unfold State.firstWritten; dsimp only; split <;> simp
@[simp] theorem State.firstWritten_scan (s : State) (p : Port) (r : Report) (c : Word32) :
    (s.firstWritten p r c).scan = s.scan := by unfold State.firstWritten; dsimp only; split <;> simp
@[simp] theorem State.firstWritten_timer (s : State) (p : Port) (r : Report) (c : Word32) :
    (s.firstWritten p r c).timer = s.timer := by unfold State.firstWritten; dsimp only; split <;> simp
@[simp] theorem State.firstWritten_plans (s : State) (p : Port) (r : Report) (c : Word32) :
    (s.firstWritten p r c).plans = s.plans := by unfold State.firstWritten; dsimp only; split <;> simp
@[simp] theorem State.firstWritten_win (s : State) (p : Port) (r : Report) (c : Word32) :
    (s.firstWritten p r c).win = s.win := by unfold State.firstWritten; dsimp only; split <;> simp
@[simp] theorem State.firstWritten_pending (s : State) (p : Port) (r : Report) (c : Word32) :
    (s.firstWritten p r c).pending = s.pending := by unfold State.firstWritten; dsimp only; split <;> simp
@[simp] theorem State.reportWritten_link (s : State) (p : Port) : (s.reportWritten p).link = s.link := rfl
@[simp] theorem State.reportWritten_ports (s : State) (p : Port) : (s.reportWritten p).ports = s.ports := rfl
@[simp] theorem State.reportWritten_conduct (s : State) (p : Port) : (s.reportWritten p).conduct = s.conduct := rfl
@[simp] theorem State.reportWritten_scan (s : State) (p : Port) : (s.reportWritten p).scan = s.scan := rfl
@[simp] theorem State.reportWritten_timer (s : State) (p : Port) : (s.reportWritten p).timer = s.timer := rfl
@[simp] theorem State.reportWritten_plans (s : State) (p : Port) : (s.reportWritten p).plans = s.plans := rfl
@[simp] theorem State.reportWritten_win (s : State) (p : Port) : (s.reportWritten p).win = s.win := rfl
@[simp] theorem State.reportWritten_pending (s : State) (p : Port) : (s.reportWritten p).pending = s.pending := rfl
@[simp] theorem State.issueSignal_link (s : State) (w : PartHalfWrite) : (s.issueSignal w).link = s.link := rfl
@[simp] theorem State.issueSignal_ports (s : State) (w : PartHalfWrite) : (s.issueSignal w).ports = s.ports := rfl
@[simp] theorem State.issueSignal_conduct (s : State) (w : PartHalfWrite) : (s.issueSignal w).conduct = s.conduct := rfl
@[simp] theorem State.issueSignal_scan (s : State) (w : PartHalfWrite) : (s.issueSignal w).scan = s.scan := rfl
@[simp] theorem State.issueSignal_timer (s : State) (w : PartHalfWrite) : (s.issueSignal w).timer = s.timer := rfl
@[simp] theorem State.issueSignal_plans (s : State) (w : PartHalfWrite) : (s.issueSignal w).plans = s.plans := rfl
@[simp] theorem State.issueSignal_win (s : State) (w : PartHalfWrite) : (s.issueSignal w).win = s.win := rfl
@[simp] theorem State.issueSignal_pending (s : State) (w : PartHalfWrite) : (s.issueSignal w).pending = s.pending := rfl
@[simp] theorem State.completeRead_link (s : State) (r : HostRead) (h : HostHalf) : (s.completeRead r h).link = s.link := by
  unfold State.completeRead State.takeHostHalf; dsimp only; split <;> simp
@[simp] theorem State.completeRead_ports (s : State) (r : HostRead) (h : HostHalf) : (s.completeRead r h).ports = s.ports := by
  unfold State.completeRead State.takeHostHalf; dsimp only; split <;> simp
@[simp] theorem State.completeRead_conduct (s : State) (r : HostRead) (h : HostHalf) : (s.completeRead r h).conduct = s.conduct := by
  unfold State.completeRead State.takeHostHalf; dsimp only; split <;> simp
@[simp] theorem State.completeRead_timer (s : State) (r : HostRead) (h : HostHalf) : (s.completeRead r h).timer = s.timer := by
  unfold State.completeRead State.takeHostHalf; dsimp only; split <;> simp
@[simp] theorem State.completeRead_win (s : State) (r : HostRead) (h : HostHalf) : (s.completeRead r h).win = s.win := by
  unfold State.completeRead State.takeHostHalf; dsimp only; split <;> simp
@[simp] theorem State.completeRead_pending (s : State) (r : HostRead) (h : HostHalf) : (s.completeRead r h).pending = s.pending := by
  unfold State.completeRead State.takeHostHalf; dsimp only; split <;> simp
@[simp] theorem State.enterRunning_link (s : State) (st : PartStatic) (h : HostHalf) (now : Moment) :
    (s.enterRunning st h now).link = s.link := by simp [State.enterRunning]
@[simp] theorem State.enterRunning_ports (s : State) (st : PartStatic) (h : HostHalf) (now : Moment) :
    (s.enterRunning st h now).ports = s.ports := by simp [State.enterRunning]
@[simp] theorem State.enterRunning_conduct (s : State) (st : PartStatic) (h : HostHalf) (now : Moment) :
    (s.enterRunning st h now).conduct = s.conduct := by simp [State.enterRunning]
@[simp] theorem State.enterRunning_pending (s : State) (st : PartStatic) (h : HostHalf) (now : Moment) :
    (s.enterRunning st h now).pending = s.pending := by simp [State.enterRunning]

/-! ### The queue of waiting commands -/

theorem Update.pending {s t : State} (h : Update s t) : t.pending = s.pending := by
  cases h with
  | resume => unfold State.resumeMemory; split <;> rfl
  | parkIfDone | place | post | charge | issueGrant | boundary | placeDeferred => simp
  | enterStandby => simp [State.standbyEntered]
  | _ => rfl

theorem Updates.pending {s t : State} (h : Updates s t) : t.pending = s.pending :=
  h.keep (P := fun u => u.pending = s.pending) (fun _ _ hu h => h.pending.trans hu) rfl

theorem Turn.pending {s t : State} (h : Turn s t) : t.pending = s.pending := by
  cases h with
  | enterRunning | completeRead | finishFetch | noticeWritten | firstWritten | reportWritten | signalNext
  | partHalfNext => simp
  | enterFaulted => unfold State.enterFaulted; dsimp only; split <;> rfl
  | _ => rfl

/-- Settles O1. -/
theorem stepTakesTheFrontCommand : Obligations.StepTakesTheFrontCommand :=
  ⟨fun _ _ => rfl, fun s h => by unfold step; rw [h]⟩

/-- Settles O2: every command is a sequence of updates or a turn, and neither touches the queue. -/
theorem everyCommandRunsAndLeavesTheQueue : Obligations.EveryCommandRunsAndLeavesTheQueue := by
  intro c s
  obtain ⟨t, ht, hu | hturn⟩ := exec_cases c s
  · exact ⟨t, ht, hu.pending⟩
  · exact ⟨t, ht, hturn.pending⟩

end Sys2Proof.Machine
end

section
/-! PROOF. Kept by every step: the ranges of the conduct records and the depths of the queues (R67, R95, R96, R103, R152). -/

namespace Sys2Proof.Machine

/-! ### Conduct -/

/-- One record's ranges. -/
def ConductRec.sound (r : ConductRec) : Prop := r.score ≤ 256 ∧ r.quiet ≤ 32 ∧ (r.state ≠ .cutOff → r.quiet = 0)

theorem State.conductSound_iff (s : State) : s.conductSound ↔ ∀ a, (s.conduct.recs.get a).sound := Iff.rfl

theorem ConductRec.Eased.sound {r r' : ConductRec} (h : r.Eased r') (hr : r.sound) : r'.sound := by
  obtain ⟨hscore, hquiet, hzero⟩ := hr
  refine ⟨h.score.trans hscore, h.quiet hquiet, fun hn => ?_⟩
  rcases h.clear with h0 | hcut | ⟨heq, hgood⟩
  · exact h0
  · exact absurd hcut hn
  · rw [heq]; exact hzero hgood

theorem ConductRec.sound_cutOff (r : ConductRec) : r.cutOff.sound :=
  ⟨le_rfl, Nat.zero_le _, fun _ => rfl⟩

/-- Of a record the ranges go by score and quiet count alone. -/
theorem ConductRec.sound_congr {r r' : ConductRec} (hs : r'.score = r.score) (hq : r'.quiet = r.quiet) (h : r.sound) :
    r'.sound := by
  unfold ConductRec.sound ConductRec.state at *
  rw [hs, hq]; exact h

theorem State.conductSound_congr {s t : State} (h : t.conduct.recs = s.conduct.recs) (hs : s.conductSound) : t.conductSound := by
  rw [State.conductSound_iff, h]; exact hs

theorem State.conductSound_modConduct {s : State} {a : Account} {f : ConductRec → ConductRec} (hs : s.conductSound)
    (hf : (s.conduct.recs.get a).sound → (f (s.conduct.recs.get a)).sound) : (s.modConduct a f).conductSound := by
  intro b
  show ((s.modConduct a f).conduct.recs.get b).sound
  rw [State.modConduct_recs_get]
  split
  · subst b; exact hf (hs a)
  · exact hs b

/-- A charge saturates at 256, where it cuts the account off with quiet count 0 (R98, R102). -/
theorem State.conductSound_charge {s : State} (a : Account) (n : Nat) (sched : List Port) (hs : s.conductSound) :
    (s.charge a n sched).conductSound := by
  have hflag : (s.modConduct a fun r => { r with fault := true }).conductSound :=
    State.conductSound_modConduct hs (ConductRec.sound_congr rfl rfl)
  have hscore (hlt : (s.conduct.recs.get a).score + n < 256) :
      ((s.modConduct a fun r => { r with fault := true }).modConduct a
        fun r => { r with score := (s.conduct.recs.get a).score + n }).conductSound := by
    refine State.conductSound_modConduct hflag fun h => ⟨hlt.le, h.2.1, fun _ => h.2.2 ?_⟩
    rw [State.modConduct_recs_self, Ne, ConductRec.state_eq_cutOff]
    show ¬256 ≤ (s.conduct.recs.get a).score
    omega
  rcases s.charge_cases a n sched with ⟨_, e⟩ | ⟨_, _, e⟩ | ⟨hlt, ⟨e, _⟩ | e⟩
  · rw [e]; exact hflag
  · rw [e]
    exact State.conductSound_congr (congrArg ConductUnit.recs (State.enterCutOff_conduct _ _ _))
      (State.conductSound_modConduct hflag fun _ => ConductRec.sound_cutOff _)
  · rw [e]; exact hscore hlt
  · rw [e]; exact State.conductSound_congr (congrArg ConductUnit.recs (State.post_conduct _ _)) (hscore hlt)

theorem State.conductSound_issueGrant {s : State} (p : Port) (l : Lane) (a : Account) (hs : s.conductSound) :
    (s.issueGrant p l a).conductSound := by
  rcases s.issueGrant_cases p l a with ⟨_, e⟩ | ⟨_, _, _, e⟩
  · rw [e]; exact hs
  · rw [e]
    exact State.conductSound_modConduct (State.conductSound_congr (by simp) hs) (ConductRec.sound_congr rfl rfl)

theorem Update.conductSound {s t : State} (hs : s.conductSound) (h : Update s t) : t.conductSound := by
  cases h with
  | conduct u hu => exact fun a => (hu a).sound (hs a)
  | charge a n sched => exact State.conductSound_charge a n sched hs
  | issueGrant p l a => exact State.conductSound_issueGrant p l a hs
  | parkIfDone | place | post | placeDeferred => exact State.conductSound_congr (by simp) hs
  | enterStandby => exact State.conductSound_congr (by simp [State.standbyEntered]) hs
  | resume => exact State.conductSound_congr (by unfold State.resumeMemory; split <;> rfl) hs
  | boundary => exact State.conductSound_congr (by simp) hs
  | _ => exact hs

theorem State.reset_conductSound : State.reset.conductSound := by
  intro a
  show (Tab.get (Tab.fill 48 ConductRec.reset) a).sound
  rw [Tab.get_fill]
  exact ⟨by decide, by decide, fun _ => rfl⟩

/-- Outside a reset a turn leaves the conduct records. -/
theorem Turn.conduct {s t : State} (h : Turn s t) : t.conduct = s.conduct ∨ t.conduct = State.reset.conduct := by
  cases h with
  | reset => exact .inr rfl
  | finishFetch | noticeWritten | firstWritten | reportWritten | signalNext | partHalfNext | completeRead
  | enterRunning => exact .inl (by simp)
  | enterFaulted => exact .inl (by unfold State.enterFaulted; dsimp only; split <;> rfl)
  | _ => exact .inl rfl

/-- Settles O54. -/
theorem conductRecordsStayInRange : Obligations.ConductRecordsStayInRange := by
  refine keptByEveryStep_of (fun _ _ h => h) (fun _ _ => Update.conductSound) fun s t hs h => ?_
  rcases h.conduct with e | e
  · exact State.conductSound_congr (congrArg ConductUnit.recs e) hs
  · exact State.conductSound_congr (congrArg ConductUnit.recs e) State.reset_conductSound

/-! ### The depths of the queues -/

theorem State.queuesWithin_of {s t : State} (ho : s.link.output.length ≤ 64 → t.link.output.length ≤ 64)
    (hn : s.mem.notices.length ≤ 32 → t.mem.notices.length ≤ 32) (hs : s.queuesWithin) : t.queuesWithin :=
  ⟨ho hs.1, hn hs.2⟩

/-- Neither queue has grown. -/
theorem State.queuesWithin_congr {s t : State} (ho : t.link.output = s.link.output) (hn : t.mem.notices = s.mem.notices)
    (hs : s.queuesWithin) : t.queuesWithin := by
  unfold State.queuesWithin
  rw [ho, hn]; exact hs

theorem State.issueGrant_output_length {s : State} (p : Port) (l : Lane) (a : Account) (h : s.link.output.length ≤ 64) :
    (s.issueGrant p l a).link.output.length ≤ 64 := by
  rcases s.issueGrant_cases p l a with ⟨_, e⟩ | ⟨_, _, _, e⟩
  · rw [e]; exact h
  · rw [e]; exact State.place_output_length _ _ h

theorem Update.queuesWithin {s t : State} (hs : s.queuesWithin) (h : Update s t) : t.queuesWithin := by
  cases h with
  | link l hl => exact ⟨hl.trans hs.1, hs.2⟩
  | place m => exact State.queuesWithin_of (s.place_output_length m) (by simp) hs
  | post n => exact State.queuesWithin_of (by simp) (s.post_notices_length n) hs
  | charge a n sched =>
    exact State.queuesWithin_of (s.charge_output_length a n sched) (s.charge_notices_length a n sched) hs
  | issueGrant p l a => exact State.queuesWithin_of (State.issueGrant_output_length p l a) (by simp) hs
  | enterStandby p =>
    exact State.queuesWithin_of (by simp [State.standbyEntered]) (s.standbyEntered_notices_length p) hs
  | resume => refine State.queuesWithin_congr ?_ ?_ hs <;> (unfold State.resumeMemory; split <;> rfl)
  | parkIfDone | placeDeferred | boundary => exact State.queuesWithin_congr (by simp) (by simp) hs
  | _ => exact hs

theorem State.completeRead_notices_length {s : State} (r : HostRead) (hh : HostHalf) (h : s.mem.notices.length ≤ 32) :
    (s.completeRead r hh).mem.notices.length ≤ 32 := by
  have htake : ∀ m : MemSide, ∀ c : Word32, (m.takeConsumed c).rearm.notices = m.notices := by
    intro m c
    unfold MemSide.rearm MemSide.takeConsumed
    split <;> split <;> rfl
  have hshow : ({ s with mem := { s.mem with read := none } }.takeHostHalf hh).mem.notices.length ≤ 32 := by
    unfold State.takeHostHalf
    dsimp only
    rw [htake]
    exact State.showPlan_notices_length _ hh h
  unfold State.completeRead
  dsimp only
  rw [State.startPass_mem_notices]
  split
  · exact State.post_notices_length _ _ hshow
  · exact hshow

theorem State.noticeWritten_notices (s : State) (n : Notice) (c : Word32) :
    (s.noticeWritten n c).mem.notices = s.mem.notices.tail := by
  unfold State.noticeWritten; dsimp only; split <;> rfl

theorem State.firstWritten_notices (s : State) (p : Port) (r : Report) (c : Word32) :
    (s.firstWritten p r c).mem.notices = s.mem.notices := by
  unfold State.firstWritten; dsimp only; split <;> simp

theorem State.enterFaulted_notices (s : State) (r : Region) : (s.enterFaulted r).mem.notices = s.mem.notices := by
  have hm : ∀ m : MemSide, m.unwriteReport.keepSignal.quiet.notices = m.notices := by
    intro m
    unfold MemSide.quiet MemSide.keepSignal MemSide.unwriteReport
    dsimp only
    split <;> split <;> rfl
  unfold State.enterFaulted
  dsimp only
  split <;> exact hm s.mem

theorem Turn.queuesWithin {s t : State} (hs : s.queuesWithin) (h : Turn s t) : t.queuesWithin := by
  cases h with
  | reset => exact ⟨Nat.zero_le _, Nat.zero_le _⟩
  | enterRunning st hh now =>
    refine State.queuesWithin_of (by simp) (fun h => ?_) hs
    unfold State.enterRunning
    rw [State.startPass_mem_notices]
    exact State.showPlan_notices_length _ hh h
  | completeRead r hh => exact State.queuesWithin_of (by simp) (State.completeRead_notices_length r hh) hs
  | finishFetch f r => exact State.queuesWithin_of (by simp) (s.finishFetch_notices_length f r) hs
  | noticeWritten w n =>
    refine State.queuesWithin_of (by simp) (fun h => ?_) hs
    rw [State.pump_mem_notices, State.noticeWritten_notices, List.length_tail]
    omega
  | firstWritten w p r =>
    exact State.queuesWithin_congr (by simp) (State.firstWritten_notices s p r w.count) hs
  | reportWritten w p r => exact State.queuesWithin_congr (by simp) (by rw [State.pump_mem_notices]; rfl) hs
  | signalNext => exact State.queuesWithin_congr (by simp) (by simp [State.issueSignal]) hs
  | partHalfNext => exact State.queuesWithin_congr (by simp) (by simp) hs
  | enterFaulted r =>
    refine State.queuesWithin_congr ?_ (s.enterFaulted_notices r) hs
    unfold State.enterFaulted; dsimp only; split <;> rfl
  | _ => exact hs

/-- Settles O50. -/
theorem queuesStayWithinTheirDepths : Obligations.QueuesStayWithinTheirDepths :=
  keptByEveryStep_of (fun _ _ h => h) (fun _ _ => Update.queuesWithin) fun _ _ => Turn.queuesWithin

end Sys2Proof.Machine
end

section
/-! PROOF. Kept by every step: the sync state, and the grant tables (R46, R63, R118, R120). -/

namespace Sys2Proof.Machine

/-! ### The timer -/

/-- All that the check for parking can do: nothing, an entry to PARKED, or the parking pass. -/
theorem State.parkIfDone_or (s : State) :
    s.parkIfDone = s ∨
    (s.win.mode = .stopping ∧ s.allStandby = true ∧ s.win.parking = false ∧ s.mem.mode = .faulted ∧
      s.parkIfDone = s.park) ∨
    (s.win.mode = .stopping ∧ s.allStandby = true ∧ s.win.parking = false ∧ s.mem.mode = .serving ∧
      s.parkIfDone = { s with win := { s.win with parking := true } }.startPass .parking) := by
  rcases s.parkIfDone_cases with e | ⟨hm, hall, hp, e⟩
  · exact .inl e
  · rcases s.beginParking_cases with ⟨hmem, e'⟩ | ⟨hmem, e'⟩
    · exact .inr (.inl ⟨hm, hall, hp, hmem, e.trans e'⟩)
    · exact .inr (.inr ⟨hm, hall, hp, hmem, e.trans e'⟩)

/-- Of the timer the fact goes by four fields, and of the part by whether it is active. -/
theorem State.timerSound_congr {s t : State} (hs : s.timerSound) (hti : t.timer.timing = s.timer.timing) (hsy : t.timer.sync = s.timer.sync)
    (hru : t.timer.running = s.timer.running) (hla : t.timer.last = s.timer.last)
    (hm : (t.win.mode = .running ∨ t.win.mode = .stopping) ↔ (s.win.mode = .running ∨ s.win.mode = .stopping)) :
    t.timerSound := by
  unfold State.timerSound Timer.syncSound at *
  rw [hti, hsy, hru, hla, hm]; exact hs

theorem Timer.syncSound_of_start {t : Timer} (h : t.sync = startSync t.timing.role) : t.syncSound := by
  unfold Timer.syncSound
  cases hr : t.timing.role <;> simp_all [startSync]

theorem State.timerSound_start {s : State} {t : Timer} (now : Moment) (hm : s.win.mode = .running)
    (ht : s.timer = t.start now) : s.timerSound := by
  refine ⟨Timer.syncSound_of_start ?_, ?_, fun _ => ?_⟩
  · rw [ht]; rfl
  · rw [hm, ht]; simp [Timer.start]
  · rw [ht]; rfl

@[simp] theorem State.placeDeferred_timer_timing (s : State) : s.placeDeferred.timer.timing = s.timer.timing := by
  rcases s.placeDeferred_cases with ⟨_, e⟩ | ⟨_, _, e⟩ | ⟨_, _, e⟩ <;> simp [e, Timer.handOver]
@[simp] theorem State.placeDeferred_timer_sync (s : State) : s.placeDeferred.timer.sync = s.timer.sync := by
  rcases s.placeDeferred_cases with ⟨_, e⟩ | ⟨_, _, e⟩ | ⟨_, _, e⟩ <;> simp [e, Timer.handOver]
@[simp] theorem State.placeDeferred_timer_running (s : State) : s.placeDeferred.timer.running = s.timer.running := by
  rcases s.placeDeferred_cases with ⟨_, e⟩ | ⟨_, _, e⟩ | ⟨_, _, e⟩ <;> simp [e, Timer.handOver]
@[simp] theorem State.placeDeferred_timer_last (s : State) : s.placeDeferred.timer.last = s.timer.last := by
  rcases s.placeDeferred_cases with ⟨_, e⟩ | ⟨_, _, e⟩ | ⟨_, _, e⟩ <;> simp [e, Timer.handOver]

/-- A boundary keeps the sync state of its role, or adopts that of the new role (R127). -/
theorem Timer.makeBoundary_syncSound {t : Timer} (now : Moment) (e : Epoch) (due : Moment) (h : t.syncSound) :
    (t.makeBoundary now e due).syncSound := by
  rcases t.makeBoundary_cases now e due with ⟨_, e⟩ | ⟨n, _, e⟩
  · rw [e]; exact h
  · rw [e]
    unfold Timer.syncSound at *
    cases hn : n.role with
    | alone => simp [adoptedSync]
    | leader => simp [adoptedSync]
    | follower =>
      simp only [adoptedSync]
      split
      next ho => rw [ho] at h; exact h
      next => exact .inl rfl

theorem State.park_timerSound {s : State} (hs : s.timerSound) : s.park.timerSound := by
  refine ⟨?_, by simp [State.park], fun h => by cases h⟩
  have h := hs.1
  unfold Timer.syncSound at *
  cases hr : s.timer.timing.role <;> simp_all [State.park]

theorem Update.timerSound {s t : State} (hs : s.timerSound) (h : Update s t) : t.timerSound := by
  cases h with
  | window w hm hp => exact State.timerSound_congr hs rfl rfl rfl rfl (by rw [hm])
  | enterStarting w h hm hp => exact State.timerSound_congr hs rfl rfl rfl rfl (by rw [hm, h]; decide)
  | leaveStarting r h =>
    exact State.timerSound_congr hs rfl rfl rfl rfl (by rw [h]; simp [State.leaveStarting])
  | returnToRunning w h hn hm hp => exact State.timerSound_congr hs rfl rfl rfl rfl (by rw [hm, h]; decide)
  | enterStopping w h hm hp => exact State.timerSound_congr hs rfl rfl rfl rfl (by rw [hm, h]; decide)
  | resume =>
    unfold State.resumeMemory
    split <;> exact hs
  | parkIfDone =>
    rcases s.parkIfDone_or with e | ⟨_, _, _, _, e⟩ | ⟨_, _, _, _, e⟩
    · rw [e]; exact hs
    · rw [e]; exact State.park_timerSound hs
    · rw [e]
      exact State.timerSound_congr hs (by simp) (by simp) (by simp) (by simp) (by simp)
  | setSync y hr hy =>
    refine ⟨?_, hs.2⟩
    have h := hs.1
    unfold Timer.syncSound at h
    have hfollow : s.timer.timing.role = .follower := by
      rcases hr with hr | hr
      · exact hr
      · cases hrole : s.timer.timing.role <;> simp_all
    show Timer.syncSound { s.timer with sync := y }
    unfold Timer.syncSound
    simp only [hfollow]
    exact hy
  | boundary now e due h =>
    refine ⟨?_, ?_, fun _ => ?_⟩
    · rw [State.makeBoundary_timer]; exact Timer.makeBoundary_syncSound now e due hs.1
    · simpa using hs.2.1
    · simp
  | place | post | charge | issueGrant =>
    exact State.timerSound_congr hs (by simp) (by simp) (by simp) (by simp) (by simp)
  | placeDeferred =>
    exact State.timerSound_congr hs (by simp) (by simp) (by simp) (by simp) (by simp)
  | enterStandby =>
    exact State.timerSound_congr hs (by simp [State.standbyEntered]) (by simp [State.standbyEntered])
      (by simp [State.standbyEntered]) (by simp [State.standbyEntered]) (by simp [State.standbyEntered])
  | _ => exact hs

theorem Turn.timerSound {s t : State} (hs : s.timerSound) (h : Turn s t) : t.timerSound := by
  cases h with
  | reset => exact ⟨rfl, by simp [State.reset, Timer.reset, Window.reset], fun h => by cases h⟩
  | leaveStarting r h =>
    exact State.timerSound_congr hs rfl rfl rfl rfl (by rw [h]; simp [State.leaveStarting])
  | enterRunning st hh now h =>
    exact State.timerSound_start now (by simp [State.enterRunning]) (by unfold State.enterRunning; rw [State.startPass_timer])
  | partHalfFinal | lastSignal => exact State.park_timerSound hs
  | completeRead | finishFetch | noticeWritten | firstWritten | reportWritten | signalNext | partHalfNext =>
    exact State.timerSound_congr hs (by simp) (by simp) (by simp) (by simp) (by simp)
  | enterFaulted r =>
    unfold State.enterFaulted
    dsimp only
    split
    · exact State.park_timerSound hs
    · exact hs
  | _ => exact hs

/-- Settles O55. -/
theorem syncStateFollowsTheRole : Obligations.SyncStateFollowsTheRole :=
  keptByEveryStep_of (fun _ _ h => h) (fun _ _ => Update.timerSound) fun _ _ => Turn.timerSound

/-! ### The grant tables -/

/-- A port's table shrinks or stands: fewer of its tags, and an empty one stays empty. -/
theorem PortBlock.tableSound_of {b b' : PortBlock} (h : b.tableSound)
    (ht : (b'.table.map Entry.tag).Sublist (b.table.map Entry.tag)) (hm : b'.mode = .standby → b.mode = .standby) :
    b'.tableSound := by
  obtain ⟨hlen, htags, hstandby⟩ := h
  refine ⟨?_, htags.sublist ht, fun hb => ?_⟩
  · have hle := ht.length_le
    rw [List.length_map, List.length_map] at hle
    exact hle.trans hlen
  · rw [hstandby (hm hb)] at ht
    simpa using ht

theorem State.conductOf_congr {s t : State} (h : t.conduct.recs = s.conduct.recs) (a : Account) :
    t.conductOf a = s.conductOf a := by
  unfold State.conductOf; rw [h]

/-- No table gains an entry or a LIVE one, and nobody newly enters CUT_OFF. -/
theorem State.tablesSound_of {s t : State} (hs : s.tablesSound)
    (ht : ∀ p, ((t.ports.get p).table.map Entry.tag).Sublist ((s.ports.get p).table.map Entry.tag))
    (hm : ∀ p, (t.ports.get p).mode = .standby → (s.ports.get p).mode = .standby)
    (hl : ∀ p, ∀ e ∈ (t.ports.get p).table, e.state = .live →
      ∃ e' ∈ (s.ports.get p).table, e'.state = .live ∧ e'.account = e.account)
    (hc : ∀ a, t.conductOf a = .cutOff → s.conductOf a = .cutOff) : t.tablesSound := by
  refine fun p => ⟨PortBlock.tableSound_of (hs p).1 (ht p) (hm p), fun e he hlive hcut => ?_⟩
  obtain ⟨e', he', hlive', ha⟩ := hl p e he hlive
  exact (hs p).2 e' he' hlive' (ha ▸ hc _ hcut)

/-- Every table stands, and so do the conduct records. -/
theorem State.tablesSound_congr {s t : State} (hs : s.tablesSound)
    (ht : ∀ p, (t.ports.get p).table = (s.ports.get p).table)
    (hm : ∀ p, (t.ports.get p).mode = .standby → (s.ports.get p).mode = .standby)
    (hc : t.conduct.recs = s.conduct.recs) : t.tablesSound :=
  State.tablesSound_of hs (fun p => by rw [ht]) hm (fun p e he hl => ⟨e, ht p ▸ he, hl, rfl⟩)
    fun a h => by rwa [State.conductOf_congr hc] at h

/-- One port's table stands. -/
theorem State.tablesSound_modPort {s : State} {p : Port} {f : PortBlock → PortBlock} (hs : s.tablesSound)
    (ht : ∀ b, (f b).table = b.table)
    (hm : (f (s.ports.get p)).mode = .standby → (s.ports.get p).mode = .standby) : (s.modPort p f).tablesSound := by
  refine State.tablesSound_congr hs (fun q => ?_) (fun q => ?_) rfl
  · rw [State.modPort_ports_get]; split
    · exact ht _
    · rfl
  · rw [State.modPort_ports_get]; split
    · subst q; exact hm
    · exact id

/-- Only a new score of 256 cuts an account off. -/
theorem ConductRec.Eased.state_cutOff {r r' : ConductRec} (h : r.Eased r') (hc : r'.state = .cutOff) : r.state = .cutOff := by
  rw [ConductRec.state_eq_cutOff] at *
  exact hc.trans h.score

/-- The entries of an account that is cut off have lapsed (R63). -/
theorem PortBlock.cutOff_live {b : PortBlock} {a : Account} {e : Entry} (h : b.mode = .standby → b.table = [])
    (he : e ∈ (b.cutOff a).table) (hl : e.state = .live) : e ∈ b.table ∧ e.account ≠ a := by
  by_cases hm : b.mode = .standby
  · have htags := b.cutOff_tags a
    rw [h hm] at htags
    rw [List.map_eq_nil_iff.1 htags] at he
    cases he
  · rw [PortBlock.cutOff_table _ _ hm] at he
    obtain ⟨x, hx, rfl⟩ := List.mem_map.1 he
    by_cases hlive : x.liveOf a = true
    · rw [if_pos hlive] at hl; cases hl
    · rw [if_neg hlive] at hl ⊢
      refine ⟨hx, fun ha => hlive ?_⟩
      simp [Entry.liveOf, hl, ha]

/-- After a charge an account is in CUT_OFF that was there before, or the charge has just cut it off, on every port. -/
theorem State.charge_conductOf {s : State} (a x : Account) (n : Nat) (sched : List Port)
    (h : (s.charge a n sched).conductOf x = .cutOff) :
    s.conductOf x = .cutOff ∨ x = a ∧ ∀ p, (s.charge a n sched).ports.get p = (s.ports.get p).cutOff a := by
  have hflag : ∀ y, (s.modConduct a fun r => { r with fault := true }).conductOf y = s.conductOf y := by
    intro y
    unfold State.conductOf
    rw [State.modConduct_recs_get]
    split <;> rfl
  have hscore (hlt : (s.conduct.recs.get a).score + n < 256)
      (h : ((s.modConduct a fun r => { r with fault := true }).modConduct a
        fun r => { r with score := (s.conduct.recs.get a).score + n }).conductOf x = .cutOff) :
      s.conductOf x = .cutOff := by
    unfold State.conductOf at h ⊢
    rw [State.modConduct_recs_get] at h
    split at h
    · rw [ConductRec.state_eq_cutOff] at h
      have hle : 256 ≤ (s.conduct.recs.get a).score + n := h
      omega
    · exact (hflag x).symm.trans h
  rcases s.charge_cases a n sched with ⟨_, e⟩ | ⟨_, _, e⟩ | ⟨hlt, ⟨e, _⟩ | e⟩
  · rw [e, hflag] at h; exact .inl h
  · by_cases hx : x = a
    · exact .inr ⟨hx, by simp [e]⟩
    · rw [e, State.conductOf_congr (congrArg ConductUnit.recs (State.enterCutOff_conduct _ _ _))] at h
      unfold State.conductOf at h
      rw [State.modConduct_recs_get, if_neg (Ne.symm hx)] at h
      exact .inl ((hflag x).symm.trans h)
  · rw [e] at h; exact .inl (hscore hlt h)
  · rw [e, State.conductOf_congr (congrArg ConductUnit.recs (State.post_conduct _ _))] at h
    exact .inl (hscore hlt h)

theorem State.tablesSound_charge {s : State} (a : Account) (n : Nat) (sched : List Port) (hs : s.tablesSound) :
    (s.charge a n sched).tablesSound := by
  intro p
  refine ⟨PortBlock.tableSound_of (hs p).1 (by rw [s.charge_tags]) (by rw [s.charge_ports_mode]; exact id), fun e he hl hcut => ?_⟩
  rcases State.charge_conductOf a _ n sched hcut with hcut | ⟨ha, hports⟩
  · rcases s.charge_ports a n sched with hp | ⟨_, _, hp⟩
    · rw [hp] at he; exact (hs p).2 e he hl hcut
    · rw [hp] at he
      exact (hs p).2 e (PortBlock.cutOff_live (hs p).1.2.2 he hl).1 hl hcut
  · rw [hports] at he
    exact (PortBlock.cutOff_live (hs p).1.2.2 he hl).2 ha

/-- A grant takes a free slot, with a tag of its own, for an account outside CUT_OFF (R47, R53). -/
theorem State.tablesSound_issueGrant {s : State} {p : Port} {l : Lane} {a : Account} (h : s.nextGrant p = some (l, a))
    (hs : s.tablesSound) : (s.issueGrant p l a).tablesSound := by
  obtain ⟨hmode, hlen, -, hchoose⟩ := State.nextGrant_some h
  obtain ⟨hcut, -, hlist⟩ := State.choose_some hchoose
  rcases s.issueGrant_cases p l a with ⟨hnil, _⟩ | ⟨q, rest, _, e⟩
  · exact absurd hnil hlist
  · have hcond : ∀ x, (s.issueGrant p l a).conductOf x = s.conductOf x := by
      intro x
      rw [e]
      unfold State.conductOf
      rw [State.modConduct_recs_get, State.place_conduct, State.modPort_conduct]
      split <;> rfl
    intro p'
    by_cases hp : p = p'
    · subst p'
      have hblock : (s.issueGrant p l a).ports.get p = (s.ports.get p).grantTo l a q rest := by rw [e]; simp
      rw [hblock]
      refine ⟨⟨?_, ?_, fun hm => ?_⟩, fun x hx hl => ?_⟩
      · rw [PortBlock.grantTo_table, List.length_append, List.length_singleton]; omega
      · rw [PortBlock.grantTo_table, List.map_append, List.nodup_append]
        refine ⟨(hs p).1.2.1, List.nodup_singleton _, fun x hx y hy hxy => ?_⟩
        have hfresh := PortBlock.nextTag_fresh (s.ports.get p) (by omega)
        rw [List.map_singleton, List.mem_singleton] at hy
        exact hfresh (by rw [hxy, hy] at hx; exact hx)
      · rw [PortBlock.grantTo_mode, hmode] at hm; cases hm
      · rw [hcond]
        rw [PortBlock.grantTo_table, List.mem_append, List.mem_singleton] at hx
        rcases hx with hx | rfl
        · exact (hs p).2 x hx hl
        · exact hcut
    · rw [State.issueGrant_ports_ne _ _ _ hp]
      exact ⟨(hs p').1, fun x hx hl => by rw [hcond]; exact (hs p').2 x hx hl⟩

theorem Update.tablesSound {s t : State} (hs : s.tablesSound) (h : Update s t) : t.tablesSound := by
  cases h with
  | conduct u hu => exact fun p => ⟨(hs p).1, fun e he hl hc => (hs p).2 e he hl ((hu _).state_cutOff hc)⟩
  | charge a n sched => exact State.tablesSound_charge a n sched hs
  | ports ps hps =>
    exact State.tablesSound_of hs (fun p => (hps p).tags) (fun p h => (hps p).mode ▸ h) (fun p => (hps p).live) fun _ => id
  | unbindQueue => exact State.tablesSound_modPort hs (fun _ => by simp) (by simp)
  | bindQueue => exact State.tablesSound_modPort hs (fun _ => rfl) id
  | acceptDemand => exact State.tablesSound_modPort hs (fun _ => by simp) (by simp)
  | issueGrant p l a h => exact State.tablesSound_issueGrant h hs
  | drain => exact State.tablesSound_modPort hs (fun _ => rfl) fun h => by cases h
  | enterStandby p hm ht =>
    intro q
    have hc : ∀ a, (s.standbyEntered p).conductOf a = s.conductOf a :=
      State.conductOf_congr (by simp [State.standbyEntered])
    rw [State.standbyEntered_ports, State.modPort_ports_get]
    split
    · subst q
      have hnil : ((s.ports.get p).rest.afterReport.takeDeferred).table = [] := by simpa using ht
      refine ⟨⟨?_, ?_, fun _ => hnil⟩, fun e he => ?_⟩
      · rw [hnil]; exact Nat.zero_le _
      · rw [hnil]; exact List.nodup_nil
      · rw [hnil] at he; cases he
    · exact ⟨(hs q).1, fun e he hl => by rw [hc]; exact (hs q).2 e he hl⟩
  | settle => exact State.tablesSound_modPort hs (fun _ => rfl) id
  | afterClose p e rest hm =>
    refine State.tablesSound_modPort hs (fun _ => rfl) fun h => ?_
    simp only [PortBlock.afterClose] at h
    split at h
    · cases h
    · exact h
  | takeChange p e rest m ho hr hm =>
    refine State.tablesSound_modPort hs (fun _ => rfl) fun h => ?_
    rcases hm with ⟨hm, _⟩ | ⟨hm, _⟩
    · exact hm ▸ h
    · rw [hm] at h; cases h
  | startAllocation => exact State.tablesSound_modPort hs (fun _ => rfl) id
  | deliver => exact State.tablesSound_modPort hs (fun _ => rfl) fun h => by cases h
  | discard => exact State.tablesSound_modPort hs (fun _ => rfl) id
  | resume => unfold State.resumeMemory; split <;> exact hs
  | reclassify | applyShares =>
    exact State.tablesSound_congr hs (fun p => by simp) (fun p => by simp) rfl
  | parkIfDone | place | post | boundary | placeDeferred =>
    exact State.tablesSound_congr hs (fun p => by simp) (fun p => by simp) (by simp)
  | _ => exact hs

theorem State.reset_port (p : Port) : State.reset.ports.get p = PortBlock.reset := Tab.get_fill _ _

theorem State.reset_tablesSound : State.reset.tablesSound := by
  intro p
  rw [State.reset_port]
  exact ⟨⟨Nat.zero_le _, List.nodup_nil, fun _ => rfl⟩, fun e he => by cases he⟩

/-- What a turn leaves of a port: all of it, all but the boundaries owed where the part parks, or its reset values. -/
theorem Turn.ports {s t : State} (h : Turn s t) :
    t.ports = s.ports ∧ t.conduct = s.conduct ∨ t.ports = s.park.ports ∧ t.conduct = s.conduct ∨
      t.ports = State.reset.ports ∧ t.conduct = State.reset.conduct := by
  cases h with
  | reset => exact .inr (.inr ⟨rfl, rfl⟩)
  | partHalfFinal | lastSignal => exact .inr (.inl ⟨rfl, rfl⟩)
  | finishFetch | noticeWritten | firstWritten | reportWritten | signalNext | partHalfNext | completeRead
  | enterRunning => exact .inl ⟨by simp, by simp⟩
  | enterFaulted =>
    unfold State.enterFaulted; dsimp only; split
    · exact .inr (.inl ⟨rfl, rfl⟩)
    · exact .inl ⟨rfl, rfl⟩
  | _ => exact .inl ⟨rfl, rfl⟩

/-- Settles O51. -/
theorem grantTablesStaySound : Obligations.GrantTablesStaySound := by
  refine keptByEveryStep_of (fun _ _ h => h) (fun _ _ => Update.tablesSound) fun s t hs h => ?_
  rcases h.ports with ⟨hp, hc⟩ | ⟨hp, hc⟩ | ⟨hp, hc⟩
  · exact State.tablesSound_congr hs (fun p => by rw [hp]) (fun p => by rw [hp]; exact id) (by rw [hc])
  · exact State.tablesSound_congr hs (fun p => by rw [hp, State.park_ports_get])
      (fun p => by rw [hp, State.park_ports_get]; exact id) (by rw [hc])
  · exact State.tablesSound_congr State.reset_tablesSound (fun p => by rw [hp]) (fun p => by rw [hp]; exact id)
      (by rw [hc])

end Sys2Proof.Machine
end

section
/-! PROOF. Kept by every step: service lists, waiting flags and tallies agree (R43, R49, R79, R93). -/

namespace Sys2Proof.Machine

/-! ### One port and one queue -/

/-- What R49 and R79 say of one queue: it stands in its own account's list for its lane exactly while it waits, which is
exactly while its tally is above 0, and only a bound queue's is. -/
structure PortBlock.queueSound (b : PortBlock) (q : QueueId) : Prop where
  mem : ∀ l a, q ∈ b.list l a ↔
    (b.queues.get q).waiting = true ∧ (b.queues.get q).account = a ∧ (b.queues.get q).lane = l
  waits : (b.queues.get q).waiting = decide (0 < (b.queues.get q).tally)
  bound : 0 < (b.queues.get q).tally → (b.queues.get q).bound = true

theorem PortBlock.listsSound_iff (b : PortBlock) :
    b.listsSound ↔ (∀ l a, (b.list l a).Nodup) ∧ ∀ q, b.queueSound q :=
  ⟨fun ⟨hn, hmem, hw, hb⟩ => ⟨hn, fun q => ⟨fun l a => hmem l a q, hw q, hb q⟩⟩,
    fun ⟨hn, h⟩ => ⟨hn, fun l a q => (h q).mem l a, fun q => (h q).waits, fun q => (h q).bound⟩⟩

/-- One port's part of the fact, given the accounts' conduct states. -/
def PortBlock.demandSound (b : PortBlock) (c : Account → Conduct) : Prop :=
  b.listsSound ∧ ∀ q, 0 < (b.queues.get q).tally → b.mode ≠ .standby ∧ c (b.queues.get q).account ≠ .cutOff

theorem State.demandSound_iff (s : State) : s.demandSound ↔ ∀ p, (s.ports.get p).demandSound s.conductOf := Iff.rfl

/-- A port of which queues, lists and mode stand, with nobody newly in CUT_OFF. -/
theorem PortBlock.demandSound_congr {b b' : PortBlock} {c c' : Account → Conduct} (h : b.demandSound c)
    (hq : b'.queues = b.queues) (hl : ∀ l a, b'.list l a = b.list l a)
    (hm : b'.mode = .standby → b.mode = .standby) (hc : ∀ a, c' a = .cutOff → c a = .cutOff) : b'.demandSound c' := by
  obtain ⟨hlists, hd⟩ := h
  unfold PortBlock.demandSound PortBlock.listsSound
  simp only [hq, hl]
  exact ⟨hlists, fun q hpos => ⟨fun h => (hd q hpos).1 (hm h), fun h => (hd q hpos).2 (hc _ h)⟩⟩

/-- One queue is written: the others keep their entries and their places. -/
theorem PortBlock.demandSound_of_queue {b b' : PortBlock} {c : Account → Conduct} {q : QueueId} (h : b.demandSound c)
    (hm : b'.mode = b.mode) (hne : ∀ r, r ≠ q → b'.queues.get r = b.queues.get r)
    (hl : ∀ l a r, r ≠ q → (r ∈ b'.list l a ↔ r ∈ b.list l a)) (hn : ∀ l a, (b'.list l a).Nodup) (hq : b'.queueSound q)
    (hd : 0 < (b'.queues.get q).tally → b.mode ≠ .standby ∧ c (b'.queues.get q).account ≠ .cutOff) :
    b'.demandSound c := by
  obtain ⟨hlists, hdemand⟩ := h
  obtain ⟨_, hqueues⟩ := b.listsSound_iff.1 hlists
  refine ⟨b'.listsSound_iff.2 ⟨hn, fun r => ?_⟩, fun r hpos => ?_⟩
  · by_cases hr : r = q
    · exact hr ▸ hq
    · have hs := hqueues r
      exact ⟨fun l a => by rw [hl l a r hr, hne r hr]; exact hs.mem l a, by rw [hne r hr]; exact hs.waits,
        by rw [hne r hr]; exact hs.bound⟩
  · rw [hm]
    by_cases hr : r = q
    · subst r; exact hd hpos
    · rw [hne r hr] at hpos ⊢; exact hdemand r hpos

/-- A queue with tally 0 that stands in no list is sound. -/
theorem PortBlock.queueSound_of_idle {b : PortBlock} {q : QueueId} (hw : (b.queues.get q).waiting = false)
    (ht : (b.queues.get q).tally = 0) (hl : ∀ l a, q ∉ b.list l a) : b.queueSound q :=
  ⟨fun l a => by simp [hw, hl l a], by simp [hw, ht], fun h => by omega⟩

/-- A queue with tally 0 is written anew with tally 0. -/
theorem PortBlock.demandSound_modQueue_idle {b : PortBlock} {c : Account → Conduct} {q : QueueId} {f : Queue → Queue}
    (h : b.demandSound c) (hl : ∀ l a, q ∉ b.list l a) (hw : (f (b.queues.get q)).waiting = false)
    (ht : (f (b.queues.get q)).tally = 0) : (b.modQueue q f).demandSound c := by
  obtain ⟨hn, _⟩ := b.listsSound_iff.1 h.1
  have hself : (b.modQueue q f).queues.get q = f (b.queues.get q) := by rw [PortBlock.modQueue_get, if_pos rfl]
  refine PortBlock.demandSound_of_queue (q := q) h (PortBlock.modQueue_mode _ _ _) (fun r hr => ?_) (fun l a r _ => ?_)
    (fun l a => ?_) (PortBlock.queueSound_of_idle ?_ ?_ fun l a => ?_) fun hpos => ?_
  · rw [PortBlock.modQueue_get, if_neg (Ne.symm hr)]
  · rw [PortBlock.modQueue_list]
  · rw [PortBlock.modQueue_list]; exact hn l a
  · rw [hself]; exact hw
  · rw [hself]; exact ht
  · rw [PortBlock.modQueue_list]; exact hl l a
  · rw [hself, ht] at hpos; omega

/-! ### Leaving and joining a list -/

/-- The port with a queue out of the list that it stands in. -/
def PortBlock.withdraw (b : PortBlock) (q : QueueId) : PortBlock :=
  if (b.queues.get q).waiting then b.leaveList (b.queues.get q).lane (b.queues.get q).account q else b

theorem PortBlock.withdraw_eq (b : PortBlock) (q : QueueId) :
    (if (b.queues.get q).waiting then b.leaveList (b.queues.get q).lane (b.queues.get q).account q else b) =
      b.withdraw q := rfl

theorem PortBlock.unbindQueue_eq (b : PortBlock) (q : QueueId) :
    b.unbindQueue q = (b.withdraw q).modQueue q fun x => { x.cleared with bound := false } := rfl

@[simp] theorem PortBlock.withdraw_queues (b : PortBlock) (q : QueueId) : (b.withdraw q).queues = b.queues := by
  unfold PortBlock.withdraw; split <;> simp

@[simp] theorem PortBlock.withdraw_mode (b : PortBlock) (q : QueueId) : (b.withdraw q).mode = b.mode := by
  unfold PortBlock.withdraw; split <;> simp

/-- A sound queue that withdraws leaves the only list it can stand in. -/
theorem PortBlock.withdraw_list {b : PortBlock} {q : QueueId} (h : b.queueSound q) (l : Lane) (a : Account) :
    (b.withdraw q).list l a = (b.list l a).filter (· ≠ q) := by
  have hout (hq : q ∉ b.list l a) : (b.list l a).filter (· ≠ q) = b.list l a :=
    List.filter_eq_self.2 fun r hr => decide_eq_true fun hrq => hq (hrq ▸ hr)
  unfold PortBlock.withdraw
  split
  next hw =>
    rw [PortBlock.leaveList_list]
    split
    next hown => rw [← hown.1, ← hown.2]
    next hown => exact (hout fun hq => hown ((h.mem l a).1 hq).2.symm).symm
  next hw => exact (hout fun hq => hw ((h.mem l a).1 hq).1).symm

theorem PortBlock.mem_withdraw {b : PortBlock} {q : QueueId} (h : b.queueSound q) (l : Lane) (a : Account) (r : QueueId) :
    r ∈ (b.withdraw q).list l a ↔ r ∈ b.list l a ∧ r ≠ q := by
  rw [PortBlock.withdraw_list h]; simp

/-- A queue withdraws and is cleared, or keeps a tally of 0 (R86, R92, R93). -/
theorem PortBlock.demandSound_withdraw {b : PortBlock} {c : Account → Conduct} {q : QueueId} {f : Queue → Queue}
    (h : b.demandSound c) (hw : (f (b.queues.get q)).waiting = false) (ht : (f (b.queues.get q)).tally = 0) :
    ((b.withdraw q).modQueue q f).demandSound c := by
  obtain ⟨hn, hqueues⟩ := b.listsSound_iff.1 h.1
  have hself : ((b.withdraw q).modQueue q f).queues.get q = f (b.queues.get q) := by
    rw [PortBlock.modQueue_get, if_pos rfl, PortBlock.withdraw_queues]
  refine PortBlock.demandSound_of_queue (q := q) h (by simp) (fun r hr => ?_) (fun l a r hr => ?_) (fun l a => ?_)
    (PortBlock.queueSound_of_idle ?_ ?_ fun l a => ?_) fun hpos => ?_
  · rw [PortBlock.modQueue_get, if_neg (Ne.symm hr), PortBlock.withdraw_queues]
  · rw [PortBlock.modQueue_list, PortBlock.mem_withdraw (hqueues q)]
    exact and_iff_left hr
  · rw [PortBlock.modQueue_list, PortBlock.withdraw_list (hqueues q)]; exact (hn l a).filter _
  · rw [hself]; exact hw
  · rw [hself]; exact ht
  · rw [PortBlock.modQueue_list, PortBlock.mem_withdraw (hqueues q)]; exact fun hq => hq.2 rfl
  · rw [hself, ht] at hpos; omega

/-- A queue that stands in no list is written with a tally above 0 and joins its account's list for its lane. -/
theorem PortBlock.demandSound_join {b b' : PortBlock} {c : Account → Conduct} {q : QueueId} (x : Queue)
    (h : b.demandSound c) (hm : b'.mode = b.mode) (hself : b'.queues.get q = x)
    (hne : ∀ r, r ≠ q → b'.queues.get r = b.queues.get r)
    (hl : ∀ l a, b'.list l a = if x.lane = l ∧ x.account = a then (b.list l a).filter (· ≠ q) ++ [q]
      else (b.list l a).filter (· ≠ q))
    (hw : x.waiting = true) (ht : 0 < x.tally) (hb : x.bound = true)
    (hd : b.mode ≠ .standby ∧ c x.account ≠ .cutOff) : b'.demandSound c := by
  obtain ⟨hn, hqueues⟩ := b.listsSound_iff.1 h.1
  refine PortBlock.demandSound_of_queue (q := q) h hm hne (fun l a r hr => ?_) (fun l a => ?_) ⟨fun l a => ?_, ?_, ?_⟩ ?_
  · rw [hl]
    split <;> simp [hr]
  · rw [hl]
    split
    · rw [List.nodup_append]
      refine ⟨(hn l a).filter _, List.nodup_singleton _, fun r hr y hy hry => ?_⟩
      rw [List.mem_singleton] at hy
      exact of_decide_eq_true (List.mem_filter.1 hr).2 (hry.trans hy)
    · exact (hn l a).filter _
  · rw [hl, hself]
    split
    next hown => simp [hw, hown]
    next hown => simp only [List.mem_filter, hw, true_and]; simp; exact fun ha hl => hown ⟨hl, ha⟩
  · rw [hself, hw]; exact (decide_eq_true ht).symm
  · rw [hself]; exact fun _ => hb
  · rw [hself]; exact fun _ => hd

/-! ### The operations on queues -/

theorem PortBlock.demandSound_unbindQueue {b : PortBlock} {c : Account → Conduct} (q : QueueId) (h : b.demandSound c) :
    (b.unbindQueue q).demandSound c := by
  rw [PortBlock.unbindQueue_eq]
  exact PortBlock.demandSound_withdraw h rfl rfl

theorem PortBlock.queueSound_of_demandSound {b : PortBlock} {c : Account → Conduct} (h : b.demandSound c) (q : QueueId) :
    b.queueSound q := (b.listsSound_iff.1 h.1).2 q

theorem PortBlock.demandSound_bindQueue {b : PortBlock} {c : Account → Conduct} {q : QueueId} (pl : Plan) (r : Rule)
    (src : Word24) (lane : Lane) (h : b.demandSound c) (hb : (b.queues.get q).bound = false) :
    (b.modQueue q fun _ => boundQueue pl r src lane).demandSound c := by
  have hs := PortBlock.queueSound_of_demandSound h q
  refine PortBlock.demandSound_modQueue_idle h (fun l a hq => ?_) rfl rfl
  have hw := ((hs.mem l a).1 hq).1
  rw [hs.waits, decide_eq_true_eq] at hw
  rw [hs.bound hw] at hb
  cases hb

/-- An accepted DEMAND puts a queue that did not wait at the tail of its list, and leaves one that did in its place. -/
theorem PortBlock.demandSound_acceptDemand {b : PortBlock} {c : Account → Conduct} {q : QueueId} (n : Nat)
    (h : b.demandSound c) (hb : (b.queues.get q).bound = true) (hm : b.mode ≠ .standby)
    (hc : c (b.queues.get q).account ≠ .cutOff) : (b.acceptDemand q n).demandSound c := by
  have hs := PortBlock.queueSound_of_demandSound h q
  obtain ⟨hn, _⟩ := b.listsSound_iff.1 h.1
  have hself (f : Queue → Queue) : (b.modQueue q f).queues.get q = f (b.queues.get q) := by
    rw [PortBlock.modQueue_get, if_pos rfl]
  have hothers (f : Queue → Queue) (r : QueueId) (hr : r ≠ q) : (b.modQueue q f).queues.get r = b.queues.get r := by
    rw [PortBlock.modQueue_get, if_neg (Ne.symm hr)]
  unfold PortBlock.acceptDemand
  dsimp only
  split
  next hj =>
    refine PortBlock.demandSound_join (q := q)
      { b.queues.get q with tally := min Config.maxUnits ((b.queues.get q).tally + n), waiting := true } h (by simp) ?_ ?_ ?_
      rfl hj.2 hb ⟨hm, hc⟩
    · rw [PortBlock.joinList_queues, hself]
    · intro r hr; rw [PortBlock.joinList_queues, hothers _ r hr]
    · intro l a
      have hout : (b.list l a).filter (· ≠ q) = b.list l a :=
        List.filter_eq_self.2 fun r hr => decide_eq_true fun hrq => by
          have := ((hs.mem l a).1 (hrq ▸ hr)).1
          rw [hj.1] at this
          cases this
      rw [PortBlock.joinList_list, PortBlock.modQueue_list, hout]
      split
      next hown => rw [← hown.1, ← hown.2]
      next => rw [PortBlock.modQueue_list]
  next hj =>
    refine PortBlock.demandSound_of_queue (q := q) h (by simp) (hothers _) (fun l a r _ => by rw [PortBlock.modQueue_list])
      (fun l a => by rw [PortBlock.modQueue_list]; exact hn l a) ⟨fun l a => ?_, ?_, fun _ => ?_⟩ fun _ => ?_
    · rw [PortBlock.modQueue_list, hself]; exact hs.mem l a
    · rw [hself]
      show (b.queues.get q).waiting = decide (0 < min Config.maxUnits ((b.queues.get q).tally + n))
      cases hw : (b.queues.get q).waiting with
      | true =>
        have hpos := hs.waits
        rw [hw, eq_comm, decide_eq_true_eq] at hpos
        simp [Config.maxUnits]; omega
      | false =>
        rw [hw] at hj
        simpa using hj
    · rw [hself]; exact hb
    · rw [hself]; exact ⟨hm, hc⟩

/-- A grant takes the head of a list; the queue goes to the tail of it while units are left (R54, step 6). -/
theorem PortBlock.demandSound_grantTo {b : PortBlock} {c : Account → Conduct} {l : Lane} {a : Account} {q : QueueId}
    {rest : List QueueId} (h : b.demandSound c) (hl : b.list l a = q :: rest) : (b.grantTo l a q rest).demandSound c := by
  have hs := PortBlock.queueSound_of_demandSound h q
  obtain ⟨hn, _⟩ := b.listsSound_iff.1 h.1
  obtain ⟨hw, ha, hlane⟩ := (hs.mem l a).1 (by rw [hl]; exact List.mem_cons_self)
  have hpos : 0 < (b.queues.get q).tally := by
    rw [hs.waits, decide_eq_true_eq] at hw; exact hw
  have hself : (b.grantTo l a q rest).queues.get q = { b.queues.get q with
      tally := (b.queues.get q).tally - b.grantSize a q,
      waiting := decide (0 < (b.queues.get q).tally - b.grantSize a q) } := by
    rw [PortBlock.grantTo_queue, if_pos rfl]
  have hothers (r : QueueId) (hr : r ≠ q) : (b.grantTo l a q rest).queues.get r = b.queues.get r := by
    rw [PortBlock.grantTo_queue, if_neg (Ne.symm hr)]
  have hnd := hn l a
  rw [hl, List.nodup_cons] at hnd
  have hlist (m : Lane) (x : Account) : (b.grantTo l a q rest).list m x =
      if l = m ∧ a = x then (if 0 < (b.queues.get q).tally - b.grantSize a q then rest ++ [q] else rest)
      else b.list m x := PortBlock.grantTo_list _ _ _ _ _ _ _
  have helse (m : Lane) (x : Account) (hne : ¬(l = m ∧ a = x)) : q ∉ b.list m x := fun hq => by
    obtain ⟨_, hx, hm⟩ := (hs.mem m x).1 hq
    exact hne ⟨hlane.symm.trans hm, ha.symm.trans hx⟩
  refine PortBlock.demandSound_of_queue (q := q) h (by simp) hothers (fun m x r hr => ?_) (fun m x => ?_)
    ⟨fun m x => ?_, by rw [hself], fun _ => ?_⟩ fun _ => ?_
  · rw [hlist]
    split
    next hown => rw [← hown.1, ← hown.2, hl]; split <;> simp [hr]
    next => rfl
  · rw [hlist]
    split
    · split
      · rw [List.nodup_append]
        refine ⟨hnd.2, List.nodup_singleton _, fun r hr y hy hry => ?_⟩
        rw [List.mem_singleton] at hy
        exact hnd.1 (hy ▸ hry ▸ hr)
      · exact hnd.2
    · exact hn m x
  · rw [hlist, hself]
    split
    next hown =>
      split
      next hleft => simpa [ha, hlane, hown] using hleft
      next hleft => simp [hleft, hnd.1]
    next hown =>
      refine iff_of_false (helse m x hown) fun hq => hown ⟨hlane.symm.trans hq.2.2, ha.symm.trans hq.2.1⟩
  · rw [hself]; exact hs.bound hpos
  · rw [hself]; exact h.2 q hpos

/-- A cut-off clears the tallies and the lists of its account (R102). -/
theorem PortBlock.demandSound_cutOff {b : PortBlock} {c c' : Account → Conduct} {a : Account} (h : b.demandSound c)
    (hc : ∀ x, c' x = .cutOff → c x = .cutOff ∨ x = a) : (b.cutOff a).demandSound c' := by
  obtain ⟨hn, hqueues⟩ := b.listsSound_iff.1 h.1
  have hpos (q : QueueId) (hq : 0 < ((b.cutOff a).queues.get q).tally) :
      (b.cutOff a).queues.get q = b.queues.get q ∧ (b.queues.get q).account ≠ a := by
    rw [PortBlock.cutOff_queue] at hq ⊢
    split at hq
    · cases hq
    next hown =>
      rw [if_neg hown]
      exact ⟨rfl, fun ha => hown ⟨(hqueues q).bound hq, ha⟩⟩
  refine ⟨(b.cutOff a).listsSound_iff.2 ⟨fun l x => ?_, fun q => ?_⟩, fun q hq => ?_⟩
  · rw [PortBlock.cutOff_list]
    split
    · exact List.nodup_nil
    · exact hn l x
  · have hs := hqueues q
    by_cases hown : (b.queues.get q).bound = true ∧ (b.queues.get q).account = a
    · have hq : (b.cutOff a).queues.get q = (b.queues.get q).cleared := by rw [PortBlock.cutOff_queue, if_pos hown]
      refine PortBlock.queueSound_of_idle (by rw [hq]; rfl) (by rw [hq]; rfl) fun l x hmem => ?_
      rw [PortBlock.cutOff_list] at hmem
      split at hmem
      · cases hmem
      next hx => exact hx (hown.2.symm.trans ((hs.mem l x).1 hmem).2.1)
    · have hq : (b.cutOff a).queues.get q = b.queues.get q := by rw [PortBlock.cutOff_queue, if_neg hown]
      refine ⟨fun l x => ?_, by rw [hq]; exact hs.waits, by rw [hq]; exact hs.bound⟩
      rw [PortBlock.cutOff_list, hq]
      split
      next hx =>
        refine iff_of_false List.not_mem_nil fun hmem => ?_
        have hw := hmem.1
        rw [hs.waits, decide_eq_true_eq] at hw
        exact hown ⟨hs.bound hw, hmem.2.1.trans hx.symm⟩
      next => exact hs.mem l x
  · obtain ⟨heq, hne⟩ := hpos q hq
    rw [heq] at hq ⊢
    exact ⟨(h.2 q hq).1, fun hcut => (hc _ hcut).elim (h.2 q hq).2 hne⟩

/-- A port whose tallies and lists are all cleared. -/
theorem PortBlock.demandSound_of_cleared {b : PortBlock} (c : Account → Conduct)
    (hq : ∀ q, (b.queues.get q).tally = 0 ∧ (b.queues.get q).waiting = false) (hl : ∀ l a, b.list l a = []) :
    b.demandSound c :=
  ⟨b.listsSound_iff.2 ⟨fun l a => by rw [hl]; exact List.nodup_nil,
      fun q => PortBlock.queueSound_of_idle (hq q).2 (hq q).1 fun l a => by rw [hl]; exact List.not_mem_nil⟩,
    fun q h => by rw [(hq q).1] at h; cases h⟩

/-- One queue reclassified (R92, R93). -/
theorem PortBlock.demandSound_reclassify {b : PortBlock} {c : Account → Conduct} (pl : Plan) (p : Port) (q : QueueId)
    (h : b.demandSound c) : (b.reclassify pl c p q).1.demandSound c := by
  have hs := PortBlock.queueSound_of_demandSound h q
  have hmove (x : PortBlock) (f g : Queue → Queue) : (x.modQueue q f).modQueue q g = x.modQueue q fun y => g (f y) := by
    unfold PortBlock.modQueue
    congr 1
    refine Tab.ext_get fun r => ?_
    simp only [Tab.get_modify]
    split <;> rfl
  unfold PortBlock.reclassify
  dsimp only
  rw [PortBlock.withdraw_eq]
  split
  · exact h
  next hb =>
    split
    · exact PortBlock.demandSound_unbindQueue q h
    next r _ =>
      split
      · exact h
      · split
        next ht =>
          refine PortBlock.demandSound_withdraw h ?_ ht
          show (b.queues.get q).waiting = false
          rw [hs.waits, ht]; rfl
        next ht =>
          have hpos : 0 < (b.queues.get q).tally := Nat.pos_of_ne_zero ht
          split
          · rw [hmove]
            exact PortBlock.demandSound_withdraw h rfl rfl
          next hcut =>
            rw [hmove]
            refine PortBlock.demandSound_join (q := q)
              { b.queues.get q with
                account := r.account, lane := pl.effectiveLane r (b.queues.get q).requested, waiting := true }
              h ?_ ?_ ?_ ?_ rfl hpos (hs.bound hpos) ⟨(h.2 q hpos).1, hcut⟩
            · rw [PortBlock.joinList_mode, PortBlock.modQueue_mode, PortBlock.withdraw_mode]
            · rw [PortBlock.joinList_queues, PortBlock.modQueue_get, if_pos rfl, PortBlock.withdraw_queues]
            · intro x hx
              rw [PortBlock.joinList_queues, PortBlock.modQueue_get, if_neg (Ne.symm hx), PortBlock.withdraw_queues]
            · intro l a
              rw [PortBlock.joinList_list, PortBlock.modQueue_list, PortBlock.modQueue_list,
                PortBlock.withdraw_list hs, PortBlock.withdraw_list hs]
              split
              next hown => rw [← hown.1, ← hown.2]
              next => rfl

/-! ### The state -/

/-- Of one port queues, lists and mode stand. -/
theorem State.demandSound_modPort {s : State} {p : Port} {f : PortBlock → PortBlock} (hs : s.demandSound)
    (hf : (s.ports.get p).demandSound s.conductOf → (f (s.ports.get p)).demandSound s.conductOf) :
    (s.modPort p f).demandSound := by
  intro q
  have h : ((s.modPort p f).ports.get q).demandSound s.conductOf := by
    rw [State.modPort_ports_get]
    split
    · subst q; exact hf (hs p)
    · exact hs q
  exact h

/-- Every port's queues, lists and mode stand, and the conduct records. -/
theorem State.demandSound_congr {s t : State} (hs : s.demandSound) (hq : ∀ p, (t.ports.get p).queues = (s.ports.get p).queues)
    (hl : ∀ p l a, (t.ports.get p).list l a = (s.ports.get p).list l a)
    (hm : ∀ p, (t.ports.get p).mode = (s.ports.get p).mode) (hc : t.conduct.recs = s.conduct.recs) : t.demandSound :=
  fun p => PortBlock.demandSound_congr (hs p) (hq p) (hl p) (fun h => hm p ▸ h) fun a h => by
    rwa [State.conductOf_congr hc] at h

theorem State.demandSound_charge {s : State} (a : Account) (n : Nat) (sched : List Port) (hs : s.demandSound) :
    (s.charge a n sched).demandSound := by
  intro p
  show ((s.charge a n sched).ports.get p).demandSound (s.charge a n sched).conductOf
  have hc := fun x => State.charge_conductOf (s := s) a x n sched
  rcases s.charge_ports a n sched with hp | ⟨_, _, hp⟩
  · by_cases hall : ∀ x, (s.charge a n sched).conductOf x = .cutOff → s.conductOf x = .cutOff
    · rw [hp]; exact PortBlock.demandSound_congr (hs p) rfl (fun _ _ => rfl) id hall
    · simp only [not_forall, exists_prop] at hall
      obtain ⟨x, hx, hne⟩ := hall
      obtain ⟨_, hcut⟩ := (hc x hx).resolve_left hne
      rw [hcut]
      exact PortBlock.demandSound_cutOff (hs p) fun y hy => (hc y hy).imp id And.left
  · rw [hp]
    exact PortBlock.demandSound_cutOff (hs p) fun y hy => (hc y hy).imp id And.left

theorem State.demandSound_issueGrant {s : State} (p : Port) (l : Lane) (a : Account) (hs : s.demandSound) :
    (s.issueGrant p l a).demandSound := by
  rcases s.issueGrant_cases p l a with ⟨_, e⟩ | ⟨q, rest, hl, e⟩
  · rw [e]; exact hs
  · have hgrant : (s.modPort p fun b => b.grantTo l a q rest).demandSound :=
      State.demandSound_modPort hs fun h => PortBlock.demandSound_grantTo h hl
    have hcond : ∀ x, (s.issueGrant p l a).conductOf x = s.conductOf x := by
      intro x
      rw [e]
      unfold State.conductOf
      rw [State.modConduct_recs_get, State.place_conduct, State.modPort_conduct]
      split <;> rfl
    intro p'
    have hports : (s.issueGrant p l a).ports = (s.modPort p fun b => b.grantTo l a q rest).ports := by rw [e]; simp
    show ((s.issueGrant p l a).ports.get p').demandSound (s.issueGrant p l a).conductOf
    rw [hports, funext hcond]
    exact hgrant p'

theorem Update.demandSound {s t : State} (hs : s.demandSound) (h : Update s t) : t.demandSound := by
  cases h with
  | conduct u hu =>
    exact fun p => PortBlock.demandSound_congr (hs p) rfl (fun _ _ => rfl) id fun a => (hu a).state_cutOff
  | charge a n sched => exact State.demandSound_charge a n sched hs
  | ports ps hps =>
    exact fun p => PortBlock.demandSound_congr (hs p) (hps p).queues (hps p).list (fun h => (hps p).mode ▸ h) fun _ => id
  | unbindQueue p q => exact State.demandSound_modPort hs (PortBlock.demandSound_unbindQueue q)
  | bindQueue p q pl r src lane hb =>
    exact State.demandSound_modPort hs fun h => PortBlock.demandSound_bindQueue pl r src lane h hb
  | acceptDemand p q n hb hm hc =>
    exact State.demandSound_modPort hs fun h => PortBlock.demandSound_acceptDemand n h hb hm hc
  | issueGrant p l a => exact State.demandSound_issueGrant p l a hs
  | drain p hm =>
    exact State.demandSound_modPort hs fun h =>
      PortBlock.demandSound_congr h rfl (fun l _ => by cases l <;> rfl) (fun h => by cases h) fun _ => id
  | enterStandby p hm ht =>
    have hc : (s.standbyEntered p).conductOf = s.conductOf :=
      funext (State.conductOf_congr (by simp [State.standbyEntered]))
    have hmod : (s.modPort p fun b => b.rest.afterReport.takeDeferred).demandSound :=
      State.demandSound_modPort hs fun _ =>
        PortBlock.demandSound_of_cleared _ (fun q => by simp [Queue.cleared]) fun l a => by simp
    intro q
    show ((s.standbyEntered p).ports.get q).demandSound _
    rw [State.standbyEntered_ports, hc]
    exact hmod q
  | settle =>
    exact State.demandSound_modPort hs fun h =>
      PortBlock.demandSound_congr h rfl (fun l _ => by cases l <;> rfl) id fun _ => id
  | afterClose p e rest hm =>
    exact State.demandSound_modPort hs fun h =>
      PortBlock.demandSound_congr h rfl (fun l _ => by cases l <;> rfl) (fun hst => by
        simp only [PortBlock.afterClose] at hst
        split at hst
        · cases hst
        · exact hst) fun _ => id
  | takeChange p e rest m ho hr hm =>
    refine State.demandSound_modPort hs fun h =>
      PortBlock.demandSound_congr h rfl (fun l _ => by cases l <;> rfl) (fun hst => ?_) fun _ => id
    rcases hm with ⟨hm, _⟩ | ⟨hm, _⟩
    · exact hm ▸ hst
    · rw [hm] at hst; cases hst
  | startAllocation | discard =>
    exact State.demandSound_modPort hs fun h =>
      PortBlock.demandSound_congr h rfl (fun l _ => by cases l <;> rfl) id fun _ => id
  | deliver =>
    exact State.demandSound_modPort hs fun h =>
      PortBlock.demandSound_congr h rfl (fun l _ => by cases l <;> rfl) (fun h => by cases h) fun _ => id
  | resume => unfold State.resumeMemory; split <;> exact hs
  | reclassify =>
    intro p
    have h := PortBlock.reclassifyAll_induct (P := fun b => b.demandSound s.conductOf) s.plans.inForce s.conductOf p
      (fun b q => PortBlock.demandSound_reclassify s.plans.inForce p q) (s.ports.get p) (hs p)
    show PortBlock.demandSound (Tab.get _ p) s.conductOf
    rw [Tab.get_mapIdx]
    exact h
  | parkIfDone | place | post | boundary | placeDeferred | applyShares =>
    exact State.demandSound_congr hs (fun p => by simp) (fun p l a => by cases l <;> simp [PortBlock.list])
      (fun p => by simp) (by simp)
  | _ => exact hs

theorem State.reset_demandSound : State.reset.demandSound := by
  intro p
  show (State.reset.ports.get p).demandSound _
  rw [State.reset_port]
  exact PortBlock.demandSound_of_cleared _ (fun q => by simp [PortBlock.reset, Queue.reset])
    fun l a => by cases l <;> simp [PortBlock.reset, PortBlock.list]

/-- Settles O53. -/
theorem serviceListsMatchTheTallies : Obligations.ServiceListsMatchTheTallies := by
  refine keptByEveryStep_of (fun _ _ h => h) (fun _ _ => Update.demandSound) fun s t hs h => ?_
  rcases h.ports with ⟨hp, hc⟩ | ⟨hp, hc⟩ | ⟨hp, hc⟩
  · exact State.demandSound_congr hs (fun p => by rw [hp]) (fun p l a => by rw [hp]) (fun p => by rw [hp]) (by rw [hc])
  · exact State.demandSound_congr hs (fun p => by rw [hp, State.park_ports_get])
      (fun p l a => by rw [hp, State.park_ports_get]; cases l <;> rfl) (fun p => by rw [hp, State.park_ports_get])
      (by rw [hc])
  · exact State.demandSound_congr State.reset_demandSound (fun p => by rw [hp]) (fun p l a => by rw [hp])
      (fun p => by rw [hp]) (by rw [hc])

end Sys2Proof.Machine
end

section
/-! PROOF. The share computation: divisions with remainders, the rounds of stage 2, and what an allocation keeps to
(R8 to R13). -/

namespace Sys2Proof.Machine

/-! ### Sums over accounts -/

theorem Tab.sum_cells (t : Tab 48 Nat) : t.cells.sum = ∑ a, t.get a := by
  rw [Tab.cells_eq, Fin.sum_univ_def]

theorem sum_cells_map {α : Type} (t : Tab 48 α) (f : α → Nat) : (t.cells.map f).sum = ∑ a, f (t.get a) := by
  rw [Tab.cells_eq, List.map_map, Fin.sum_univ_def]; rfl

/-- A sum over accounts of a function that is 0 outside a list of them. -/
theorem sum_eq_list_sum {l : List Account} (hl : l.Nodup) {f : Account → Nat} (h : ∀ a, a ∉ l → f a = 0) :
    ∑ a, f a = (l.map f).sum := by
  rw [← List.sum_toFinset f hl]
  exact (Finset.sum_subset (Finset.subset_univ _) fun a _ ha => h a fun hm => ha (List.mem_toFinset.2 hm)).symm

theorem list_sum_add (l : List Account) (f g : Account → Nat) :
    (l.map fun a => f a + g a).sum = (l.map f).sum + (l.map g).sum := List.sum_map_add

theorem list_sum_zero {f : Account → Nat} (h : ∀ a, f a = 0) (l : List Account) : (l.map f).sum = 0 := by
  rw [funext h]; simp

theorem list_sum_le {l : List Account} {f g : Account → Nat} (h : ∀ a ∈ l, f a ≤ g a) :
    (l.map f).sum ≤ (l.map g).sum := List.sum_le_sum h

/-- The members of a list among a list of which it is a part, counted. -/
theorem list_sum_mem {l m : List Account} (hl : l.Nodup) (hm : m.Nodup) (hsub : m ⊆ l) :
    (l.map fun a => if a ∈ m then 1 else 0).sum = m.length := by
  rw [← List.sum_toFinset _ hl, Finset.sum_boole, Nat.cast_id, ← List.toFinset_card_of_nodup hm]
  congr 1
  ext a
  simpa using fun h => hsub h

/-! ### Leftovers (R9, R12) -/

/-- The order of the largest remainder, the lower account first. -/
abbrev remOrder (x y : Account × Nat) : Prop := remainderFirst x y = true

theorem remOrder_iff (x y : Account × Nat) : remOrder x y ↔ y.2 < x.2 ∨ x.2 = y.2 ∧ x.1.val ≤ y.1.val := by
  simp [remOrder, remainderFirst]

/-- The accounts of a leftover, by the sorted list that they stand in front of. -/
theorem leftoverTo_spec (cells : List Account) (rem : Account → Nat) (k : Nat) (hn : cells.Nodup) (hk : k ≤ cells.length) :
    let l := leftoverTo (cells.map fun a => (a, rem a)) k
    l.Nodup ∧ l ⊆ cells ∧ l.length = k ∧
      ∀ a ∈ l, ∀ b ∈ cells, b ∉ l → rem b < rem a ∨ rem b = rem a ∧ a < b := by
  intro l
  have hl : l = (((cells.map fun a => (a, rem a)).insertionSort remOrder).take k).map Prod.fst := rfl
  generalize hsorted : (cells.map fun a => (a, rem a)).insertionSort remOrder = sorted at hl
  have hperm : sorted.Perm (cells.map fun a => (a, rem a)) := hsorted ▸ List.perm_insertionSort _ _
  have : Std.Total remOrder := ⟨fun x y => by rw [remOrder_iff, remOrder_iff]; omega⟩
  have : IsTrans (Account × Nat) remOrder := ⟨fun x y z => by rw [remOrder_iff, remOrder_iff, remOrder_iff]; omega⟩
  have hpair : sorted.Pairwise remOrder := hsorted ▸ List.pairwise_insertionSort _ _
  have hfst : (sorted.map Prod.fst).Perm cells := by
    have h := hperm.map Prod.fst
    rwa [List.map_map, show (Prod.fst ∘ fun a => (a, rem a)) = id from rfl, List.map_id] at h
  have hmem : ∀ x ∈ sorted, x = (x.1, rem x.1) := fun x hx => by
    obtain ⟨a, _, rfl⟩ := List.mem_map.1 (hperm.mem_iff.1 hx)
    rfl
  have htake : l.Sublist (sorted.map Prod.fst) := hl ▸ (List.take_sublist _ _).map _
  refine ⟨htake.nodup (hfst.nodup_iff.2 hn), fun a ha => hfst.mem_iff.1 (htake.subset ha), ?_, fun a ha b hb hbl => ?_⟩
  · rw [hl, List.length_map, List.length_take, ← List.length_map (f := Prod.fst), hfst.length_eq]
    exact Nat.min_eq_left hk
  · obtain ⟨x, hx, rfl⟩ := List.mem_map.1 (hl ▸ ha)
    obtain ⟨y, hy, rfl⟩ := List.mem_map.1 (hfst.mem_iff.2 hb)
    rw [← List.take_append_drop k sorted, List.mem_append] at hy
    have hdrop : y ∈ sorted.drop k := hy.resolve_left fun h => hbl (hl ▸ List.mem_map.2 ⟨y, h, rfl⟩)
    rw [← List.take_append_drop k sorted, List.pairwise_append] at hpair
    have hord := hpair.2.2 x hx y hdrop
    have hne : x.1 ≠ y.1 := fun h => hbl (h ▸ ha)
    have hxr := congrArg Prod.snd (hmem x (List.mem_of_mem_take hx))
    have hyr := congrArg Prod.snd (hmem y (List.mem_of_mem_drop hdrop))
    rw [remOrder_iff, hxr, hyr] at hord
    simp only at hord
    rcases hord with h | ⟨h, hle⟩
    · exact .inl h
    · exact .inr ⟨h.symm, lt_of_le_of_ne hle hne⟩

/-- What an account gains in a division with remainders. -/
def divided (base : Account → Nat) (l : List Account) (a : Account) : Nat := base a + if a ∈ l then 1 else 0

/-- A division of an amount by a positive divisor: quotients and remainders leave a leftover that the largest remainders
take up, none of them 0. -/
theorem division_spec {cells : List Account} {base rem : Account → Nat} {amount s : Nat} (hn : cells.Nodup) (hs : 0 < s)
    (hrem : ∀ a ∈ cells, rem a < s) (hsum : (cells.map base).sum * s + (cells.map rem).sum = amount * s) :
    let l := leftoverTo (cells.map fun a => (a, rem a)) (amount - (cells.map base).sum)
    dividedAmong cells amount base rem (divided base l) ∧ l ⊆ cells ∧ ∀ a ∈ l, 0 < rem a := by
  have hle : (cells.map base).sum ≤ amount := Nat.le_of_mul_le_mul_right (by omega) hs
  generalize hk : amount - (cells.map base).sum = k
  have hks : k * s = (cells.map rem).sum := by rw [← hk, Nat.sub_mul]; omega
  have hlen : k ≤ cells.length := by
    refine Nat.le_of_mul_le_mul_right ?_ hs
    calc k * s = (cells.map rem).sum := hks
      _ ≤ (cells.map fun _ => s).sum := list_sum_le fun a ha => (hrem a ha).le
      _ = cells.length * s := by simp
  intro l
  obtain ⟨hln, hsub, hll, hfirst⟩ := leftoverTo_spec cells rem k hn hlen
  refine ⟨⟨fun a _ => ?_, fun a ha b hb hgain hord => ?_, ?_⟩, hsub, fun a ha => ?_⟩
  · unfold divided; split
    · exact .inr rfl
    · exact .inl rfl
  · have hal : a ∈ l := by
      unfold divided at hgain
      by_contra h
      rw [if_neg h] at hgain
      omega
    have hbl : b ∈ l := by
      by_contra h
      rcases hord with hlt | ⟨heq, hlt⟩
      · have := hfirst a hal b hb h; omega
      · rcases hfirst a hal b hb h with hlt' | ⟨_, hlt'⟩
        · omega
        · exact lt_asymm hlt hlt'
    unfold divided; rw [if_pos hbl]
  · rw [show divided base l = fun a => base a + if a ∈ l then 1 else 0 from rfl, list_sum_add,
      list_sum_mem hn hln hsub, hll]
    omega
  · by_contra hzero
    have hbound : (cells.map rem).sum ≤ (cells.map fun b => (s - 1) * if b ∈ l then 1 else 0).sum := by
      refine list_sum_le fun b hb => ?_
      split
      · have := hrem b hb; omega
      next hbl => have := hfirst a ha b hb hbl; omega
    rw [List.sum_map_mul_left, list_sum_mem hn hln hsub, hll, ← hks, Nat.mul_comm k] at hbound
    have hpos : 0 < k := hll ▸ List.length_pos_of_mem ha
    have := Nat.le_of_mul_le_mul_right hbound hpos
    omega

/-- Of a division only the gains of its cells count. -/
theorem dividedAmong_congr {cells : List Account} {amount : Nat} {base rem gain gain' : Account → Nat}
    (h : dividedAmong cells amount base rem gain) (he : ∀ a ∈ cells, gain' a = gain a) :
    dividedAmong cells amount base rem gain' := by
  obtain ⟨hone, hfirst, htotal⟩ := h
  refine ⟨fun a ha => ?_, fun a ha b hb => ?_, ?_⟩
  · rw [he a ha]; exact hone a ha
  · rw [he a ha, he b hb]; exact hfirst a ha b hb
  · rw [← htotal, List.map_congr_left he]

/-! ### Tables of units -/

theorem addUnits_get (t : Tab 48 Nat) (l : List Account) (a : Account) :
    (addUnits t l).get a = t.get a + if a ∈ l then 1 else 0 := by
  unfold addUnits
  rw [Tab.get_mapIdx]
  split <;> rfl

/-- Units given to different accounts. -/
theorem giveUnits_get (l : List Account) (hl : l.Nodup) (f : Account → Nat) (t : Tab 48 Nat) (a : Account) :
    (giveUnits t (l.map fun a => (a, f a))).get a = t.get a + if a ∈ l then f a else 0 := by
  unfold giveUnits
  induction l generalizing t with
  | nil => simp
  | cons x xs ih =>
    obtain ⟨hx, hxs⟩ := List.nodup_cons.1 hl
    rw [List.map_cons, List.foldl_cons, ih hxs, Tab.get_modify]
    by_cases h : x = a
    · subst h; simp [hx]
    · simp [h, Ne.symm h]

/-! ### The rounds of stage 2 (R11, R12) -/

/-- The cells of W by their accounts. -/
def wantings (weight want : Account → Nat) (cells : List Account) : List Wanting :=
  cells.map fun a => { account := a, weight := weight a, want := want a }

theorem weightSum_wantings (weight want : Account → Nat) (cells : List Account) :
    weightSum (wantings weight want cells) = (cells.map weight).sum := by
  simp [weightSum, wantings, Function.comp_def]

theorem wantings_filter (weight want : Account → Nat) (cells : List Account) (p : Wanting → Bool) :
    (wantings weight want cells).filter p =
      wantings weight want (cells.filter fun a => p { account := a, weight := weight a, want := want a }) := by
  simp [wantings, List.filter_map, Function.comp_def]

section Rounds

variable {weight want : Account → Nat} {cells : List Account}

/-- The shares of the excess and their remainders add up to it. -/
theorem shares_sum (weight : Account → Nat) (x s : Nat) (cells : List Account) :
    (cells.map fun a => x * weight a / s).sum * s + (cells.map fun a => x * weight a % s).sum =
      x * (cells.map weight).sum := by
  rw [← List.sum_map_mul_right, ← list_sum_add, ← List.sum_map_mul_left]
  congr 1
  exact List.map_congr_left fun a _ => Nat.div_add_mod' _ _

theorem weights_pos (hw : ∀ a ∈ cells, 0 < weight a) (hne : cells ≠ []) : 0 < (cells.map weight).sum := by
  obtain ⟨a, ha⟩ := List.exists_mem_of_ne_nil _ hne
  exact (hw a ha).trans_le (List.single_le_sum (by simp) _ (List.mem_map.2 ⟨a, ha, rfl⟩))

/-- The shares together are within the excess. -/
theorem shares_le (hw : ∀ a ∈ cells, 0 < weight a) (x : Nat) :
    (cells.map fun a => x * weight a / (cells.map weight).sum).sum ≤ x := by
  by_cases hne : cells = []
  · subst hne; exact Nat.zero_le _
  · refine Nat.le_of_mul_le_mul_right ?_ (weights_pos hw hne)
    have := shares_sum weight x (cells.map weight).sum cells
    omega

/-- The final round's table: shares, and the leftover to the largest remainders. -/
theorem finalRound_get (x : Nat) (t : Tab 48 Nat) (hn : cells.Nodup) (a : Account) :
    (finalRound x (wantings weight want cells) t).get a =
      t.get a +
        ((if a ∈ cells then x * weight a / (cells.map weight).sum else 0) +
        if a ∈ leftoverTo (cells.map fun a => (a, x * weight a % (cells.map weight).sum))
          (x - (cells.map fun a => x * weight a / (cells.map weight).sum).sum) then 1 else 0) := by
  have hgiven : (wantings weight want cells).map (fun e => (e.account, e.share x (cells.map weight).sum)) =
      cells.map fun a => (a, x * weight a / (cells.map weight).sum) := by
    simp [wantings, Wanting.share, Function.comp_def]
  have hrems : (wantings weight want cells).map (fun e => (e.account, x * e.weight % (cells.map weight).sum)) =
      cells.map fun a => (a, x * weight a % (cells.map weight).sum) := by
    simp [wantings, Function.comp_def]
  unfold finalRound
  dsimp only
  rw [weightSum_wantings, hgiven, hrems, addUnits_get, giveUnits_get _ hn, List.map_map, Nat.add_assoc]
  rfl

/-- What stage 2 adds to the table is what R11 and R12 give, and it goes to the cells of W alone. -/
theorem stageTwo_gives (hn : cells.Nodup) (hw : ∀ a ∈ cells, 0 < weight a) (rounds x : Nat) (t : Tab 48 Nat) :
    ∃ gain : Account → Nat, (∀ a, (stageTwo rounds x (wantings weight want cells) t).get a = t.get a + gain a) ∧
      (∀ a, a ∉ cells → gain a = 0) ∧ excessGiven weight want rounds x cells gain := by
  induction rounds generalizing x cells t with
  | zero => exact ⟨fun _ => 0, fun a => rfl, fun _ _ => rfl, fun _ => rfl⟩
  | succ rounds ih =>
    have hnil : wantings weight want cells = [] ↔ cells = [] := List.map_eq_nil_iff
    unfold stageTwo
    unfold excessGiven
    simp only [hnil]
    by_cases h0 : x = 0 ∨ cells = []
    · simp only [if_pos h0]
      exact ⟨fun _ => 0, fun a => rfl, fun _ _ => rfl, fun _ => rfl⟩
    · simp only [if_neg h0, weightSum_wantings, wantings_filter, Wanting.share]
      have hsat : ∀ l, wantings weight want l = [] ↔ l = [] := fun _ => List.map_eq_nil_iff
      simp only [hsat]
      generalize hs : (cells.map weight).sum = s
      have hpos : 0 < s := hs ▸ weights_pos hw fun h => h0 (.inr h)
      by_cases hfin : (cells.filter fun a => decide (want a ≤ x * weight a / s)) = []
      · simp only [if_pos hfin]
        obtain ⟨hdiv, hsub, -⟩ := division_spec (base := fun a => x * weight a / s) (rem := fun a => x * weight a % s)
          (amount := x) hn hpos (fun a _ => Nat.mod_lt _ hpos) ((shares_sum weight x s cells).trans (by rw [hs]))
        have hget := fun a => finalRound_get (weight := weight) (want := want) x t hn a
        rw [hs] at hget
        have hout : ∀ a, a ∉ cells → (if a ∈ cells then x * weight a / s else 0) +
            (if a ∈ leftoverTo (cells.map fun a => (a, x * weight a % s))
              (x - (cells.map fun a => x * weight a / s).sum) then 1 else 0) = 0 := fun a ha => by
          rw [if_neg ha, if_neg fun h => ha (hsub h)]
        refine ⟨_, hget, hout, hout, dividedAmong_congr hdiv fun a ha => ?_⟩
        simp only [if_pos ha, divided]
      · simp only [if_neg hfin]
        generalize hsats : (cells.filter fun a => decide (want a ≤ x * weight a / s)) = sat
        have hsatn : sat.Nodup := hsats ▸ hn.filter _
        have hgifts : (wantings weight want sat).map (fun e => (e.account, e.want)) = sat.map fun a => (a, want a) := by
          simp [wantings, Function.comp_def]
        have hwants : ((wantings weight want sat).map Wanting.want).sum = (sat.map want).sum := by
          simp [wantings, Function.comp_def]
        rw [hgifts, hwants]
        obtain ⟨gain, hget, hout, hexc⟩ := ih (hn.filter fun a => decide (x * weight a / s < want a))
          (fun a ha => hw a (List.mem_of_mem_filter ha)) (x - (sat.map want).sum)
          (giveUnits t (sat.map fun a => (a, want a)))
        have hdisj : ∀ a ∈ sat, gain a = 0 := fun a ha => hout a fun hmem => by
          rw [← hsats, List.mem_filter, decide_eq_true_eq] at ha
          rw [List.mem_filter, decide_eq_true_eq] at hmem
          omega
        refine ⟨fun a => (if a ∈ sat then want a else 0) + gain a, fun a => ?_, fun a ha => ?_, fun a ha => ?_, ?_⟩
        · rw [hget, giveUnits_get _ hsatn, Nat.add_assoc]
        · have hmem : a ∉ sat := fun h => ha (List.mem_of_mem_filter (hsats.symm ▸ h))
          simp only [if_neg hmem, hout a fun h => ha (List.mem_of_mem_filter h), Nat.add_zero]
        · simp only [if_pos ha, hdisj a ha, Nat.add_zero]
        · convert hexc using 2 with a
          split
          · exact (hdisj a ‹_›).symm
          next hmem => simp only [if_neg hmem, Nat.zero_add]

/-- The wants of the cells that a round satisfies are within their shares. -/
theorem satisfied_le (hw : ∀ a ∈ cells, 0 < weight a) (x : Nat) :
    ((cells.filter fun a => decide (want a ≤ x * weight a / (cells.map weight).sum)).map want).sum ≤ x :=
  calc ((cells.filter fun a => decide (want a ≤ x * weight a / (cells.map weight).sum)).map want).sum
      ≤ ((cells.filter fun a => decide (want a ≤ x * weight a / (cells.map weight).sum)).map
          fun a => x * weight a / (cells.map weight).sum).sum :=
        list_sum_le fun a ha => by simpa using (List.mem_filter.1 ha).2
    _ ≤ (cells.map fun a => x * weight a / (cells.map weight).sum).sum :=
        (List.filter_sublist.map _).sum_le_sum fun _ _ => Nat.zero_le _
    _ ≤ x := shares_le hw x

/-- A sum over the cells, split into those a round satisfies and those it leaves. -/
theorem sum_split (share gain : Account → Nat) (cells : List Account) :
    (cells.map gain).sum =
      ((cells.filter fun a => decide (want a ≤ share a)).map gain).sum +
        ((cells.filter fun a => decide (share a < want a)).map fun a =>
          if a ∈ cells.filter (fun a => decide (want a ≤ share a)) then 0 else gain a).sum := by
  have hrest : ((cells.filter fun a => decide (share a < want a)).map fun a =>
      if a ∈ cells.filter (fun a => decide (want a ≤ share a)) then 0 else gain a) =
      (cells.filter fun a => decide (share a < want a)).map gain := by
    refine List.map_congr_left fun a ha => if_neg fun h => ?_
    simp only [List.mem_filter, decide_eq_true_eq] at ha h
    omega
  rw [hrest]
  clear hrest
  induction cells with
  | nil => rfl
  | cons a as ih =>
    by_cases h : want a ≤ share a
    · simp [h, not_lt.2 h, ih]; omega
    · simp [h, not_le.1 h, ih]; omega

/-- Of the excess no more is given than there is, and no cell gets more than it wants. -/
theorem excessGiven_le (hw : ∀ a ∈ cells, 0 < weight a) {rounds x : Nat} {gain : Account → Nat}
    (h : excessGiven weight want rounds x cells gain) :
    (cells.map gain).sum ≤ x ∧ ∀ a ∈ cells, gain a ≤ want a := by
  induction rounds generalizing x cells gain with
  | zero =>
    have h0 : ∀ a, gain a = 0 := h
    exact ⟨by rw [list_sum_zero h0]; exact Nat.zero_le _, fun a _ => by rw [h0]; exact Nat.zero_le _⟩
  | succ rounds ih =>
    unfold excessGiven at h
    dsimp only at h
    split at h
    · exact ⟨by rw [list_sum_zero h]; exact Nat.zero_le _, fun a _ => by rw [h]; exact Nat.zero_le _⟩
    · split at h
      next hfin =>
        obtain ⟨_, hone, _, hsum⟩ := h
        refine ⟨hsum.le, fun a ha => ?_⟩
        have hshare : x * weight a / (cells.map weight).sum < want a := by
          by_contra hle
          have hmem : a ∈ cells.filter fun a => decide (want a ≤ x * weight a / (cells.map weight).sum) :=
            List.mem_filter.2 ⟨ha, decide_eq_true (not_lt.1 hle)⟩
          rw [hfin] at hmem
          cases hmem
        rcases hone a ha with h | h
        · exact h.trans_le hshare.le
        · exact h.trans_le hshare
      next hfin =>
        obtain ⟨hsat, hrest⟩ := h
        obtain ⟨hsum, hwant⟩ := ih (fun a ha => hw a (List.mem_of_mem_filter ha)) hrest
        refine ⟨?_, fun a ha => ?_⟩
        · rw [sum_split (want := want) (fun a => x * weight a / (cells.map weight).sum),
            List.map_congr_left hsat]
          have := satisfied_le (want := want) hw x
          omega
        · by_cases hs : a ∈ cells.filter fun a => decide (want a ≤ x * weight a / (cells.map weight).sum)
          · exact (hsat a hs).le
          · have hlt : x * weight a / (cells.map weight).sum < want a := by
              by_contra hle
              exact hs (List.mem_filter.2 ⟨ha, decide_eq_true (not_lt.1 hle)⟩)
            have := hwant a (List.mem_filter.2 ⟨ha, decide_eq_true hlt⟩)
            rwa [if_neg hs] at this

/-- With as many rounds as cells, all of the excess is given, or every cell gets what it wants. -/
theorem excessGiven_total (hw : ∀ a ∈ cells, 0 < weight a) {rounds x : Nat} {gain : Account → Nat}
    (hr : cells.length ≤ rounds) (h : excessGiven weight want rounds x cells gain) :
    (cells.map gain).sum = x ∨ ∀ a ∈ cells, gain a = want a := by
  induction rounds generalizing x cells gain with
  | zero =>
    rw [Nat.le_zero, List.length_eq_zero_iff] at hr
    subst hr
    exact .inr fun a ha => by cases ha
  | succ rounds ih =>
    unfold excessGiven at h
    dsimp only at h
    split at h
    next h0 =>
      rcases h0 with h0 | h0
      · subst h0; exact .inl (list_sum_zero h cells)
      · subst h0; exact .inr fun a ha => by cases ha
    · split at h
      · exact .inl h.2.2.2
      next hfin =>
        obtain ⟨hsat, hrest⟩ := h
        have hlen : (cells.filter fun a => decide (x * weight a / (cells.map weight).sum < want a)).length ≤ rounds := by
          refine Nat.le_of_lt_succ (lt_of_lt_of_le ?_ hr)
          obtain ⟨a, ha⟩ := List.exists_mem_of_ne_nil _ hfin
          rw [List.mem_filter, decide_eq_true_eq] at ha
          exact List.length_filter_lt_length_iff_exists.2 ⟨a, ha.1, by simpa using ha.2⟩
        rcases ih (fun a ha => hw a (List.mem_of_mem_filter ha)) hlen hrest with htotal | hall
        · left
          rw [sum_split (want := want) (fun a => x * weight a / (cells.map weight).sum), List.map_congr_left hsat, htotal]
          have := satisfied_le (want := want) hw x
          omega
        · right
          intro a ha
          by_cases hs : a ∈ cells.filter fun a => decide (want a ≤ x * weight a / (cells.map weight).sum)
          · exact hsat a hs
          · have hlt : x * weight a / (cells.map weight).sum < want a := by
              by_contra hle
              exact hs (List.mem_filter.2 ⟨ha, decide_eq_true (not_lt.1 hle)⟩)
            have := hall a (List.mem_filter.2 ⟨ha, decide_eq_true hlt⟩)
            rwa [if_neg hs] at this

end Rounds

/-! ### An allocation -/

/-- What a cell still wants after its claim (R10). -/
def AllocInput.residual (i : AllocInput) : Nat := min i.demand i.ceiling - i.claim

theorem AllocInput.claim_le (i : AllocInput) : i.claim ≤ min i.demand i.ceiling := by
  unfold AllocInput.claim
  split <;> omega

theorem filterMap_ite {α β : Type} (l : List α) (P : α → Prop) [DecidablePred P] (f : α → β) :
    (l.filterMap fun i => if P i then some (f i) else none) = (l.filter fun i => decide (P i)).map f := by
  induction l with
  | nil => rfl
  | cons a as ih => by_cases h : P a <;> simp [h, ih]

section Allocation

variable (capacity : Nat) (inputs : Tab 48 AllocInput)

/-- The accounts of W at the start of stage 2. -/
def wantingAccounts : List Account := (List.finRange 48).filter fun a =>
  decide ((inputs.get a).takesPart = true ∧
    ((inputs.get a).conduct = .good ∨ (inputs.get a).conduct = .warned) ∧ 0 < (inputs.get a).weight ∧
      0 < (inputs.get a).residual)

theorem wantingCells_eq : wantingCells inputs (inputs.map AllocInput.claim) =
    wantings (fun a => (inputs.get a).weight) (fun a => (inputs.get a).residual) (wantingAccounts inputs) := by
  unfold wantingCells
  simp only [Tab.get_map]
  exact filterMap_ite (List.finRange 48) _
    fun i => ({ account := i, weight := (inputs.get i).weight, want := (inputs.get i).residual } : Wanting)

theorem wantingAccounts_nodup : (wantingAccounts inputs).Nodup := (List.nodup_finRange 48).filter _

theorem mem_wantingAccounts (a : Account) : a ∈ wantingAccounts inputs ↔
    (inputs.get a).takesPart = true ∧ ((inputs.get a).conduct = .good ∨ (inputs.get a).conduct = .warned) ∧
      0 < (inputs.get a).weight ∧ 0 < (inputs.get a).residual := by
  simp [wantingAccounts]

theorem wantingAccounts_weight : ∀ a ∈ wantingAccounts inputs, 0 < (inputs.get a).weight :=
  fun a ha => ((mem_wantingAccounts inputs a).1 ha).2.2.1

/-- Claims that fit the capacity are allocated, with the excess by R11 and R12 on top. -/
theorem allocate_of_fits (h : (inputs.cells.map AllocInput.claim).sum ≤ capacity) :
    ∃ gain : Account → Nat, (∀ a, (allocate capacity inputs).get a = (inputs.get a).claim + gain a) ∧
      (∀ a, a ∉ wantingAccounts inputs → gain a = 0) ∧
      excessGiven (fun a => (inputs.get a).weight) (fun a => (inputs.get a).residual) 48
        (capacity - (inputs.cells.map AllocInput.claim).sum) (wantingAccounts inputs) gain := by
  have htotal : (inputs.map AllocInput.claim).cells.sum = (inputs.cells.map AllocInput.claim).sum := by
    rw [Tab.sum_cells, sum_cells_map]; simp
  obtain ⟨gain, hget, hout, hexc⟩ := stageTwo_gives (want := fun a => (inputs.get a).residual)
    (wantingAccounts_nodup inputs) (wantingAccounts_weight inputs) 48
    (capacity - (inputs.cells.map AllocInput.claim).sum) (inputs.map AllocInput.claim)
  refine ⟨gain, fun a => ?_, hout, hexc⟩
  unfold allocate
  dsimp only
  rw [htotal, if_neg (not_lt.2 h), wantingCells_eq, hget, Tab.get_map]

/-- What such an allocation gives together. -/
theorem allocate_sum_of_gain {gain : Account → Nat}
    (hget : ∀ a, (allocate capacity inputs).get a = (inputs.get a).claim + gain a)
    (hout : ∀ a, a ∉ wantingAccounts inputs → gain a = 0) :
    (allocate capacity inputs).cells.sum =
      (inputs.cells.map AllocInput.claim).sum + ((wantingAccounts inputs).map gain).sum := by
  rw [Tab.sum_cells, sum_cells_map, ← sum_eq_list_sum (wantingAccounts_nodup inputs) hout, ← Finset.sum_add_distrib]
  exact Finset.sum_congr rfl fun a _ => hget a

/-- The accounts whose cells take part. -/
def takingPart : List Account := (List.finRange 48).filter fun a => (inputs.get a).takesPart

theorem claim_eq_zero {a : Account} (ha : a ∉ takingPart inputs) : (inputs.get a).claim = 0 := by
  unfold AllocInput.claim
  rw [if_neg fun h => ha (List.mem_filter.2 ⟨List.mem_finRange a, h⟩)]

theorem takingPart_sum :
    ((takingPart inputs).map fun a => (inputs.get a).claim).sum = (inputs.cells.map AllocInput.claim).sum := by
  rw [sum_cells_map]
  exact (sum_eq_list_sum ((List.nodup_finRange 48).filter _) fun a => claim_eq_zero inputs).symm

/-- Claims above the capacity are scaled to it (R9). -/
theorem allocate_of_scaled (h : capacity < (inputs.cells.map AllocInput.claim).sum) :
    dividedAmong (takingPart inputs) capacity
      (fun a => (inputs.get a).claim * capacity / (inputs.cells.map AllocInput.claim).sum)
      (fun a => (inputs.get a).claim * capacity % (inputs.cells.map AllocInput.claim).sum)
      (fun a => (allocate capacity inputs).get a) ∧
    ∀ a, (allocate capacity inputs).get a ≤ (inputs.get a).claim ∧
      (inputs.get a).claim * capacity / (inputs.cells.map AllocInput.claim).sum ≤ (allocate capacity inputs).get a := by
  have htotal : (inputs.map AllocInput.claim).cells.sum = (inputs.cells.map AllocInput.claim).sum := by
    rw [Tab.sum_cells, sum_cells_map]; simp
  have hpart := takingPart_sum inputs
  generalize (inputs.cells.map AllocInput.claim).sum = total at h htotal hpart ⊢
  have hpos : 0 < total := Nat.zero_lt_of_lt h
  have hn : (takingPart inputs).Nodup := (List.nodup_finRange 48).filter _
  have hbase : ((inputs.map AllocInput.claim).map fun g => g * capacity / total).cells.sum =
      ((takingPart inputs).map fun a => (inputs.get a).claim * capacity / total).sum := by
    rw [Tab.sum_cells, ← sum_eq_list_sum hn fun a ha => by rw [claim_eq_zero inputs ha]; simp]
    simp
  have hsum : ((takingPart inputs).map fun a => (inputs.get a).claim * capacity / total).sum * total +
      ((takingPart inputs).map fun a => (inputs.get a).claim * capacity % total).sum = capacity * total := by
    rw [← List.sum_map_mul_right, ← list_sum_add, ← hpart, Nat.mul_comm capacity, ← List.sum_map_mul_right]
    congr 1
    exact List.map_congr_left fun a _ => Nat.div_add_mod' _ _
  obtain ⟨hdiv, hsub, hrem⟩ := division_spec (base := fun a => (inputs.get a).claim * capacity / total)
    (rem := fun a => (inputs.get a).claim * capacity % total) hn hpos (fun a _ => Nat.mod_lt _ hpos) hsum
  have hget : ∀ a, (allocate capacity inputs).get a = divided (fun a => (inputs.get a).claim * capacity / total)
      (leftoverTo ((takingPart inputs).map fun a => (a, (inputs.get a).claim * capacity % total))
        (capacity - ((takingPart inputs).map fun a => (inputs.get a).claim * capacity / total).sum)) a := fun a => by
    unfold allocate
    dsimp only
    rw [htotal, if_pos h]
    unfold scaleClaims
    dsimp only
    rw [addUnits_get, hbase]
    simp only [Tab.get_map]
    rfl
  refine ⟨dividedAmong_congr hdiv fun a _ => hget a, fun a => ?_⟩
  rw [hget]
  unfold divided
  dsimp only
  refine ⟨?_, Nat.le_add_right _ _⟩
  have hlt (hc : 0 < (inputs.get a).claim) : (inputs.get a).claim * capacity / total < (inputs.get a).claim :=
    Nat.div_lt_of_lt_mul (by rw [Nat.mul_comm]; exact Nat.mul_lt_mul_of_pos_right h hc)
  rcases Nat.eq_zero_or_pos (inputs.get a).claim with hc | hc
  · rw [if_neg fun hmem => by simpa [hc] using hrem a hmem, hc]; simp
  · have := hlt hc
    split <;> omega

end Allocation

/-- An allocation whose claims do not fit gives out exactly the capacity. -/
theorem allocate_sum_of_scaled (capacity : Nat) (inputs : Tab 48 AllocInput)
    (h : capacity < (inputs.cells.map AllocInput.claim).sum) : (allocate capacity inputs).cells.sum = capacity := by
  obtain ⟨⟨_, _, htotal⟩, hle⟩ := allocate_of_scaled capacity inputs h
  rw [Tab.sum_cells]
  refine (sum_eq_list_sum ((List.nodup_finRange 48).filter _) fun a ha => ?_).trans htotal
  exact Nat.le_zero.1 ((hle a).1.trans_eq (claim_eq_zero inputs ha))

/-- Settles O36. -/
theorem allocationNeverExceedsCapacity : Obligations.AllocationNeverExceedsCapacity := by
  intro capacity inputs
  by_cases h : (inputs.cells.map AllocInput.claim).sum ≤ capacity
  · obtain ⟨gain, hget, hout, hexc⟩ := allocate_of_fits capacity inputs h
    rw [allocate_sum_of_gain capacity inputs hget hout]
    have := (excessGiven_le (wantingAccounts_weight inputs) hexc).1
    omega
  · exact (allocate_sum_of_scaled capacity inputs (not_le.1 h)).le

/-- Settles O37. -/
theorem allocationKeepsToWantsAndClaims : Obligations.AllocationKeepsToWantsAndClaims := by
  intro capacity inputs total claim x want wanting
  have hnone (a : Account) (h : (inputs.get a).takesPart = false) : (inputs.get a).claim = 0 ∧
      a ∉ wantingAccounts inputs := by
    refine ⟨claim_eq_zero inputs fun hmem => ?_, fun hmem => ?_⟩
    · have := (List.mem_filter.1 hmem).2; rw [h] at this; cases this
    · have := ((mem_wantingAccounts inputs a).1 hmem).1; rw [h] at this; cases this
  refine ⟨fun a => rfl, ?_, fun hfit => ?_, fun hscale => (allocate_of_scaled capacity inputs hscale).1⟩
  · by_cases hfit : total ≤ capacity
    · obtain ⟨gain, hget, hout, hexc⟩ := allocate_of_fits capacity inputs hfit
      have hwant := (excessGiven_le (wantingAccounts_weight inputs) hexc).2
      have hx : ∀ a, x a = claim a + gain a := hget
      intro a
      rw [hx]
      refine ⟨fun h => ?_, ?_, fun _ => Nat.le_add_right _ _, fun _ hr => ?_, fun hlt => absurd hfit (not_le.2 hlt)⟩
      · rw [hout a (hnone a h).2]; exact (hnone a h).1
      · have hclaim := (inputs.get a).claim_le
        by_cases ha : a ∈ wantingAccounts inputs
        · have := hwant a ha
          unfold AllocInput.residual at this
          show (inputs.get a).claim + gain a ≤ _
          omega
        · rw [hout a ha]; exact hclaim
      · rw [hout a fun ha => by
          have := ((mem_wantingAccounts inputs a).1 ha).2.1
          rw [hr] at this
          simp at this]
        rfl
    · obtain ⟨_, hle⟩ := allocate_of_scaled capacity inputs (not_le.1 hfit)
      exact fun a => ⟨fun h => Nat.le_zero.1 ((hle a).1.trans_eq (hnone a h).1), (hle a).1.trans (inputs.get a).claim_le,
        fun h => absurd h hfit, fun h => absurd h hfit, fun _ => hle a⟩
  · obtain ⟨gain, hget, _, hexc⟩ := allocate_of_fits capacity inputs hfit
    have hgain : (fun a => x a - claim a) = gain := funext fun a => by
      show (allocate capacity inputs).get a - _ = _
      rw [hget]
      exact Nat.add_sub_cancel_left ..
    rw [hgain]
    exact hexc

/-- Settles O38. -/
theorem idleCapacityMeansNoWantIsLeft : Obligations.IdleCapacityMeansNoWantIsLeft := by
  intro capacity inputs
  by_cases h : (inputs.cells.map AllocInput.claim).sum ≤ capacity
  · obtain ⟨gain, hget, hout, hexc⟩ := allocate_of_fits capacity inputs h
    have hlen : (wantingAccounts inputs).length ≤ 48 := by
      unfold wantingAccounts
      exact (List.length_filter_le _ _).trans_eq (List.length_finRange)
    rcases excessGiven_total (wantingAccounts_weight inputs) hlen hexc with htotal | hall
    · left
      rw [allocate_sum_of_gain capacity inputs hget hout, htotal]
      omega
    · refine .inr ⟨h, fun a htake hcond hweight => ?_⟩
      have hclaim := (inputs.get a).claim_le
      have hgain : gain a = (inputs.get a).residual := by
        by_cases ha : a ∈ wantingAccounts inputs
        · exact hall a ha
        · have hzero : ¬0 < (inputs.get a).residual := fun hpos =>
            ha ((mem_wantingAccounts inputs a).2 ⟨htake, hcond, hweight, hpos⟩)
          rw [hout a ha]; omega
      rw [hget, hgain]
      unfold AllocInput.residual
      omega
  · exact .inl (allocate_sum_of_scaled capacity inputs (not_le.1 h))

end Sys2Proof.Machine
end

section
/-! PROOF. Kept by every step: issued net within allowance, and the allowances within the effective capacity (R13, R54). -/

namespace Sys2Proof.Machine

/-! ### One port -/

theorem PortBlock.sumCells_eq (b : PortBlock) (f : Cell → Nat) : b.sumCells f = ∑ a, f (b.cells.get a) := sum_cells_map _ _

theorem PortBlock.sumCells_le {b b' : PortBlock} {f : Cell → Nat} (h : ∀ a, f (b'.cells.get a) ≤ f (b.cells.get a)) :
    b'.sumCells f ≤ b.sumCells f := by
  rw [PortBlock.sumCells_eq, PortBlock.sumCells_eq]
  exact Finset.sum_le_sum fun a _ => h a

theorem PortBlock.sumCells_settled {b : PortBlock} (h : b.settled) : b.sumCells Cell.allowance = 0 := by
  rw [PortBlock.sumCells_eq]
  exact Finset.sum_eq_zero fun a _ => (h a).1

/-- A port whose allowances do not rise, with issued net still within them, in the same state and owing the same. -/
theorem PortBlock.accountsSound_of {b b' : PortBlock} (h : b.accountsSound)
    (hi : ∀ a, (b'.cells.get a).issued ≤ (b'.cells.get a).allowance)
    (ha : ∀ a, (b'.cells.get a).allowance ≤ (b.cells.get a).allowance) (hcap : b'.capacity = b.capacity)
    (hm : b'.mode = b.mode) (hlt : b'.closeOwed.length < b'.changeOwed.length → b.closeOwed.length < b.changeOwed.length)
    (heq : b.closeOwed.length = b.changeOwed.length → b'.closeOwed.length = b'.changeOwed.length)
    (hf : ∀ al, b'.inFlight = some al → ∃ al', b.inFlight = some al' ∧ al.capacity = al'.capacity) :
    b'.accountsSound := by
  obtain ⟨_, hsum, hrest, hdrain, hgrant, hflight⟩ := h
  have hsettled (hs : b.settled) : b'.settled := fun a => by
    have := hi a
    have := ha a
    have := (hs a).1
    omega
  refine ⟨hi, ?_, ?_, ?_, ?_, fun al hal => ?_⟩
  · rw [hcap]; exact (PortBlock.sumCells_le ha).trans hsum
  · rw [hm]; exact fun h => hsettled (hrest h)
  · rw [hm]; exact fun h hl => hsettled (hdrain h (hlt hl))
  · rw [hm]; exact fun h => heq (hgrant h)
  · obtain ⟨al', hal', hc⟩ := hf al hal
    obtain ⟨hlen, hcapal⟩ := hflight al' hal'
    exact ⟨heq hlen, by rw [hc, hcapal, hcap]⟩

/-- A port of which cells, capacity, state, allocation and boundaries owed stand. -/
theorem PortBlock.accountsSound_congr {b b' : PortBlock} (h : b.accountsSound) (hcells : b'.cells = b.cells)
    (hcap : b'.capacity = b.capacity) (hm : b'.mode = b.mode) (hclose : b'.closeOwed = b.closeOwed)
    (hchange : b'.changeOwed = b.changeOwed) (hf : b'.inFlight = b.inFlight) : b'.accountsSound :=
  PortBlock.accountsSound_of h (fun a => by rw [hcells]; exact h.1 a) (fun a => by rw [hcells]) hcap hm
    (by rw [hclose, hchange]; exact id) (by rw [hclose, hchange]; exact id) fun al hal => ⟨al, hf ▸ hal, rfl⟩

theorem PortBlock.Eased.accountsSound {b b' : PortBlock} (h : b.Eased b') (hb : b.accountsSound) : b'.accountsSound :=
  PortBlock.accountsSound_of hb (fun a => by rw [h.allowance]; exact (h.issued a).trans (hb.1 a))
    (fun a => (h.allowance a).le) h.capacity h.mode (by rw [h.closeOwed, h.changeOwed]; exact id)
    (by rw [h.closeOwed, h.changeOwed]; exact id) fun al hal => ⟨al, h.inFlight ▸ hal, rfl⟩

/-- A port with nothing allowed or issued, in a state that keeps it so. -/
theorem PortBlock.accountsSound_of_settled {b : PortBlock} (hs : b.settled) (hm : b.mode ≠ .granting)
    (hf : ∀ al, b.inFlight = some al → b.closeOwed.length = b.changeOwed.length ∧ al.capacity = b.capacity) :
    b.accountsSound :=
  ⟨fun a => by rw [(hs a).1, (hs a).2], by rw [PortBlock.sumCells_settled hs]; exact Nat.zero_le _, fun _ => hs,
    fun _ _ => hs, fun h => absurd h hm, hf⟩

theorem PortBlock.cutOff_accountsSound {b : PortBlock} (a : Account) (h : b.accountsSound) : (b.cutOff a).accountsSound := by
  have hcell : ∀ x, ((b.cutOff a).cells.get x).issued ≤ ((b.cutOff a).cells.get x).allowance ∧
      ((b.cutOff a).cells.get x).allowance ≤ (b.cells.get x).allowance := fun x => by
    have := h.1 x
    rw [PortBlock.cutOff_cell]
    unfold Cell.cutOff
    split
    · cases b.inFlight.isSome <;> simp [this]
    · exact ⟨this, le_rfl⟩
  refine PortBlock.accountsSound_of h (fun x => (hcell x).1) (fun x => (hcell x).2) rfl rfl id id fun al hal => ?_
  obtain ⟨al', hal', rfl⟩ := Option.map_eq_some_iff.1 hal
  exact ⟨al', hal', rfl⟩

/-- A grant is within what remains of the cell's allowance (R54). -/
theorem PortBlock.grantTo_accountsSound {b : PortBlock} {l : Lane} {a : Account} {q : QueueId} {rest : List QueueId}
    (h : b.accountsSound) : (b.grantTo l a q rest).accountsSound := by
  have hallow : ∀ x, ((b.grantTo l a q rest).cells.get x).allowance = (b.cells.get x).allowance := fun x => by
    rw [PortBlock.grantTo_cell]; split <;> rfl
  refine PortBlock.accountsSound_of h (fun x => ?_) (fun x => (hallow x).le) (by simp) (by simp) (by simp) (by simp)
    fun al hal => ⟨al, by simpa using hal, rfl⟩
  rw [hallow, PortBlock.grantTo_cell]
  split
  next hx =>
    subst hx
    have hsize : b.grantSize a q ≤ (b.cells.get a).remaining := (Nat.min_le_right _ _).trans (Nat.min_le_left _ _)
    unfold Cell.remaining at hsize
    have := h.1 a
    show (b.cells.get a).issued + b.grantSize a q ≤ _
    omega
  next => exact h.1 x

theorem Cell.settle_settled (c : Cell) : c.settle.unstarved.allowance = 0 ∧ c.settle.unstarved.issued = 0 := ⟨rfl, rfl⟩

/-- A boundary taken by the arbiter (R41): of a GRANTING port it takes none, its close being due first. -/
theorem PortBlock.takeChange_accountsSound {b : PortBlock} {rest : List Epoch} {e : Epoch} {m : PortMode}
    (h : b.accountsSound) (ho : b.changeOwed = e :: rest)
    (hr : b.closeOwed.length < b.changeOwed.length ∨ b.mode = .standby) (hm : m ≠ .granting) :
    PortBlock.accountsSound { b.takeChange rest with mode := m } := by
  obtain ⟨_, _, hrest, hdrain, hgrant, hflight⟩ := h
  have hsettled : b.settled := by
    cases hmode : b.mode with
    | standby => exact hrest (.inl hmode)
    | allocating => exact hrest (.inr hmode)
    | granting =>
      rcases hr with hlt | hst
      · exact absurd hlt (hgrant hmode).not_lt
      · rw [hmode] at hst; cases hst
    | draining =>
      rcases hr with hlt | hst
      · exact hdrain hmode hlt
      · rw [hmode] at hst; cases hst
  refine PortBlock.accountsSound_of_settled (b := { b.takeChange rest with mode := m }) hsettled hm fun al hal => ?_
  obtain ⟨hlen, hcap⟩ := hflight al hal
  have hst : b.mode = .standby := hr.resolve_left hlen.not_lt
  rw [ho, List.length_cons] at hlen
  refine ⟨?_, hcap⟩
  show (if b.mode = .standby ∧ rest.length < b.closeOwed.length then b.closeOwed.tail else b.closeOwed).length = rest.length
  rw [if_pos ⟨hst, by omega⟩, List.length_tail]
  omega

theorem PortBlock.startAllocation_accountsSound {b : PortBlock} (r : PortRecord) (sh : Account → Option Share)
    (c : Account → Conduct) (h : b.accountsSound) (hm : b.mode = .allocating) (hc : b.closeOwed = [])
    (ho : b.changeOwed = []) : (b.startAllocation r sh c).accountsSound := by
  have hs := h.2.2.1 (.inr hm)
  refine PortBlock.accountsSound_of_settled (fun a => ?_) (fun hg => ?_) fun al hal => ⟨?_, ?_⟩
  · have hcell := hs a
    unfold PortBlock.startAllocation
    simp only [Tab.get_mapIdx]
    unfold Cell.recordStart Cell.rampStep
    split <;> split <;> exact ⟨by simp [hcell.1], by simp [hcell.2]⟩
  · have : (b.startAllocation r sh c).mode = b.mode := rfl
    rw [this, hm] at hg; cases hg
  · show b.closeOwed.length = b.changeOwed.length
    rw [hc, ho]
  · cases hal; rfl

/-- What is delivered is within the capacity the allocation works on (R13, R14). -/
theorem PortBlock.deliver_accountsSound {b : PortBlock} {al : Allocation} (h : b.accountsSound)
    (hf : b.inFlight = some al) (hm : b.mode = .allocating) : (b.deliver al).accountsSound := by
  obtain ⟨_, _, hrest, _, _, hflight⟩ := h
  obtain ⟨hlen, hcap⟩ := hflight al hf
  have hs := hrest (.inr hm)
  have hcell : ∀ a, (b.deliver al).cells.get a = { b.cells.get a with allowance := al.result.get a } := fun a => by
    simp [PortBlock.deliver]
  refine ⟨fun a => ?_, ?_, fun h => ?_, fun h => ?_, fun _ => hlen, fun al' h => ?_⟩
  · rw [hcell]
    show (b.cells.get a).issued ≤ _
    rw [(hs a).2]; exact Nat.zero_le _
  · rw [PortBlock.sumCells_eq]
    calc ∑ a, ((b.deliver al).cells.get a).allowance
        ≤ ∑ a, (allocate al.capacity al.inputs).get a := Finset.sum_le_sum fun a _ => by
          rw [hcell]
          unfold Allocation.result
          simp only [Tab.get_mapIdx]
          split
          · exact Nat.zero_le _
          · exact le_rfl
      _ = (allocate al.capacity al.inputs).cells.sum := (Tab.sum_cells _).symm
      _ ≤ al.capacity := allocationNeverExceedsCapacity _ _
      _ = b.capacity := hcap
  · rcases h with h | h <;> cases h
  · cases h
  · cases h

theorem Cell.applyPlan_le (c : Cell) (old new : Option Share) (h : c.issued ≤ c.allowance) :
    (c.applyPlan old new).issued ≤ (c.applyPlan old new).allowance ∧ (c.applyPlan old new).allowance ≤ c.allowance := by
  unfold Cell.applyPlan
  split
  · exact ⟨le_rfl, h⟩
  · exact ⟨h, le_rfl⟩

/-! ### The state -/

theorem State.accountsSound_modPort {s : State} {p : Port} {f : PortBlock → PortBlock} (hs : s.accountsSound)
    (hf : (s.ports.get p).accountsSound → (f (s.ports.get p)).accountsSound) : (s.modPort p f).accountsSound := by
  intro q
  rw [State.modPort_ports_get]
  split
  · subst q; exact hf (hs p)
  · exact hs q

theorem State.accountsSound_congr {s t : State} (hs : s.accountsSound) (h : t.ports = s.ports) : t.accountsSound :=
  fun p => by rw [h]; exact hs p

/-- Entry to PARKED drops the boundaries owed. -/
theorem State.park_accountsSound {s : State} (hs : s.accountsSound) : s.park.accountsSound := fun p => by
  rw [State.park_ports_get]
  exact PortBlock.accountsSound_of (hs p) (hs p).1 (fun _ => le_rfl) rfl rfl (fun h => absurd h (Nat.lt_irrefl _))
    (fun _ => rfl) fun al hal => ⟨al, hal, rfl⟩

theorem Update.accountsSound {s t : State} (hs : s.accountsSound) (h : Update s t) : t.accountsSound := by
  cases h with
  | charge a n sched =>
    intro p
    rcases s.charge_ports a n sched with hp | ⟨_, _, hp⟩
    · rw [hp]; exact hs p
    · rw [hp]; exact PortBlock.cutOff_accountsSound a (hs p)
  | ports ps hps => exact fun p => (hps p).accountsSound (hs p)
  | unbindQueue | acceptDemand =>
    exact State.accountsSound_modPort hs fun h =>
      PortBlock.accountsSound_congr h (by simp) (by simp) (by simp) (by simp) (by simp) (by simp)
  | bindQueue => exact State.accountsSound_modPort hs fun h => PortBlock.accountsSound_congr h rfl rfl rfl rfl rfl rfl
  | issueGrant p l a h =>
    rcases s.issueGrant_cases p l a with ⟨_, e⟩ | ⟨q, rest, _, e⟩
    · rw [e]; exact hs
    · rw [e]
      refine State.accountsSound_congr (s := s.modPort p fun b => b.grantTo l a q rest) ?_ (by simp)
      exact State.accountsSound_modPort hs PortBlock.grantTo_accountsSound
  | drain p hm =>
    refine State.accountsSound_modPort hs fun h => ?_
    obtain ⟨hi, hsum, hrest, _, hgrant, hflight⟩ := h
    refine ⟨hi, hsum, fun h => ?_, fun _ hlt => ?_, fun h => ?_, hflight⟩
    · rcases h with h | h <;> cases h
    · rcases hm with hm | hm
      · exact absurd hlt (hgrant hm).not_lt
      · exact hrest (.inr hm)
    · cases h
  | enterStandby p hm ht =>
    refine State.accountsSound_congr (State.accountsSound_modPort hs fun h => ?_) (State.standbyEntered_ports s p)
    refine PortBlock.accountsSound_of_settled (fun a => ?_) (by simp) fun al hal => ?_
    · simp only [PortBlock.takeDeferred_cells, PortBlock.afterReport_cells, PortBlock.rest_cell]
      exact Cell.settle_settled _
    · have := h.2.2.2.2.2 al (by simpa using hal)
      simpa using this
  | settle p cs e hz =>
    exact State.accountsSound_modPort hs fun h =>
      PortBlock.accountsSound_of h (fun a => by simp [hz a]) (fun a => by simp [hz a]) rfl rfl id id
        fun al hal => ⟨al, hal, rfl⟩
  | afterClose p e rest hm hf ho hset =>
    refine State.accountsSound_modPort hs fun h => PortBlock.accountsSound_of_settled hset (fun hg => ?_) fun al hal => ?_
    · simp only [PortBlock.afterClose] at hg
      split at hg
      · cases hg
      next hn => exact hn hg
    · have hnone : (s.ports.get p).inFlight = some al := hal
      rw [hf] at hnone; cases hnone
  | takeChange p e rest m ho hr hm =>
    refine State.accountsSound_modPort hs fun h => PortBlock.takeChange_accountsSound h ho hr ?_
    rcases hm with ⟨_, hm⟩ | ⟨hm, _⟩
    · exact hm
    · rw [hm]; decide
  | startAllocation p r sh c hm hc ho =>
    exact State.accountsSound_modPort hs fun h => PortBlock.startAllocation_accountsSound r sh c h hm hc ho
  | deliver p al hf hm => exact State.accountsSound_modPort hs fun h => PortBlock.deliver_accountsSound h hf hm
  | discard p =>
    exact State.accountsSound_modPort hs fun h =>
      PortBlock.accountsSound_of h h.1 (fun _ => le_rfl) rfl rfl id id fun al hal => by cases hal
  | parkIfDone =>
    rcases s.parkIfDone_or with e | ⟨_, _, _, _, e⟩ | ⟨_, _, _, _, e⟩
    · rw [e]; exact hs
    · rw [e]; exact State.park_accountsSound hs
    · rw [e]; exact State.accountsSound_congr hs (by simp)
  | boundary =>
    intro p
    rw [State.makeBoundary_ports_get]
    exact PortBlock.accountsSound_of (hs p) (hs p).1 (fun _ => le_rfl) rfl rfl (by simp) (by simp)
      fun al hal => ⟨al, hal, rfl⟩
  | reclassify =>
    intro p
    show PortBlock.accountsSound (Tab.get _ p)
    rw [Tab.get_mapIdx]
    exact PortBlock.accountsSound_congr (hs p) (by simp) (by simp) (by simp) (by simp) (by simp) (by simp)
  | applyShares old =>
    intro p
    rw [State.applyShares_ports_get]
    refine PortBlock.accountsSound_of (hs p) (fun a => ?_) (fun a => ?_) rfl rfl id id fun al hal => ⟨al, hal, rfl⟩
    · simp only [Tab.get_mapIdx]; exact (Cell.applyPlan_le _ _ _ ((hs p).1 a)).1
    · simp only [Tab.get_mapIdx]; exact (Cell.applyPlan_le _ _ _ ((hs p).1 a)).2
  | placeDeferred =>
    intro p
    rw [State.placeDeferred_ports_get]
    exact PortBlock.accountsSound_congr (hs p) (by simp) (by simp) (by simp) (by simp) (by simp) (by simp)
  | resume => unfold State.resumeMemory; split <;> exact hs
  | place | post => exact State.accountsSound_congr hs (by simp)
  | _ => exact hs

theorem State.reset_accountsSound : State.reset.accountsSound := fun p => by
  rw [State.reset_port]
  exact PortBlock.accountsSound_of_settled (fun a => by simp [PortBlock.reset, Cell.reset]) (by decide)
    fun al hal => by cases hal

/-- Settles O52. -/
theorem issuedNeverExceedsAllowance : Obligations.IssuedNeverExceedsAllowance := by
  refine keptByEveryStep_of (fun _ _ h => h) (fun _ _ => Update.accountsSound) fun s t hs h => ?_
  rcases h.ports with ⟨hp, _⟩ | ⟨hp, _⟩ | ⟨hp, _⟩
  · exact State.accountsSound_congr hs hp
  · exact State.accountsSound_congr (State.park_accountsSound hs) hp
  · exact State.accountsSound_congr State.reset_accountsSound hp

end Sys2Proof.Machine
end

section
/-! PROOF. Kept by every step: the ranges of the plan in force and of all that is taken from plans (R118, R135, R136,
R139). -/

namespace Sys2Proof.Machine

/-! ### Fields and clamps -/

theorem leValue_lt (bs : List Byte) : leValue bs < 256 ^ bs.length := by
  induction bs with
  | nil => exact Nat.one_pos
  | cons b bs ih =>
    have := b.isLt
    show b.toNat + 256 * leValue bs < 256 ^ (bs.length + 1)
    rw [pow_succ]
    omega

theorem field_lt (bs : List Byte) (off size : Nat) : field bs off size < 256 ^ size :=
  (leValue_lt _).trans_le (Nat.pow_le_pow_right (by decide) (List.length_take_le _ _))

theorem field24_le (bs : List Byte) (off : Nat) : field24 bs off ≤ 16777215 := by
  have : field24 bs off < 16777216 := field_lt bs off 3
  omega

theorem clampTo_le {lo hi : Nat} (h : lo ≤ hi) (v : Nat) : lo ≤ clampTo lo hi v ∧ clampTo lo hi v ≤ hi := by
  unfold clampTo; omega

/-- The epoch length used is in range (R119, R135). -/
theorem usedLength_inRange (v : Nat) : lengthInRange (usedLength v) := by
  have := clampTo_le (lo := 20) (hi := 5000) (by decide) v
  unfold lengthInRange usedLength
  omega

/-- What the layout alone says of a plan's values: the 24-bit fields. -/
structure Plan.readable (pl : Plan) : Prop where
  cnom : ∀ p, (pl.ports.get p).cnom ≤ 16777215
  shares : ∀ e ∈ pl.shares, e.floor ≤ 16777215 ∧ e.ceiling ≤ 16777215 ∧ e.burst ≤ 16777215

theorem readPlan_readable (b : List Byte) : (readPlan b).readable where
  cnom p := by
    simp only [readPlan, Tab.get_ofFn]
    exact field24_le _ _
  shares e he := by
    obtain ⟨i, _, rfl⟩ := List.mem_map.1 he
    exact ⟨field24_le _ _, field24_le _ _, field24_le _ _⟩

/-- A plan of 24-bit fields that names no cell twice is brought into range (R135). -/
theorem Plan.clamped_inRange {pl : Plan} (h : pl.readable) (hn : (pl.shares.map fun e => (e.account, e.port)).Nodup) :
    pl.clamped.inRange := by
  refine ⟨usedLength_inRange _, ?_, ?_, Nat.min_le_left _ _, fun p => ?_, fun e he => ?_, ?_⟩
  · exact (clampTo_le (by decide) _).1
  · exact (clampTo_le (by decide) _).2
  · have hc := h.cnom p
    have hq := clampTo_le (lo := 1) (hi := 4096) (by decide) (pl.ports.get p).quantum
    have hl := clampTo_le (lo := 1) (hi := 15) (by decide) (pl.ports.get p).life
    have hd := clampTo_le (lo := 1) (hi := 4) (by decide) (pl.ports.get p).depth
    simp only [Plan.clamped, Tab.get_map, PortRecord.clamped, PortRecord.values, StandbyValues.inRange]
    omega
  · obtain ⟨x, hx, rfl⟩ := List.mem_map.1 he
    have := h.shares x hx
    simp only [Share.clamped]
    omega
  · show ((pl.shares.map Share.clamped).map fun e => (e.account, e.port)).Nodup
    rw [List.map_map]
    exact hn

/-- A plan that passes the checks is staged in range (R134, R135). -/
theorem clamped_inRange_of_planFault {bytes : List Byte} {tail : Word32} (h : planFault bytes tail = none) :
    (readPlan bytes).clamped.inRange := by
  refine Plan.clamped_inRange (readPlan_readable bytes) ?_
  by_contra hn
  have hdup : duplicateCell (readPlan bytes) = true := decide_eq_true hn
  unfold planFault at h
  rw [hdup] at h
  split at h
  · cases h
  · split at h
    · cases h
    · cases h

/-! ### What is taken from plans -/

/-- The length in force and the pending one are in range. -/
def Timer.lengthsSound (t : Timer) : Prop :=
  lengthInRange t.timing.lengthUs ∧ ∀ n, t.pending = some n → lengthInRange n.lengthUs

/-- A port's standby-class values and its slot are in range. -/
def PortBlock.valuesSound (b : PortBlock) : Prop :=
  b.values.inRange ∧ ∀ d, b.deferred = some d → d.values.inRange

/-- The plan in force, the staged plan and the part's slot are in range. -/
def PlanUnit.rangesSound (u : PlanUnit) : Prop :=
  u.inForce.inRange ∧ (∀ pl, u.staged = some pl → pl.inRange) ∧
    ∀ d, u.partDeferred = some d → lengthInRange d.timing.lengthUs

theorem State.plansSound_iff (s : State) :
    s.plansSound ↔ s.plans.rangesSound ∧ (∀ p, (s.ports.get p).valuesSound) ∧ s.timer.lengthsSound := by
  unfold State.plansSound PlanUnit.rangesSound PortBlock.valuesSound Timer.lengthsSound
  tauto

theorem State.plansSound_of {s t : State} (hs : s.plansSound) (hu : s.plans.rangesSound → t.plans.rangesSound)
    (hp : ∀ p, (s.ports.get p).valuesSound → (t.ports.get p).valuesSound)
    (ht : s.timer.lengthsSound → t.timer.lengthsSound) : t.plansSound := by
  obtain ⟨h1, h2, h3⟩ := s.plansSound_iff.1 hs
  exact t.plansSound_iff.2 ⟨hu h1, fun p => hp p (h2 p), ht h3⟩

theorem PortBlock.valuesSound_congr {b b' : PortBlock} (h : b.valuesSound) (hv : b'.values = b.values)
    (hd : b'.deferred = b.deferred) : b'.valuesSound := by
  unfold PortBlock.valuesSound
  rw [hv, hd]; exact h

theorem Timer.lengthsSound_congr {t t' : Timer} (h : t.lengthsSound) (ht : t'.timing = t.timing)
    (hp : t'.pending = t.pending) : t'.lengthsSound := by
  unfold Timer.lengthsSound
  rw [ht, hp]; exact h

theorem PlanUnit.rangesSound_congr {u u' : PlanUnit} (h : u.rangesSound) (hf : u'.inForce = u.inForce)
    (hst : u'.staged = u.staged) (hd : u'.partDeferred = u.partDeferred) : u'.rangesSound := by
  unfold PlanUnit.rangesSound
  rw [hf, hst, hd]; exact h

/-- Plan unit, timer and the ports' values stand. -/
theorem State.plansSound_congr {s t : State} (hs : s.plansSound) (hf : t.plans.inForce = s.plans.inForce)
    (hst : t.plans.staged = s.plans.staged) (hd : t.plans.partDeferred = s.plans.partDeferred)
    (hv : ∀ p, (t.ports.get p).values = (s.ports.get p).values)
    (hpd : ∀ p, (t.ports.get p).deferred = (s.ports.get p).deferred) (ht : t.timer.timing = s.timer.timing)
    (htp : t.timer.pending = s.timer.pending) : t.plansSound :=
  State.plansSound_of hs (fun h => PlanUnit.rangesSound_congr h hf hst hd)
    (fun p h => PortBlock.valuesSound_congr h (hv p) (hpd p)) fun h => Timer.lengthsSound_congr h ht htp

theorem State.plansSound_modPort {s : State} {p : Port} {f : PortBlock → PortBlock} (hs : s.plansSound)
    (hf : ∀ b, (f b).values = b.values ∧ (f b).deferred = b.deferred) : (s.modPort p f).plansSound := by
  refine State.plansSound_congr hs rfl rfl rfl (fun q => ?_) (fun q => ?_) rfl rfl
  · rw [State.modPort_ports_get]; split
    · exact (hf _).1
    · rfl
  · rw [State.modPort_ports_get]; split
    · exact (hf _).2
    · rfl

theorem PortBlock.takeDeferred_valuesSound {b : PortBlock} (h : b.valuesSound) : b.takeDeferred.valuesSound := by
  unfold PortBlock.takeDeferred
  split
  · exact h
  next d hd => exact ⟨h.2 d hd, fun d h => by cases h⟩

theorem PortBlock.placeValues_valuesSound {b : PortBlock} {v : StandbyValues} (g : Word32) (h : b.valuesSound)
    (hv : v.inRange) : (b.placeValues v g).valuesSound := by
  unfold PortBlock.placeValues
  split
  · exact ⟨hv, fun d h => by cases h⟩
  · split
    · exact ⟨h.1, fun d h => by cases h⟩
    · exact ⟨h.1, fun d h => by cases h; exact hv⟩

theorem Timer.handOver_lengthsSound {t : Timer} {n : Timing} (h : t.lengthsSound) (hn : lengthInRange n.lengthUs) :
    (t.handOver n).lengthsSound := by
  refine ⟨h.1, fun m hm => ?_⟩
  simp only [Timer.handOver] at hm
  split at hm
  · cases hm
  · cases hm; exact hn

theorem Timer.makeBoundary_lengthsSound {t : Timer} (now : Moment) (e : Epoch) (due : Moment) (h : t.lengthsSound) :
    (t.makeBoundary now e due).lengthsSound := by
  rcases t.makeBoundary_cases now e due with ⟨_, e⟩ | ⟨n, hn, e⟩
  · rw [e]; exact h
  · rw [e]; exact ⟨h.2 n hn, fun m hm => by cases hm⟩

theorem Timer.start_lengthsSound {t : Timer} (now : Moment) (h : t.lengthsSound) : (t.start now).lengthsSound := by
  refine ⟨?_, fun m hm => by cases hm⟩
  show lengthInRange (t.pending.getD t.timing).lengthUs
  cases hp : t.pending with
  | none => exact h.1
  | some n => exact h.2 n hp

/-- A port's entry to STANDBY puts its slot in force, and hands the part's to the timer (R140). -/
theorem State.plansSound_standbyEntered {s : State} (p : Port) (hs : s.plansSound) : (s.standbyEntered p).plansSound := by
  unfold State.standbyEntered
  dsimp only
  have hbefore : (((s.modPort p fun _ => (s.ports.get p).rest.afterReport.takeDeferred).handOver
      (formReport p (s.ports.get p) (s.ports.get p).rest)).post
      (.portState p (s.ports.get p).mode .standby s.timer.epoch)).postAll
      ((s.ports.get p).deferredNotices p s.timer.epoch) |>.plansSound := by
    refine State.plansSound_of hs (fun h => by simpa using h) (fun q h => ?_) (fun h => by simpa using h)
    simp only [State.postAll_ports, State.post_ports, State.handOver_ports, State.modPort_ports_get]
    split
    · subst q
      exact PortBlock.takeDeferred_valuesSound (PortBlock.valuesSound_congr h rfl rfl)
    · exact h
  generalize (((s.modPort p fun _ => (s.ports.get p).rest.afterReport.takeDeferred).handOver
      (formReport p (s.ports.get p) (s.ports.get p).rest)).post
      (.portState p (s.ports.get p).mode .standby s.timer.epoch)).postAll
      ((s.ports.get p).deferredNotices p s.timer.epoch) = u at hbefore
  rcases u.takePartDeferred_cases with e | ⟨d, hd, _, e⟩
  · rw [e]; exact hbefore
  · rw [e]
    obtain ⟨⟨_, _, hpart⟩, _, _⟩ := u.plansSound_iff.1 hbefore
    refine State.plansSound_of hbefore (fun h => ?_) (fun p h => by simpa using h) fun h => ?_
    · rw [State.post_plans]; exact ⟨h.1, h.2.1, fun d h => by cases h⟩
    · rw [State.post_timer]; exact Timer.handOver_lengthsSound h (hpart d hd)

theorem State.plansSound_placeDeferred {s : State} (hs : s.plansSound) : s.placeDeferred.plansSound := by
  obtain ⟨⟨hin, hst, _⟩, hports, htimer⟩ := s.plansSound_iff.1 hs
  obtain ⟨hlen, _, _, _, hrec, _⟩ := hin
  have hp (p : Port) : (s.placeDeferred.ports.get p).valuesSound := by
    rw [State.placeDeferred_ports_get]
    exact PortBlock.placeValues_valuesSound _ (hports p) (hrec p).1
  refine s.placeDeferred.plansSound_iff.2 ⟨?_, hp, ?_⟩
  · rcases s.placeDeferred_cases with ⟨_, e⟩ | ⟨_, _, e⟩ | ⟨_, _, e⟩
    · rw [e]; exact ⟨hs.1, hst, fun d h => by cases h⟩
    · rw [e]; exact ⟨hs.1, hst, fun d h => by cases h⟩
    · rw [e]; exact ⟨hs.1, hst, fun d h => by cases h; exact hlen⟩
  · rcases s.placeDeferred_cases with ⟨_, e⟩ | ⟨_, _, e⟩ | ⟨_, _, e⟩
    · rw [e]; exact Timer.handOver_lengthsSound htimer hlen
    · rw [e]; exact htimer
    · rw [e]; exact htimer

/-- Entry to PARKED drops the staged plan. -/
theorem State.park_plansSound {s : State} (hs : s.plansSound) : s.park.plansSound :=
  State.plansSound_of hs (fun h => ⟨h.1, (fun _ h => by cases h), h.2.2⟩)
    (fun p h => by rw [State.park_ports_get]; exact h) id

theorem Update.plansSound {s t : State} (hs : s.plansSound) (h : Update s t) : t.plansSound := by
  cases h with
  | ports ps hps =>
    exact State.plansSound_congr hs rfl rfl rfl (fun p => (hps p).values) (fun p => (hps p).deferred) rfl rfl
  | unbindQueue | acceptDemand => exact State.plansSound_modPort hs fun b => ⟨by simp, by simp⟩
  | bindQueue | drain | settle | afterClose | takeChange | startAllocation | deliver | discard =>
    exact State.plansSound_modPort hs fun b => ⟨rfl, rfl⟩
  | issueGrant p l a =>
    rcases s.issueGrant_cases p l a with ⟨_, e⟩ | ⟨q, rest, _, e⟩
    · rw [e]; exact hs
    · have h := State.plansSound_modPort (p := p) (f := fun b => b.grantTo l a q rest) hs fun b => ⟨by simp, by simp⟩
      rw [e]
      exact State.plansSound_congr h (by simp) (by simp) (by simp) (by simp) (by simp) (by simp) (by simp)
  | enterStandby p => exact State.plansSound_standbyEntered p hs
  | parkIfDone =>
    rcases s.parkIfDone_or with e | ⟨_, _, _, _, e⟩ | ⟨_, _, _, _, e⟩
    · rw [e]; exact hs
    · rw [e]; exact State.park_plansSound hs
    · rw [e]
      exact State.plansSound_congr hs (by simp) (by simp) (by simp) (by simp) (by simp) (by simp) (by simp)
  | boundary now e due =>
    refine State.plansSound_of hs (fun h => ?_) (fun p h => ?_) fun h => ?_
    · rw [State.makeBoundary_plans]; exact h
    · rw [State.makeBoundary_ports_get]; exact h
    · rw [State.makeBoundary_timer]; exact Timer.makeBoundary_lengthsSound now e due h
  | plans u hu => exact State.plansSound_congr hs hu.inForce hu.staged hu.partDeferred (fun _ => rfl) (fun _ => rfl) rfl rfl
  | takePlan pl e h =>
    exact State.plansSound_of hs (fun hu => ⟨hu.2.1 pl h, (fun _ h => by cases h), hu.2.2⟩) (fun _ => id) id
  | placeDeferred => exact State.plansSound_placeDeferred hs
  | place | post | charge | reclassify | applyShares =>
    exact State.plansSound_congr hs (by simp) (by simp) (by simp) (by simp) (by simp) (by simp) (by simp)
  | resume => unfold State.resumeMemory; split <;> exact hs
  | _ => exact hs

/-- A fetch stages no plan but one that passed. -/
theorem State.finishFetch_staged (s : State) (f : Fetch) (r : FetchEnd) :
    (s.finishFetch f r).plans.staged = s.plans.staged ∨
      ∃ pl, r = .passed pl ∧ (s.finishFetch f r).plans.staged = some pl := by
  unfold State.finishFetch
  dsimp only
  split
  · cases r with
    | refused tag reason => exact .inl (by simp)
    | passed pl => exact .inr ⟨pl, rfl, rfl⟩
  · split
    · exact .inl rfl
    · exact .inl (by simp)

theorem State.reset_plansSound : State.reset.plansSound := by
  refine State.reset.plansSound_iff.2 ⟨⟨?_, (fun _ h => by cases h), (fun _ h => by cases h)⟩, fun p => ?_,
    ⟨by simp [State.reset, Timer.reset, lengthInRange], (fun _ h => by cases h)⟩⟩
  · refine ⟨by simp [State.reset, PlanUnit.reset, emptyPlan, lengthInRange], by decide, by decide, by decide, fun p => ?_,
      (fun e he => by cases he), List.nodup_nil⟩
    simp [State.reset, PlanUnit.reset, emptyPlan, PortRecord.values, StandbyValues.inRange]
  · rw [State.reset_port]
    exact ⟨by simp [PortBlock.reset, StandbyValues.inRange], fun _ h => by cases h⟩

theorem Turn.plansSound {s t : State} (hs : s.plansSound) (h : Turn s t) : t.plansSound := by
  cases h with
  | reset => exact State.reset_plansSound
  | enterRunning st hh now h =>
    refine State.plansSound_of hs (fun h => ?_) (fun p h => by simpa using h) fun h => ?_
    · exact PlanUnit.rangesSound_congr h (by simp [State.enterRunning]) (by simp [State.enterRunning])
        (by simp [State.enterRunning])
    · have ht : (s.enterRunning st hh now).timer = s.timer.start now := by
        unfold State.enterRunning
        rw [State.startPass_timer]
        show (State.showPlan _ hh).timer.start now = _
        rw [State.showPlan_timer]
      rw [ht]; exact Timer.start_lengthsSound now h
  | finishFetch f r hf hr =>
    refine State.plansSound_of hs (fun h => ?_) (fun p h => by simpa using h) (fun h => by simpa using h)
    refine ⟨by simpa using h.1, fun pl hpl => ?_, by simpa using h.2.2⟩
    rcases s.finishFetch_staged f r with e | ⟨pl', hpass, e⟩
    · exact h.2.1 pl (e ▸ hpl)
    · obtain ⟨bytes, tail, hnone, rfl⟩ := hr pl' hpass
      rw [e] at hpl
      cases hpl
      exact clamped_inRange_of_planFault hnone
  | partHalfFinal | lastSignal => exact State.park_plansSound hs
  | enterFaulted r =>
    unfold State.enterFaulted
    dsimp only
    split
    · exact State.park_plansSound hs
    · exact hs
  | noticeWritten | firstWritten | reportWritten | signalNext | partHalfNext =>
    exact State.plansSound_congr hs (by simp) (by simp) (by simp) (by simp) (by simp) (by simp) (by simp)
  | completeRead r hh =>
    have hplans : (s.completeRead r hh).plans.inForce = s.plans.inForce ∧
        (s.completeRead r hh).plans.staged = s.plans.staged ∧
        (s.completeRead r hh).plans.partDeferred = s.plans.partDeferred := by
      unfold State.completeRead State.takeHostHalf
      dsimp only
      split <;> simp
    exact State.plansSound_congr hs hplans.1 hplans.2.1 hplans.2.2 (by simp) (by simp) (by simp) (by simp)
  | _ => exact hs

/-- Settles O56. -/
theorem planValuesStayInRange : Obligations.PlanValuesStayInRange :=
  keptByEveryStep_of (fun _ _ h => h) (fun _ _ => Update.plansSound) fun _ _ => Turn.plansSound

end Sys2Proof.Machine
end

section
/-! PROOF. Kept by every step: which accesses to host memory may be in flight, and that every port rests while the part is
PARKED, starting or parking (R40, R147, R148, 10.1). -/

namespace Sys2Proof.Machine

/-! ### The memory side's work -/

/-- The memory side's accesses, passes and counts stand; notices, slots, indications and statement counts may differ. -/
structure MemSide.SameWork (m m' : MemSide) : Prop where
  mode : m'.mode = m.mode
  journalBase : m'.journalBase = m.journalBase
  capacity : m'.capacity = m.capacity
  produced : m'.produced = m.produced
  consumed : m'.consumed = m.consumed
  statement : m'.statement = m.statement
  read : m'.read = m.read
  abandoned : m'.abandoned = m.abandoned
  pass : m'.pass = m.pass
  passQueue : m'.passQueue = m.passQueue
  journalWrite : m'.journalWrite = m.journalWrite
  partHalf : m'.partHalf = m.partHalf
  writesOwed : m'.writesOwed = m.writesOwed
  signalWrites : m'.signalWrites = m.signalWrites

theorem MemSide.SameWork.refl (m : MemSide) : m.SameWork m := by constructor <;> rfl

theorem MemSide.SameWork.of_eq {m m' : MemSide} (h : m' = m) : m.SameWork m' := h ▸ .refl m

theorem State.post_sameWork (s : State) (n : Notice) : s.mem.SameWork (s.post n).mem := by
  unfold State.post
  split <;> constructor <;> rfl

theorem State.post_sameWork_of_mem {s u : State} (h : u.mem = s.mem) (n : Notice) : s.mem.SameWork (u.post n).mem :=
  h ▸ u.post_sameWork n

theorem State.handOver_sameWork (s : State) (r : Report) : s.mem.SameWork (s.handOver r).mem := by
  constructor <;> rfl

theorem State.charge_sameWork (s : State) (a : Account) (n : Nat) (sched : List Port) :
    s.mem.SameWork (s.charge a n sched).mem := by
  rcases s.charge_cases a n sched with ⟨_, e⟩ | ⟨_, _, e⟩ | ⟨_, ⟨e, _⟩ | e⟩
  · rw [e]; exact .refl _
  · rw [e, State.enterCutOff_mem]
    refine State.post_sameWork_of_mem ?_ _
    rfl
  · rw [e]; exact .refl _
  · rw [e]; refine State.post_sameWork_of_mem ?_ _; rfl

theorem State.standbyEntered_sameWork (s : State) (p : Port) : s.mem.SameWork (s.standbyEntered p).mem := by
  constructor <;> simp [State.standbyEntered]

theorem MemSide.SameWork.idle {m m' : MemSide} (h : m.SameWork m') (hi : m.idle) : m'.idle := by
  unfold MemSide.idle at *
  rw [h.read, h.abandoned, h.statement, h.journalWrite, h.partHalf, h.signalWrites, h.pass, h.passQueue]
  exact hi

theorem MemSide.SameWork.finalWork {m m' : MemSide} (h : m.SameWork m') (hf : m'.finalWork) : m.finalWork := by
  unfold MemSide.finalWork at *
  rw [h.writesOwed, h.partHalf, h.signalWrites, h.pass, h.passQueue] at hf
  exact hf

/-! ### Accesses in flight (O57) -/

/-- No access to host memory is in flight but the read of STARTING. -/
def State.quietPart (s : State) : Prop := s.mem.idle ∧ s.plans.fetch = none

theorem MemSide.quiet_idle (m : MemSide) : m.quiet.idle := ⟨rfl, rfl, rfl, rfl, rfl, rfl, rfl, rfl⟩

theorem State.park_accessSound (s : State) : s.park.accessSound :=
  ⟨(fun h => by cases h), (fun h => by cases h), fun _ => ⟨s.mem.quiet_idle, rfl⟩⟩

/-- A part that is RUNNING or STOPPING, with its memory side SERVING. -/
theorem State.accessSound_of_busy {s : State} (hm : s.win.mode = .running ∨ s.win.mode = .stopping)
    (hs : s.mem.mode = .serving) : s.accessSound := by
  refine ⟨fun _ => hm, fun _ => hs, fun h => ?_⟩
  rw [hs] at h
  rcases hm with hm | hm <;> rw [hm] at h <;> rcases h with h | h | h <;> cases h

/-- With something in flight the part is RUNNING or STOPPING and its memory side SERVING. -/
theorem State.accessSound_busy {s : State} (hs : s.accessSound) (hb : ¬s.quietPart) :
    (s.win.mode = .running ∨ s.win.mode = .stopping) ∧ s.mem.mode = .serving := by
  obtain ⟨_, _, hquiet⟩ := hs
  have hq : ¬(s.win.mode = .parked ∨ s.win.mode = .starting ∨ s.mem.mode = .faulted) := fun h => hb (hquiet h)
  cases hw : s.win.mode <;> cases hm : s.mem.mode <;> simp_all

theorem State.accessSound_congr {s t : State} (hs : s.accessSound) (hm : t.win.mode = s.win.mode)
    (hmm : t.mem.mode = s.mem.mode) (hr : t.timer.running = s.timer.running) (hq : s.quietPart → t.quietPart) :
    t.accessSound := by
  obtain ⟨hrun, hstart, hquiet⟩ := hs
  unfold State.accessSound
  rw [hm, hmm, hr]
  exact ⟨hrun, hstart, fun h => hq (hquiet h)⟩

/-- Something was in flight, and part state and memory state stand. -/
theorem State.accessSound_of_access {s t : State} (hs : s.accessSound) (hb : ¬s.quietPart) (hm : t.win.mode = s.win.mode)
    (hmm : t.mem.mode = s.mem.mode) : t.accessSound := by
  obtain ⟨hmode, hserving⟩ := State.accessSound_busy hs hb
  exact State.accessSound_of_busy (hm ▸ hmode) (hmm ▸ hserving)

/-- A boundary starts a read in a SERVING memory side alone. -/
theorem State.makeBoundary_quietPart {s : State} (now : Moment) (e : Epoch) (due : Moment) (hm : s.mem.mode = .faulted)
    (h : s.quietPart) : (s.makeBoundary now e due).quietPart := by
  have hmem : ∀ m : MemSide, m.mode = .faulted → m.readAtBoundary = m := fun m hm => by
    unfold MemSide.readAtBoundary
    rw [if_neg (by rw [hm]; decide)]
  have hw : (s.makeBoundary now e due).mem = { s.mem with stmtOwed := s.mem.stmtOwed ++ [e] } := by
    unfold State.makeBoundary State.writeAbandoned
    rw [if_neg]
    · show { s.mem.readAtBoundary with stmtOwed := s.mem.stmtOwed ++ [e] } = _
      rw [hmem _ hm]
    · show ¬(s.mem.readAtBoundary.mode = .serving ∧ _)
      rw [hmem _ hm, hm]
      exact fun h => by cases h.1
  unfold State.quietPart
  rw [hw, State.makeBoundary_plans]
  exact h

theorem Update.accessSound {s t : State} (hs : s.accessSound) (h : Update s t) : t.accessSound := by
  cases h with
  | window w hm hp => exact State.accessSound_congr hs hm rfl rfl id
  | enterStarting w h hm hp =>
    obtain ⟨hrun, _, hquiet⟩ := hs
    refine ⟨fun hr => ?_, fun _ => rfl, fun _ => hquiet (.inl h)⟩
    rcases hrun hr with h' | h' <;> rw [h] at h' <;> cases h'
  | leaveStarting r h =>
    obtain ⟨hrun, _, hquiet⟩ := hs
    refine ⟨fun hr => ?_, (fun h => by cases h), fun _ => hquiet (.inr (.inl h))⟩
    rcases hrun hr with h' | h' <;> rw [h] at h' <;> cases h'
  | returnToRunning w h hn hm hp =>
    obtain ⟨_, _, hquiet⟩ := hs
    refine ⟨fun _ => .inl hm, (fun h => by rw [hm] at h; cases h), fun hq => hquiet ?_⟩
    rw [hm] at hq
    rcases hq with hq | hq | hq
    · cases hq
    · cases hq
    · exact .inr (.inr hq)
  | enterStopping w h hm hp =>
    obtain ⟨_, _, hquiet⟩ := hs
    refine ⟨fun _ => .inr hm, (fun h => by rw [hm] at h; cases h), fun hq => hquiet ?_⟩
    rw [hm] at hq
    rcases hq with hq | hq | hq
    · cases hq
    · cases hq
    · exact .inr (.inr hq)
  | resume h =>
    unfold State.resumeMemory
    split
    · exact State.accessSound_of_busy (.inl h) rfl
    · exact hs
  | parkIfDone =>
    rcases s.parkIfDone_or with e | ⟨_, _, _, _, e⟩ | ⟨hm, _, _, hserving, e⟩
    · rw [e]; exact hs
    · rw [e]; exact s.park_accessSound
    · rw [e]
      exact State.accessSound_of_busy (.inr (by rw [State.startPass_win]; exact hm))
        (by rw [State.startPass_mem_mode]; exact hserving)
  | boundary now e due h =>
    have hmode := hs.1 h
    cases hm : s.mem.mode with
    | serving => exact State.accessSound_of_busy (by simpa using hmode) (by simpa using hm)
    | faulted =>
      exact State.accessSound_congr hs (by simp) (by simp) (by simp) (State.makeBoundary_quietPart now e due hm)
  | plans u hu => exact State.accessSound_congr hs rfl rfl rfl fun h => ⟨h.1, hu.fetch.trans h.2⟩
  | post n => exact State.accessSound_congr hs (by simp) (by simp) (by simp) fun h => ⟨(s.post_sameWork n).idle h.1, by simpa using h.2⟩
  | charge a n sched =>
    have hw := s.charge_sameWork a n sched
    exact State.accessSound_congr hs (by simp) hw.mode (by simp) fun h => ⟨hw.idle h.1, by simpa using h.2⟩
  | enterStandby p =>
    have hw := s.standbyEntered_sameWork p
    exact State.accessSound_congr hs (by simp [State.standbyEntered]) hw.mode (by simp [State.standbyEntered])
      fun h => ⟨hw.idle h.1, by simpa [State.standbyEntered] using h.2⟩
  | place | issueGrant =>
    exact State.accessSound_congr hs (by simp) (by simp) (by simp) fun h => by simpa [State.quietPart] using h
  | placeDeferred =>
    refine State.accessSound_congr hs (by simp) (by simp) (by simp) fun h => ⟨by simpa using h.1, ?_⟩
    rcases s.placeDeferred_cases with ⟨_, e⟩ | ⟨_, _, e⟩ | ⟨_, _, e⟩ <;> rw [e] <;> exact h.2
  | _ => exact hs

theorem Turn.accessSound {s t : State} (hs : s.accessSound) (h : Turn s t) : t.accessSound := by
  cases h with
  | stay => exact hs
  | reset lo hi =>
    exact ⟨(fun h => by cases h), (fun h => by cases h), fun _ => ⟨⟨rfl, rfl, rfl, rfl, rfl, rfl, rfl, rfl⟩, rfl⟩⟩
  | leaveStarting r h => exact (Update.leaveStarting r h).accessSound hs
  | enterRunning st hh now h =>
    exact State.accessSound_of_busy (.inl (by simp [State.enterRunning]))
      (by simpa [State.enterRunning, MemSide.restart] using hs.2.1 h)
  | dropRead =>
    refine State.accessSound_congr hs rfl rfl rfl fun ⟨⟨hread, habandoned, hrest⟩, hf⟩ => ⟨⟨hread, ?_, hrest⟩, hf⟩
    show s.mem.abandoned - 1 = 0
    rw [habandoned]
  | completeRead r hh h =>
    refine State.accessSound_of_access hs (fun hq => by rw [hq.1.1] at h; cases h) (by simp) ?_
    unfold State.completeRead State.takeHostHalf MemSide.rearm MemSide.takeConsumed
    dsimp only
    rw [State.startPass_mem_mode]
    split
    · rw [State.post_mem_mode]; split <;> split <;> simp
    · split <;> split <;> simp
  | keepFetching f data h => exact State.accessSound_of_access hs (fun hq => by rw [hq.2] at h; cases h) rfl rfl
  | finishFetch f r h hr =>
    exact State.accessSound_of_access hs (fun hq => by rw [hq.2] at h; cases h) (by simp) (by simp)
  | noticeWritten w n h hi =>
    refine State.accessSound_of_access hs (fun hq => by rw [hq.1.2.2.2.1] at h; cases h) (by simp) ?_
    rw [State.pump_mem_mode]
    unfold State.noticeWritten; dsimp only; split <;> rfl
  | firstWritten w p r h hi =>
    refine State.accessSound_of_access hs (fun hq => by rw [hq.1.2.2.2.1] at h; cases h) (by simp) ?_
    unfold State.firstWritten; dsimp only; split <;> simp
  | reportWritten w p r h hi =>
    refine State.accessSound_of_access hs (fun hq => by rw [hq.1.2.2.2.1] at h; cases h) (by simp) ?_
    rw [State.pump_mem_mode]; rfl
  | signalFinal w h hf =>
    exact State.accessSound_of_access hs (fun hq => by rw [hq.1.2.2.2.2.1] at h; cases h) rfl rfl
  | signalNext w h hf =>
    refine State.accessSound_of_access hs (fun hq => by rw [hq.1.2.2.2.2.1] at h; cases h) (by simp) ?_
    rw [State.issueOwed_mem_mode]; rfl
  | partHalfFinal w h hf => exact State.park_accessSound _
  | partHalfNext w h hf =>
    exact State.accessSound_of_access hs (fun hq => by rw [hq.1.2.2.2.2.1] at h; cases h) (by simp) (by simp)
  | lastSignal w rest h hf => exact State.park_accessSound _
  | signal w rest h hf =>
    exact State.accessSound_of_access hs (fun hq => by rw [hq.1.2.2.2.2.2.1] at h; cases h) rfl rfl
  | countStatement => exact hs
  | beginStatement owed n e ha hm =>
    have hact : s.win.mode = .running ∨ s.win.mode = .stopping := by simpa [State.active] using ha
    exact State.accessSound_of_busy hact hm
  | nextUsage st step n h =>
    exact State.accessSound_of_access hs (fun hq => by rw [hq.1.2.2.1] at h; cases h) rfl rfl
  | endStatement =>
    exact State.accessSound_congr hs rfl rfl rfl fun ⟨⟨hread, hab, _, hrest⟩, hf⟩ => ⟨⟨hread, hab, rfl, hrest⟩, hf⟩
  | enterFaulted r ha hm =>
    have hact : s.win.mode = .running ∨ s.win.mode = .stopping := by simpa [State.active] using ha
    unfold State.enterFaulted
    dsimp only
    split
    · exact State.park_accessSound _
    · refine ⟨fun _ => hact, fun h => ?_, fun _ => ⟨⟨rfl, rfl, rfl, rfl, rfl, rfl, rfl, rfl⟩, rfl⟩⟩
      rcases hact with h' | h' <;> rw [show s.win.mode = .starting from h] at h' <;> cases h'

/-- Settles O57. -/
theorem noAccessInParkedOrFaulted : Obligations.NoAccessInParkedOrFaulted :=
  keptByEveryStep_of (fun _ _ h => h) (fun _ _ => Update.accessSound) fun _ _ => Turn.accessSound

end Sys2Proof.Machine
end

section
/-! PROOF. Kept by every step: every port rests while the part is PARKED, starting or parking, and what parking issues is in
flight only while it is under way (R40, R147). -/

namespace Sys2Proof.Machine

/-! ### The work of parking -/

/-- Of parking's work it is decided by five fields of the memory side. -/
theorem MemSide.finalWork_congr {m m' : MemSide} (h : m'.finalWork) (hw : m'.writesOwed = m.writesOwed)
    (hp : m'.partHalf = m.partHalf) (hs : m'.signalWrites = m.signalWrites) (hpass : m'.pass = m.pass)
    (hq : m'.passQueue = m.passQueue) : m.finalWork := by
  unfold MemSide.finalWork at *
  rw [hw, hp, hs, hpass, hq] at h
  exact h

theorem MemSide.quiet_finalWork (m : MemSide) : ¬m.quiet.finalWork := by
  simp [MemSide.finalWork, MemSide.quiet]

/-- A part-half write that falls due is the final one only where it is said to be. -/
theorem State.duePartHalf_finalWork {s : State} {final : Bool} (h : (s.duePartHalf final).mem.finalWork) :
    final = true ∨ s.mem.finalWork := by
  unfold State.duePartHalf at h
  split at h
  · exact .inr h
  · split at h
    · unfold MemSide.finalWork at h
      rcases h with h | ⟨w, hw, hf⟩ | h
      · exact .inr (.inl h)
      · exact .inl (by rw [← Option.some.inj hw] at hf; exact hf)
      · exact .inr (.inr (.inr h))
    · unfold MemSide.finalWork at h
      rcases h with h | h
      · rcases List.mem_append.1 h with h | h
        · exact .inr (.inl h)
        · exact .inl (List.mem_singleton.1 h).symm
      · exact .inr (.inr h)

/-- The end of a pass makes the final part-half write only after parking's pass (R147). -/
theorem State.endPass_finalWork {s : State} {o : Occasion} (h : (s.endPass o).mem.finalWork) :
    o = .parking ∨ s.mem.finalWork := by
  have hnone (h : MemSide.finalWork { s.mem with pass := none }) : s.mem.finalWork := by
    unfold MemSide.finalWork at *
    rcases h with h | h | h | ⟨x, hx, _⟩ | h
    · exact .inl h
    · exact .inr (.inl h)
    · exact .inr (.inr (.inl h))
    · cases hx
    · exact .inr (.inr (.inr (.inr h)))
  unfold State.endPass at h
  dsimp only at h
  split at h
  · rcases State.duePartHalf_finalWork h with h | h
    · exact .inl (of_decide_eq_true h)
    · exact .inr (hnone h)
  · exact .inr (hnone h)

/-- The journal writer that goes on makes no work of parking anew. -/
theorem State.pump_finalWork {s : State} (h : s.pump.mem.finalWork) : s.mem.finalWork := by
  unfold State.pump at h
  revert h
  refine pumpPasses_induct (P := fun t => t.mem.finalWork → s.mem.finalWork) (fun t pass hp _ ih h => ?_)
    (fun t o os hn hq ih h => ih ?_) (fun t pass item hp _ ih h => ih ?_) _ s id
  · rcases State.endPass_finalWork h with ho | h
    · exact ih (.inr (.inr (.inr (.inl ⟨pass, hp, ho⟩))))
    · exact ih h
  · unfold MemSide.finalWork at h ⊢
    rcases h with h | h | h | ⟨x, hx, ho⟩ | h
    · exact .inl h
    · exact .inr (.inl h)
    · exact .inr (.inr (.inl h))
    · cases hx
      exact .inr (.inr (.inr (.inr (by rw [hq]; exact ho ▸ List.mem_cons_self))))
    · exact .inr (.inr (.inr (.inr (by rw [hq]; exact List.mem_cons_of_mem _ h))))
  · unfold MemSide.finalWork at h ⊢
    rcases h with h | h | h | ⟨x, hx, ho⟩ | h
    · exact .inl h
    · exact .inr (.inl h)
    · exact .inr (.inr (.inl h))
    · cases hx
      exact .inr (.inr (.inr (.inl ⟨pass, hp, ho⟩)))
    · exact .inr (.inr (.inr (.inr h)))

/-- A pass that falls due is parking's only where it is said to be. -/
theorem State.startPass_finalWork {s : State} {o : Occasion} (h : (s.startPass o).mem.finalWork) :
    o = .parking ∨ s.mem.finalWork := by
  have hadd (h : MemSide.finalWork { s.mem with passQueue := s.mem.passQueue ++ [o] }) :
      o = .parking ∨ s.mem.finalWork := by
    unfold MemSide.finalWork at h ⊢
    rcases h with h | h | h | h | h
    · exact .inr (.inl h)
    · exact .inr (.inr (.inl h))
    · exact .inr (.inr (.inr (.inl h)))
    · exact .inr (.inr (.inr (.inr (.inl h))))
    · rcases List.mem_append.1 h with h | h
      · exact .inr (.inr (.inr (.inr (.inr h))))
      · exact .inl (List.mem_singleton.1 h).symm
  unfold State.startPass at h
  dsimp only at h
  split at h
  · exact hadd (State.pump_finalWork h)
  · exact hadd h

/-- The part-half write issued next was waiting. -/
theorem State.issueOwed_finalWork {s : State} (h : s.issueOwed.mem.finalWork) : s.mem.finalWork := by
  rcases s.issueOwed_cases with ⟨_, e⟩ | ⟨final, rest, hw, e⟩
  · rwa [e] at h
  · rw [e] at h
    unfold MemSide.finalWork at h ⊢
    rw [hw]
    rcases h with h | ⟨w, hpart, hf⟩ | h
    · exact .inl (List.mem_cons_of_mem _ h)
    · rw [← Option.some.inj hpart] at hf
      exact .inl (by rw [show final = true from hf]; exact List.mem_cons_self)
    · exact .inr (.inr h)

theorem State.makeBoundary_finalWork {s : State} {now : Moment} {e : Epoch} {due : Moment}
    (h : (s.makeBoundary now e due).mem.finalWork) : s.mem.finalWork := by
  have hread (h : MemSide.finalWork { s.mem.readAtBoundary with stmtOwed := s.mem.stmtOwed ++ [e] }) : s.mem.finalWork := by
    unfold MemSide.readAtBoundary at h
    split at h <;> exact MemSide.finalWork_congr h rfl rfl rfl rfl rfl
  unfold State.makeBoundary State.writeAbandoned at h
  split at h
  · rcases State.duePartHalf_finalWork h with h | h
    · cases h
    · exact hread h
  · exact hread h

/-! ### Every port rests (O58) -/

/-- The states in which every port is in STANDBY. -/
def Window.resting (w : Window) : Prop := w.mode = .parked ∨ w.mode = .starting ∨ w.parking = true

theorem State.parkSound_iff (s : State) :
    s.parkSound ↔ (s.win.resting → ∀ p, (s.ports.get p).mode = .standby) ∧
      (s.win.parking = true → s.win.mode = .stopping) ∧ (s.mem.finalWork → s.win.parking = true) := Iff.rfl

/-- The part state stands, no port leaves STANDBY while the part rests, and no work of parking comes about. -/
theorem State.parkSound_of {s t : State} (hs : s.parkSound) (hw : t.win = s.win)
    (hm : s.win.resting → (∀ p, (s.ports.get p).mode = .standby) → ∀ p, (t.ports.get p).mode = .standby)
    (hf : t.mem.finalWork → s.mem.finalWork) : t.parkSound := by
  obtain ⟨hrest, hstop, hfinal⟩ := hs
  refine (State.parkSound_iff t).2 ?_
  rw [hw]
  exact ⟨fun h => hm h (hrest h), hstop, fun h => hfinal (hf h)⟩

/-- One port is written that stays in STANDBY while the part rests. -/
theorem State.parkSound_modPort {s : State} {p : Port} {f : PortBlock → PortBlock} (hs : s.parkSound)
    (hf : s.win.resting → (s.ports.get p).mode = .standby → (f (s.ports.get p)).mode = .standby) :
    (s.modPort p f).parkSound := by
  refine State.parkSound_of hs rfl (fun hr hall q => ?_) id
  rw [State.modPort_ports_get]
  split
  · subst q; exact hf hr (hall p)
  · exact hall q

/-- A new part state in which nothing rests and nothing parks. -/
theorem State.parkSound_of_free {s t : State} (hs : s.parkSound) (hp : s.win.parking = false) (hw : ¬t.win.resting)
    (hf : t.mem.finalWork → s.mem.finalWork) : t.parkSound := by
  have hpark : t.win.parking ≠ true := fun h => hw (.inr (.inr h))
  refine (State.parkSound_iff t).2 ⟨fun h => absurd h hw, fun h => absurd h hpark, fun h => ?_⟩
  have := hs.2.2 (hf h)
  rw [hp] at this; cases this

/-- Parking is under way in STOPPING alone. -/
theorem State.parkSound_parking {s : State} (hs : s.parkSound) (hm : s.win.mode ≠ .stopping) : s.win.parking = false :=
  Bool.eq_false_iff.2 fun h => hm (hs.2.1 h)

theorem State.park_parkSound {s : State} (h : ∀ p, (s.ports.get p).mode = .standby) : s.park.parkSound :=
  (State.parkSound_iff _).2 ⟨fun _ p => by rw [State.park_ports_get]; exact h p, (fun h => by cases h),
    fun h => absurd h s.mem.quiet_finalWork⟩

theorem State.allStandby_iff (s : State) : s.allStandby = true ↔ ∀ p, (s.ports.get p).mode = .standby := by
  unfold State.allStandby
  rw [Tab.all_cells]
  simp

theorem Update.parkSound {s t : State} (hs : s.parkSound) (h : Update s t) : t.parkSound := by
  cases h with
  | window w hm hp =>
    obtain ⟨hrest, hstop, hfinal⟩ := hs
    refine (State.parkSound_iff _).2 ⟨fun h => hrest ?_, fun h => hm.trans (hstop (hp ▸ h)), fun h => hp.trans (hfinal h)⟩
    unfold Window.resting at h
    rwa [hm, hp] at h
  | enterStarting w h hm hp =>
    have hpark := State.parkSound_parking hs (by rw [h]; decide)
    refine (State.parkSound_iff _).2 ⟨fun _ => hs.1 (.inl h), fun h' => ?_, fun h' => ?_⟩
    · rw [show w.parking = false from hp.trans hpark] at h'; cases h'
    · exact hp.trans (hs.2.2 (MemSide.finalWork_congr h' rfl rfl rfl rfl rfl))
  | leaveStarting r h =>
    exact (State.parkSound_iff _).2 ⟨fun _ => hs.1 (.inr (.inl h)),
      fun h' => absurd h' (by rw [show (s.leaveStarting r).win.parking = s.win.parking from rfl,
        State.parkSound_parking hs (by rw [h]; decide)]; decide), hs.2.2⟩
  | returnToRunning w h hn hm hp =>
    refine State.parkSound_of_free hs hn (fun hr => ?_) id
    unfold Window.resting at hr
    rw [show w.mode = .running from hm, show w.parking = false from hp.trans hn] at hr
    simp at hr
  | resume h =>
    unfold State.resumeMemory
    split
    · exact State.parkSound_of hs rfl (fun _ h => h) fun h => MemSide.finalWork_congr h rfl rfl rfl rfl rfl
    · exact hs
  | enterStopping w h hm hp =>
    have hn := State.parkSound_parking hs (by rw [h]; decide)
    refine State.parkSound_of_free hs hn (fun hr => ?_) id
    unfold Window.resting at hr
    rw [show w.mode = .stopping from hm, show w.parking = false from hp.trans hn] at hr
    simp at hr
  | parkIfDone =>
    rcases s.parkIfDone_or with e | ⟨_, hall, _, _, e⟩ | ⟨hm, hall, _, _, e⟩
    · rw [e]; exact hs
    · rw [e]; exact State.park_parkSound (s.allStandby_iff.1 hall)
    · rw [e]
      refine (State.parkSound_iff _).2 ⟨fun _ p => ?_, fun _ => ?_, fun _ => ?_⟩
      · rw [State.startPass_ports]; exact s.allStandby_iff.1 hall p
      · rw [State.startPass_win]; exact hm
      · rw [State.startPass_win]
  | post n => exact State.parkSound_of hs (by simp) (fun _ h => by simpa using h) (s.post_sameWork n).finalWork
  | handOver r => exact State.parkSound_of hs rfl (fun _ h => h) (s.handOver_sameWork r).finalWork
  | charge a n sched =>
    exact State.parkSound_of hs (by simp) (fun _ h => by simpa using h) (s.charge_sameWork a n sched).finalWork
  | ports ps hps => exact State.parkSound_of hs rfl (fun _ h p => (hps p).mode.trans (h p)) id
  | unbindQueue | acceptDemand => exact State.parkSound_modPort hs fun _ h => by simpa using h
  | bindQueue | settle | startAllocation | discard => exact State.parkSound_modPort hs fun _ h => h
  | issueGrant p l a =>
    refine State.parkSound_of hs (by simp) (fun _ h q => ?_) (by simp)
    rcases s.issueGrant_cases p l a with ⟨_, e⟩ | ⟨_, _, _, e⟩
    · rw [e]; exact h q
    · rw [e, State.modConduct_ports, State.place_ports, State.modPort_ports_get]
      split
      · rw [PortBlock.grantTo_mode]; exact h q
      · exact h q
  | drain p hm => exact State.parkSound_modPort hs fun _ h => by rw [h] at hm; rcases hm with hm | hm <;> cases hm
  | enterStandby p =>
    refine State.parkSound_of hs (by simp [State.standbyEntered]) (fun _ h q => ?_) (s.standbyEntered_sameWork p).finalWork
    rw [State.standbyEntered_ports, State.modPort_ports_get]
    split
    · simp
    · exact h q
  | afterClose p e rest hm => exact State.parkSound_modPort hs fun _ h => absurd h hm
  | takeChange p e rest m ho hr hm =>
    refine State.parkSound_modPort hs fun hrest h => ?_
    rcases hm with ⟨hm, _⟩ | ⟨_, hrun⟩
    · exact hm.trans h
    · have hrun := hrun h
      rcases hrest with hrest | hrest | hrest
      · rw [hrun] at hrest; cases hrest
      · rw [hrun] at hrest; cases hrest
      · rw [hs.2.1 hrest] at hrun; cases hrun
  | deliver p al hf hm => exact State.parkSound_modPort hs fun _ h => by rw [h] at hm; cases hm
  | boundary now e due h =>
    exact State.parkSound_of hs (by simp) (fun _ h p => by simpa using h p) State.makeBoundary_finalWork
  | reclassify | applyShares => exact State.parkSound_of hs rfl (fun _ h p => by simpa using h p) id
  | place | placeDeferred => exact State.parkSound_of hs (by simp) (fun _ h p => by simpa using h p) (by simp)
  | _ => exact hs

theorem State.noticeWritten_finalWork {s : State} {n : Notice} {c : Word32} (h : (s.noticeWritten n c).mem.finalWork) :
    s.mem.finalWork := by
  unfold State.noticeWritten State.recordDone at h
  dsimp only at h
  split at h <;> exact MemSide.finalWork_congr h rfl rfl rfl rfl rfl

/-- The pass under way goes on, or its occasion's part-half write is due. -/
theorem State.firstWritten_finalWork {s : State} {p : Port} {r : Report} {c : Word32}
    (h : (s.firstWritten p r c).mem.finalWork) : s.mem.finalWork := by
  unfold State.firstWritten at h
  dsimp only at h
  split at h
  · exact MemSide.finalWork_congr h rfl rfl rfl rfl rfl
  · rcases State.endPass_finalWork (State.pump_finalWork h) with ho | h
    · cases hp : s.mem.pass with
      | none => rw [hp] at ho; cases ho
      | some x => rw [hp] at ho; exact .inr (.inr (.inr (.inl ⟨x, hp, ho⟩)))
    · exact MemSide.finalWork_congr h rfl rfl rfl rfl rfl

theorem State.reportWritten_finalWork {s : State} {p : Port} (h : (s.reportWritten p).mem.finalWork) : s.mem.finalWork := by
  unfold MemSide.finalWork at h ⊢
  rcases h with h | h | h | ⟨x, hx, ho⟩ | h
  · exact .inl h
  · exact .inr (.inl h)
  · exact .inr (.inr (.inl h))
  · obtain ⟨y, hy, rfl⟩ := Option.map_eq_some_iff.1 (show s.mem.pass.map _ = some x from hx)
    exact .inr (.inr (.inr (.inl ⟨y, hy, ho⟩)))
  · exact .inr (.inr (.inr (.inr h)))

theorem State.completeRead_finalWork {s : State} {r : HostRead} {hh : HostHalf}
    (h : (s.completeRead r hh).mem.finalWork) : s.mem.finalWork := by
  have htake (h : ({ s with mem := { s.mem with read := none } }.takeHostHalf hh).mem.finalWork) : s.mem.finalWork := by
    unfold State.takeHostHalf MemSide.rearm MemSide.takeConsumed at h
    dsimp only at h
    split at h <;> split at h <;>
      exact MemSide.finalWork_congr h (by simp) (by simp) (by simp) (by simp) (by simp)
  unfold State.completeRead at h
  dsimp only at h
  rcases State.startPass_finalWork h with ho | h
  · split at ho <;> cases ho
  · split at h
    · exact htake ((State.post_sameWork _ _).finalWork h)
    · exact htake h

theorem Turn.parkSound {s t : State} (hs : s.parkSound) (h : Turn s t) : t.parkSound := by
  cases h with
  | stay => exact hs
  | reset lo hi =>
    refine (State.parkSound_iff _).2 ⟨fun _ p => ?_, (fun h => by cases h), fun h => ?_⟩
    · show (State.reset.ports.get p).mode = _
      rw [State.reset_port]; rfl
    · exact absurd h (by simp [MemSide.finalWork, State.reset, MemSide.reset])
  | leaveStarting r h => exact (Update.leaveStarting r h).parkSound hs
  | enterRunning st hh now h =>
    have hn := State.parkSound_parking hs (by rw [h]; decide)
    refine State.parkSound_of_free hs hn (fun hr => ?_) fun hf => ?_
    · simp [Window.resting, State.enterRunning, hn] at hr
    · unfold State.enterRunning at hf
      rcases State.startPass_finalWork hf with ho | hf
      · cases ho
      · exact MemSide.finalWork_congr hf (by simp [MemSide.restart]) (by simp [MemSide.restart]) (by simp [MemSide.restart])
          (by simp [MemSide.restart]) (by simp [MemSide.restart])
  | completeRead r hh => exact State.parkSound_of hs (by simp) (fun _ h p => by simpa using h p) State.completeRead_finalWork
  | finishFetch f r =>
    exact State.parkSound_of hs (by simp) (fun _ h p => by simpa using h p) fun h =>
      MemSide.finalWork_congr h (by simp) (by simp) (by simp) (by simp) (by simp)
  | noticeWritten w n =>
    exact State.parkSound_of hs (by simp) (fun _ h p => by simpa using h p) fun h =>
      State.noticeWritten_finalWork (State.pump_finalWork h)
  | firstWritten w p r => exact State.parkSound_of hs (by simp) (fun _ h p => by simpa using h p) State.firstWritten_finalWork
  | reportWritten w p r =>
    exact State.parkSound_of hs (by simp) (fun _ h p => by simpa using h p) fun h =>
      State.reportWritten_finalWork (State.pump_finalWork h)
  | signalFinal w h hf =>
    have hpark := hs.2.2 (.inr (.inl ⟨w, h, hf⟩))
    exact (State.parkSound_iff _).2 ⟨hs.1, hs.2.1, fun _ => hpark⟩
  | signalNext w h hf =>
    refine State.parkSound_of hs (by simp) (fun _ h p => by simpa using h p) fun h' => ?_
    have h' := State.issueOwed_finalWork h'
    unfold MemSide.finalWork at h' ⊢
    rcases h' with h' | ⟨x, hx, _⟩ | ⟨x, hx, hfx⟩ | h'
    · exact .inl h'
    · cases hx
    · rcases List.mem_append.1 (show x ∈ s.mem.signalWrites ++ _ from hx) with hx | hx
      · exact .inr (.inr (.inl ⟨x, hx, hfx⟩))
      · rw [List.mem_singleton.1 hx] at hfx
        rw [show w.final = true from hfx] at hf; cases hf
    · exact .inr (.inr (.inr h'))
  | partHalfFinal w h hf =>
    exact State.park_parkSound (hs.1 (.inr (.inr (hs.2.2 (.inr (.inl ⟨w, h, hf⟩))))))
  | partHalfNext w h hf =>
    refine State.parkSound_of hs (by simp) (fun _ h p => by simpa using h p) fun h' => ?_
    have h' := State.issueOwed_finalWork h'
    unfold MemSide.finalWork at h' ⊢
    rcases h' with h' | ⟨x, hx, _⟩ | h'
    · exact .inl h'
    · cases hx
    · exact .inr (.inr h')
  | lastSignal w rest h hf =>
    have hw : w ∈ s.mem.signalWrites := by rw [h]; exact List.mem_cons_self
    exact State.park_parkSound (hs.1 (.inr (.inr (hs.2.2 (.inr (.inr (.inl ⟨w, hw, hf⟩)))))))
  | signal w rest h hf =>
    refine State.parkSound_of hs rfl (fun _ h => h) fun h' => ?_
    unfold MemSide.finalWork at h' ⊢
    rcases h' with h' | h' | ⟨x, hx, hfx⟩ | h'
    · exact .inl h'
    · exact .inr (.inl h')
    · exact .inr (.inr (.inl ⟨x, by rw [h]; exact List.mem_cons_of_mem _ hx, hfx⟩))
    · exact .inr (.inr (.inr h'))
  | enterFaulted r ha hm =>
    unfold State.enterFaulted
    dsimp only
    split
    next hp => exact State.park_parkSound (hs.1 (.inr (.inr hp)))
    · refine State.parkSound_of hs rfl (fun _ h => h) fun h => absurd h ?_
      simp [MemSide.finalWork, MemSide.quiet]
  | dropRead | keepFetching | countStatement | beginStatement | nextUsage | endStatement =>
    exact State.parkSound_of hs rfl (fun _ h => h) fun h => MemSide.finalWork_congr h rfl rfl rfl rfl rfl

/-- Settles O58. -/
theorem parkedMeansEveryPortRests : Obligations.ParkedMeansEveryPortRests :=
  keptByEveryStep_of (fun _ _ h => h) (fun _ _ => Update.parkSound) fun _ _ => Turn.parkSound

end Sys2Proof.Machine
end

section
/-! PROOF. Kept by every step: HALTED means a finding outstanding, and no journal write goes to a slot that the host has not
consumed (R113, R153). And the reset state has every kept fact. -/

namespace Sys2Proof.Machine

/-! ### The scan -/

theorem Scan.restart_sound {sc : Scan} (h : sc.state = .halted ↔ sc.finding.isSome = true) :
    sc.restart.state = .halted ↔ sc.restart.finding.isSome = true := by
  unfold Scan.restart
  split
  · exact h
  · split
    · simp [Scan.resume]
    · exact h

theorem Scan.checkConsumed_sound {sc : Scan} (produced consumed : Word32)
    (h : sc.state = .halted ↔ sc.finding.isSome = true) :
    (sc.checkConsumed produced consumed).state = .halted ↔ (sc.checkConsumed produced consumed).finding.isSome = true := by
  unfold Scan.checkConsumed
  split
  · exact h
  · split
    · exact h
    · split
      · simp [Scan.resume]
      · exact h

theorem State.scanSound_congr {s t : State} (hs : s.scanSound) (hst : t.scan.state = s.scan.state)
    (hf : t.scan.finding = s.scan.finding) : t.scanSound := by
  unfold State.scanSound
  rw [hst, hf]; exact hs

theorem Update.scanSound {s t : State} (hs : s.scanSound) (h : Update s t) : t.scanSound := by
  cases h with
  | scan sc h => exact h hs
  | parkIfDone =>
    rcases s.parkIfDone_or with e | ⟨_, _, _, _, e⟩ | ⟨_, _, _, _, e⟩
    · rw [e]; exact hs
    · rw [e]; exact hs
    · rw [e]; exact State.scanSound_congr hs (by simp) (by simp)
  | place | post | charge | issueGrant | boundary | placeDeferred =>
    exact State.scanSound_congr hs (by simp) (by simp)
  | enterStandby => exact State.scanSound_congr hs (by simp [State.standbyEntered]) (by simp [State.standbyEntered])
  | resume => unfold State.resumeMemory; split <;> exact hs
  | _ => exact hs

theorem Turn.scanSound {s t : State} (hs : s.scanSound) (h : Turn s t) : t.scanSound := by
  cases h with
  | reset => exact iff_of_false (by simp [State.reset, Scan.reset]) (by simp [State.reset, Scan.reset])
  | enterRunning st hh now h =>
    have hscan : (s.enterRunning st hh now).scan = s.scan.restart := by
      unfold State.enterRunning
      rw [State.startPass_scan]
      show (State.showPlan _ hh).scan.restart = _
      rw [State.showPlan_scan]
    unfold State.scanSound
    rw [hscan]
    exact Scan.restart_sound hs
  | completeRead r hh h =>
    have hscan : ∃ a b, (s.completeRead r hh).scan = s.scan.checkConsumed a b := by
      unfold State.completeRead State.takeHostHalf
      dsimp only
      rw [State.startPass_scan]
      split <;> exact ⟨_, _, by simp; rfl⟩
    obtain ⟨a, b, e⟩ := hscan
    unfold State.scanSound
    rw [e]
    exact Scan.checkConsumed_sound a b hs
  | noticeWritten w n =>
    unfold State.scanSound
    rw [State.pump_scan]
    unfold State.noticeWritten
    dsimp only
    split
    · show s.scan.state = .halted ↔ (s.scan.finding.map _).isSome = true
      rw [Option.isSome_map]; exact hs
    · exact hs
  | finishFetch | firstWritten | reportWritten | signalNext | partHalfNext =>
    exact State.scanSound_congr hs (by simp) (by simp)
  | enterFaulted r =>
    unfold State.enterFaulted
    dsimp only
    split <;> exact hs
  | _ => exact hs

/-! ### The journal write in flight -/

/-- The journal write in flight is sound, and one that was not in flight before goes to a slot whose record the host has
consumed. -/
def State.writesWithRoom (t : State) (before : Option JournalWrite) : Prop :=
  t.journalSound ∧
    ∀ w, t.mem.journalWrite = some w → before ≠ some w → (w.count - t.mem.consumed).toNat < t.mem.capacity

theorem State.writesWithRoom_of_none {t : State} (before : Option JournalWrite) (h : t.mem.journalWrite = none) :
    t.writesWithRoom before :=
  ⟨fun w hw => (by rw [h] at hw; cases hw), fun w hw => (by rw [h] at hw; cases hw)⟩

theorem MemSide.countOf_congr {m m' : MemSide} (h : m'.produced = m.produced) (item : JournalItem) :
    m'.countOf item = m.countOf item := by
  unfold MemSide.countOf
  cases item <;> simp [h]

/-- The write in flight stands, and so does what it is judged by but the consumed count. -/
theorem State.journalSound_congr {s t : State} (hs : s.journalSound) (hj : t.mem.journalWrite = s.mem.journalWrite)
    (hp : t.mem.produced = s.mem.produced) (hb : t.mem.journalBase = s.mem.journalBase)
    (hc : t.mem.capacity = s.mem.capacity) : t.journalSound := by
  intro w hw
  rw [MemSide.countOf_congr hp, hb, hc]
  exact hs w (hj ▸ hw)

theorem State.writesWithRoom_congr {s t : State} {before : Option JournalWrite} (hs : s.writesWithRoom before)
    (hj : t.mem.journalWrite = s.mem.journalWrite) (hp : t.mem.produced = s.mem.produced)
    (hb : t.mem.journalBase = s.mem.journalBase) (hc : t.mem.capacity = s.mem.capacity)
    (hcons : t.mem.consumed = s.mem.consumed) : t.writesWithRoom before := by
  refine ⟨State.journalSound_congr hs.1 hj hp hb hc, fun w hw hne => ?_⟩
  rw [hcons, hc]
  exact hs.2 w (hj ▸ hw) hne

/-- The write in flight is the one from before. -/
theorem State.writesWithRoom_of_same {s t : State} (hs : s.journalSound) (hj : t.mem.journalWrite = s.mem.journalWrite)
    (hp : t.mem.produced = s.mem.produced) (hb : t.mem.journalBase = s.mem.journalBase)
    (hc : t.mem.capacity = s.mem.capacity) : t.writesWithRoom s.mem.journalWrite :=
  ⟨State.journalSound_congr hs hj hp hb hc, fun _ hw hne => absurd (hj.symm.trans hw) hne⟩

theorem MemSide.nextReport_room {m : MemSide} {k : Nat} {item : JournalItem} (h : m.nextReport k = some item) :
    1 ≤ m.room ∧ m.countOf item = m.produced := by
  unfold MemSide.nextReport at h
  split at h
  · cases h
  · split at h
    next hr =>
      obtain ⟨r, _, rfl⟩ := Option.map_eq_some_iff.1 h
      exact ⟨by omega, rfl⟩
    next => cases h

theorem MemSide.nextNotice_room {m : MemSide} {item : JournalItem} (h : m.nextNotice = some item) :
    1 ≤ m.room ∧ m.countOf item = m.produced := by
  unfold MemSide.nextNotice at h
  split at h
  · split at h
    next hr => cases h; exact ⟨hr, rfl⟩
    next => cases h
  · exact MemSide.nextReport_room h

/-- A record is written where there is room for it, with the produced count (R153). -/
theorem MemSide.nextItem_room {m : MemSide} {st : PassStage} {item : JournalItem} (h : m.nextItem st = some item) :
    1 ≤ m.room ∧ m.countOf item = m.produced := by
  unfold MemSide.nextItem at h
  split at h
  · split at h
    · split at h
      next hr => cases h; exact ⟨by omega, rfl⟩
      next => cases h
    · exact MemSide.nextNotice_room h
  · exact MemSide.nextNotice_room h
  · exact MemSide.nextReport_room h

/-- A record issued with its count, within the room. -/
theorem State.issueRecord_writesWithRoom {s : State} (before : Option JournalWrite) {item : JournalItem} {count : Word32}
    (hc : count = s.mem.countOf item) (hr : (count - s.mem.consumed).toNat < s.mem.capacity) :
    (s.issueRecord item count).writesWithRoom before := by
  refine ⟨fun w hw => ?_, fun w hw _ => ?_⟩
  · have hw := Option.some.inj hw
    rw [← hw]
    exact ⟨hc, rfl⟩
  · have hw := Option.some.inj hw
    rw [← hw]
    exact hr

theorem State.pump_writesWithRoom {s : State} {before : Option JournalWrite} (h : s.writesWithRoom before) :
    s.pump.writesWithRoom before := by
  refine pumpPasses_induct (P := fun t => t.writesWithRoom before) (fun t pass _ _ ht => ?_) (fun t o os _ _ ht => ?_)
    (fun t pass item _ hi _ => ?_) _ s h
  · exact State.writesWithRoom_congr ht (by simp) (by simp) (by simp) (by simp) (by simp)
  · exact State.writesWithRoom_congr ht rfl rfl rfl rfl rfl
  · obtain ⟨hroom, hcount⟩ := MemSide.nextItem_room hi
    refine State.issueRecord_writesWithRoom before (hcount.symm.trans ?_) ?_
    · exact MemSide.countOf_congr rfl item
    · show (t.mem.produced - t.mem.consumed).toNat < t.mem.capacity
      unfold MemSide.room at hroom
      omega

theorem State.startPass_writesWithRoom {s : State} {o : Occasion} {before : Option JournalWrite}
    (h : s.writesWithRoom before) : (s.startPass o).writesWithRoom before := by
  have hq : State.writesWithRoom { s with mem := { s.mem with passQueue := s.mem.passQueue ++ [o] } } before :=
    State.writesWithRoom_congr h rfl rfl rfl rfl rfl
  unfold State.startPass
  dsimp only
  split
  · exact State.pump_writesWithRoom hq
  · exact hq

theorem MemSide.SameWork.writesWithRoom {s t : State} {before : Option JournalWrite} (h : s.mem.SameWork t.mem)
    (hs : s.writesWithRoom before) : t.writesWithRoom before :=
  State.writesWithRoom_congr hs h.journalWrite h.produced h.journalBase h.capacity h.consumed

theorem Update.writesWithRoom {before : Option JournalWrite} (s t : State) (hs : s.writesWithRoom before)
    (h : Update s t) : t.writesWithRoom before := by
  cases h with
  | enterStarting => exact State.writesWithRoom_congr hs rfl rfl rfl rfl rfl
  | resume =>
    unfold State.resumeMemory
    split
    · exact State.writesWithRoom_congr hs rfl rfl rfl rfl rfl
    · exact hs
  | parkIfDone =>
    rcases s.parkIfDone_or with e | ⟨_, _, _, _, e⟩ | ⟨_, _, _, _, e⟩
    · rw [e]; exact hs
    · rw [e]; exact State.writesWithRoom_of_none before rfl
    · rw [e]; exact State.startPass_writesWithRoom (MemSide.SameWork.writesWithRoom (.of_eq rfl) hs)
  | boundary => exact State.writesWithRoom_congr hs (by simp) (by simp) (by simp) (by simp) (by simp)
  | post n => exact (s.post_sameWork n).writesWithRoom hs
  | handOver r => exact (s.handOver_sameWork r).writesWithRoom hs
  | charge a n sched => exact (s.charge_sameWork a n sched).writesWithRoom hs
  | enterStandby p => exact (s.standbyEntered_sameWork p).writesWithRoom hs
  | place | issueGrant | placeDeferred => exact MemSide.SameWork.writesWithRoom (.of_eq (by simp)) hs
  | _ => exact MemSide.SameWork.writesWithRoom (s := s) (.of_eq rfl) hs

/-- A first record is followed by its continuation with the next count, where that has room too (R153). -/
theorem State.firstWritten_writesWithRoom {s : State} {w : JournalWrite} {p : Port} {r : Report}
    (hs : s.journalSound) (h : s.mem.journalWrite = some w) (hi : w.item = .first p r) :
    (s.firstWritten p r w.count).writesWithRoom s.mem.journalWrite := by
  obtain ⟨hcount, _⟩ := hs w h
  rw [hi] at hcount
  have hcount : w.count = s.mem.produced := hcount
  unfold State.firstWritten
  dsimp only
  split
  next hroom =>
    refine State.issueRecord_writesWithRoom _ (by rw [hcount]; rfl) ?_
    show (w.count + 1 - s.mem.consumed).toNat < s.mem.capacity
    unfold MemSide.room at hroom
    rw [hcount]
    bv_omega
  · refine State.pump_writesWithRoom (State.writesWithRoom_of_none _ ?_)
    rw [State.endPass_mem_journalWrite]

theorem State.completeRead_writesWithRoom {s : State} (r : HostRead) (hh : HostHalf) (hs : s.journalSound) :
    (s.completeRead r hh).writesWithRoom s.mem.journalWrite := by
  have htake : ({ s with mem := { s.mem with read := none } }.takeHostHalf hh).writesWithRoom s.mem.journalWrite := by
    unfold State.takeHostHalf MemSide.rearm MemSide.takeConsumed
    dsimp only
    split <;> split <;> exact State.writesWithRoom_of_same hs (by simp) (by simp) (by simp) (by simp)
  unfold State.completeRead
  dsimp only
  refine State.startPass_writesWithRoom ?_
  split
  · exact (State.post_sameWork _ _).writesWithRoom htake
  · exact htake

/-- A start has no journal write in flight. -/
theorem State.enterRunning_writesWithRoom {s : State} (st : PartStatic) (hh : HostHalf) (now : Moment)
    (before : Option JournalWrite) (h : s.mem.journalWrite = none) :
    (s.enterRunning st hh now).writesWithRoom before := by
  unfold State.enterRunning
  refine State.startPass_writesWithRoom (State.writesWithRoom_of_none before ?_)
  show (State.showPlan _ hh).mem.journalWrite = none
  rw [State.showPlan_mem_journalWrite]
  exact h

theorem State.issueOwed_mem_journalBase (s : State) : s.issueOwed.mem.journalBase = s.mem.journalBase := by
  rcases s.issueOwed_cases with ⟨_, e⟩ | ⟨_, _, _, e⟩ <;> simp [e]

theorem State.issueOwed_mem_capacity (s : State) : s.issueOwed.mem.capacity = s.mem.capacity := by
  rcases s.issueOwed_cases with ⟨_, e⟩ | ⟨_, _, _, e⟩ <;> simp [e]

theorem Turn.writesWithRoom {s t : State} (ha : s.accessSound) (hs : s.journalSound) (h : Turn s t) :
    t.writesWithRoom s.mem.journalWrite := by
  have hsame := State.writesWithRoom_of_same hs rfl rfl rfl rfl
  cases h with
  | stay | leaveStarting => exact hsame
  | reset => exact State.writesWithRoom_of_none _ rfl
  | enterRunning st hh now h =>
    obtain ⟨⟨_, _, _, hjournal, _⟩, _⟩ := ha.2.2 (.inr (.inl h))
    exact State.enterRunning_writesWithRoom st hh now _ hjournal
  | completeRead r hh h => exact State.completeRead_writesWithRoom r hh hs
  | finishFetch f r => exact State.writesWithRoom_of_same hs (by simp) (by simp) (by simp) (by simp)
  | noticeWritten w n => exact State.pump_writesWithRoom (State.writesWithRoom_of_none _ (by
      unfold State.noticeWritten; dsimp only; split <;> rfl))
  | firstWritten w p r h hi => exact State.firstWritten_writesWithRoom hs h hi
  | reportWritten w p r => exact State.pump_writesWithRoom (State.writesWithRoom_of_none _ rfl)
  | signalNext w h hf =>
    exact State.writesWithRoom_of_same hs (by rw [State.issueOwed_mem_journalWrite]; rfl)
      (by rw [State.issueOwed_mem_produced]; rfl) (by rw [State.issueOwed_mem_journalBase]; rfl)
      (by rw [State.issueOwed_mem_capacity]; rfl)
  | partHalfNext w h hf =>
    exact State.writesWithRoom_of_same hs (by rw [State.issueOwed_mem_journalWrite])
      (by rw [State.issueOwed_mem_produced]) (by rw [State.issueOwed_mem_journalBase])
      (by rw [State.issueOwed_mem_capacity])
  | partHalfFinal | lastSignal => exact State.writesWithRoom_of_none _ rfl
  | enterFaulted r =>
    refine State.writesWithRoom_of_none _ ?_
    unfold State.enterFaulted; dsimp only; split <;> rfl
  | dropRead | keepFetching | signalFinal | signal | countStatement | beginStatement | nextUsage | endStatement =>
    exact State.writesWithRoom_of_same hs rfl rfl rfl rfl

/-- Settles O59. -/
theorem journalNeverOverwritesAnUnreadRecord : Obligations.JournalNeverOverwritesAnUnreadRecord := by
  refine ⟨keptByEveryStep_of (fun _ _ h => h) (fun _ _ => Update.scanSound) fun _ _ => Turn.scanSound, fun s t ha hs h => ?_⟩
  have hsame := State.writesWithRoom_of_same hs rfl rfl rfl rfl
  rcases step_cases h with rfl | ⟨c, rest, -, hup | hturn⟩
  · exact hsame
  · exact hup.keep Update.writesWithRoom (MemSide.SameWork.writesWithRoom (s := s) (.of_eq rfl) hsame)
  · exact Turn.writesWithRoom (s := { s with pending := rest }) ha hs hturn

/-! ### The reset state -/

/-- Settles O60. -/
theorem resetHasTheKeptFacts : Obligations.ResetHasTheKeptFacts := by
  refine ⟨⟨Nat.zero_le _, Nat.zero_le _⟩, State.reset_tablesSound, State.reset_accountsSound, State.reset_demandSound,
    State.reset_conductSound, ⟨rfl, by simp [State.reset, Timer.reset, Window.reset], fun h => by cases h⟩,
    State.reset_plansSound, ?_, (State.parkSound_iff _).2 ⟨fun _ p => by rw [State.reset_port]; rfl, (fun h => by cases h), ?_⟩,
    iff_of_false (by simp [State.reset, Scan.reset]) (by simp [State.reset, Scan.reset]), fun w h => by cases h⟩
  · exact ⟨(fun h => by cases h), (fun h => by cases h), fun _ => ⟨⟨rfl, rfl, rfl, rfl, rfl, rfl, rfl, rfl⟩, rfl⟩⟩
  · exact fun h => absurd h (by simp [MemSide.finalWork, State.reset, MemSide.reset])

end Sys2Proof.Machine
end

section
/-! PROOF. Resets and the register window (R143 to R145, R149), and LEVEL (R33). -/

namespace Sys2Proof.Machine

/-! ### Reset values -/

theorem PortBlock.reset_list (l : Lane) (a : Account) : PortBlock.reset.list l a = [] := by
  cases l <;> exact Tab.get_fill _ _

theorem PortBlock.reset_queue (q : QueueId) : PortBlock.reset.queues.get q = Queue.reset := Tab.get_fill _ _

theorem PortBlock.reset_cell (a : Account) : PortBlock.reset.cells.get a = Cell.reset := Tab.get_fill _ _

theorem State.reset_rec (a : Account) : State.reset.conduct.recs.get a = ConductRec.reset := Tab.get_fill _ _

theorem State.reset_slot (p : Port) : State.reset.mem.slots.get p = { held := none, waiting := none } := Tab.get_fill _ _

theorem emptyPlan_isEmptyPlan : isEmptyPlan emptyPlan := by
  refine ⟨rfl, rfl, rfl, rfl, rfl, rfl, fun p => ?_, fun a => ?_, rfl, rfl, rfl⟩
  · show Tab.get (Tab.fill _ _) p = _
    rw [Tab.get_fill]
  · show Tab.get (Tab.fill _ _) a = _
    rw [Tab.get_fill]

/-- Settles O3. -/
theorem resetLeavesTheSpecValues : Obligations.ResetLeavesTheSpecValues := by
  refine ⟨rfl, rfl, rfl, fun p => ?_, State.reset_rec, rfl, rfl, rfl, rfl, rfl, rfl, rfl, rfl, rfl, emptyPlan_isEmptyPlan,
    rfl, rfl, rfl, rfl, rfl, rfl, rfl, rfl, rfl, rfl, rfl, rfl, rfl, State.reset_slot, rfl, rfl, rfl, rfl, rfl, rfl, rfl, rfl,
    rfl, rfl, rfl⟩
  rw [State.reset_port]
  refine ⟨rfl, rfl, rfl, rfl, rfl, rfl, PortBlock.reset_list, rfl, rfl, rfl, rfl, rfl, rfl, rfl, rfl, rfl,
    fun q => ?_, fun a => ?_⟩
  · rw [PortBlock.reset_queue]
    exact ⟨rfl, rfl, rfl, rfl, rfl, rfl, rfl⟩
  · rw [PortBlock.reset_cell]
    exact ⟨rfl, rfl, rfl, rfl, rfl, rfl, rfl, rfl, rfl, rfl, rfl, rfl, rfl, rfl, rfl, rfl⟩

/-- Settles O4. -/
theorem resetsFromAnyState : Obligations.ResetsFromAnyState := fun _ => ⟨rfl, fun _ => rfl⟩

/-! ### The register window -/

theorem PartMode.code_lt (m : PartMode) : m.code < 4 := by cases m <;> decide

theorem MemMode.code_lt (m : MemMode) : m.code < 2 := by cases m <;> decide

theorem Region.code_lt (r : Region) : r.code < 4 := by cases r <;> decide

theorem StartRefusal.code_lt (r : StartRefusal) : r.code < 8 := by cases r <;> decide

theorem execRegisterWrite_parked {s : State} (h : s.win.mode = .parked) (reg : WindowReg) (v : Word32) :
    exec (.registerWrite reg v) s = .next (match reg with
      | .pageLo => { s with win := { s.win with pageLo := v } }
      | .pageHi => { s with win := { s.win with pageHi := v } }
      | .partStat => s) := by
  show execRegisterWrite reg v s = _
  cases reg <;> simp [execRegisterWrite, h]

theorem execRegisterWrite_not_parked {s : State} (h : s.win.mode ≠ .parked) (reg : WindowReg) (v : Word32) :
    exec (.registerWrite reg v) s = .next s := if_neg h

theorem State.partStat_toNat (s : State) : s.partStat.toNat =
    s.win.mode.code + 4 * s.mem.mode.code + 8 * s.mem.region.code + 32 * s.win.refusal.code
      + 65536 * (s.timer.epoch.toNat % 65536) := by
  have hm := s.win.mode.code_lt
  have hmem := s.mem.mode.code_lt
  have hr := s.mem.region.code_lt
  have hs := s.win.refusal.code_lt
  rw [State.partStat, BitVec.toNat_ofNat, Nat.mod_eq_of_lt (by omega)]

/-- A field of PART_STAT, by its first bit and its width. -/
theorem State.partStat_field (s : State) (start len : Nat) (w : BitVec len)
    (h : s.partStat.toNat / 2 ^ start % 2 ^ len = w.toNat) : s.partStat.extractLsb' start len = w :=
  BitVec.eq_of_toNat_eq (by rw [BitVec.extractLsb'_toNat, Nat.shiftRight_eq_div_pow, h])

/-- Settles O5: a write by register and part state, a read by field. -/
theorem registerWindowWritesAndReads : Obligations.RegisterWindowWritesAndReads := by
  intro s v
  have hm := s.win.mode.code_lt
  have hmem := s.mem.mode.code_lt
  have hr := s.mem.region.code_lt
  have hs := s.win.refusal.code_lt
  have hstat := s.partStat_toNat
  have write : ∀ reg, exec (.registerWrite reg v) s = .next (if s.win.mode = .parked then (match reg with
      | .pageLo => { s with win := { s.win with pageLo := v } }
      | .pageHi => { s with win := { s.win with pageHi := v } }
      | .partStat => s) else s) := fun reg => by
    split
    next h => exact execRegisterWrite_parked h reg v
    next h => exact execRegisterWrite_not_parked h reg v
  refine ⟨write .pageLo, write .pageHi, ?_, rfl, rfl, ?_, ?_, ?_, ?_, ?_, ?_, ?_⟩
  · rw [write .partStat]
    simp
  · show BitVec.ofNat 32 (bit s.win.run) = _
    cases s.win.run <;> rfl
  all_goals
    refine s.partStat_field _ _ _ ?_
    rw [hstat]
    simp
    omega

/-! ### Run written 1 -/

theorem State.pageValid_iff (s : State) :
    s.pageValid = true ↔ (s.win.pageHi ++ s.win.pageLo).toNat ≠ 0 ∧ (s.win.pageHi ++ s.win.pageLo).toNat % 4096 = 0 := by
  rw [State.pageValid, Bool.and_eq_true, decide_eq_true_iff, decide_eq_true_iff]
  rfl

theorem State.resumeMemory_eq (s : State) : s.resumeMemory = { s with
    mem := if s.mem.mode = .faulted then
        { s.mem with mode := .serving, read := some { resumption := true, writes := false } }
      else s.mem } := by
  unfold State.resumeMemory
  split <;> rfl

/-- Settles O6, by the part state. -/
theorem runActsByPartState : Obligations.RunActsByPartState := by
  intro s page resumed
  show execRun s = _
  unfold execRun
  cases hm : s.win.mode with
  | parked =>
    by_cases hv : s.pageValid = true
    · have hv' := s.pageValid_iff.1 hv
      simp only [page, if_pos hv']
      refine congrArg Host.Outcome.next ((if_pos hv).trans rfl)
    · have hv' := fun h => hv (s.pageValid_iff.2 h)
      simp only [page, if_neg hv']
      refine congrArg Host.Outcome.next ((if_neg hv).trans rfl)
  | starting => rfl
  | running => exact congrArg Host.Outcome.next (State.resumeMemory_eq _)
  | stopping =>
    simp only
    split
    · rfl
    · exact congrArg Host.Outcome.next (State.resumeMemory_eq _)

/-! ### LEVEL -/

theorem levelOfByte_eq (b : Byte) : levelOfByte b = Fin.ofNat 4 (min 3 b.toNat) := by
  unfold levelOfByte
  split
  next h => exact Fin.ext (by simp only [Fin.val_ofNat]; omega)
  next h => exact Fin.ext (by simp only [Fin.val_ofNat]; show 3 = _; omega)

/-- Settles O16. -/
theorem levelReplacesTheRawLevel : Obligations.LevelReplacesTheRawLevel := by
  intro s p level
  show Host.Outcome.next (s.modPort p fun b => { b with filter := { b.filter with raw := levelOfByte level } }) = _
  rw [State.modPort_eq_set, levelOfByte_eq]

end Sys2Proof.Machine
end

section
/-! PROOF. DEMAND, refused and accepted (R51, R87 to R89). -/

namespace Sys2Proof.Machine

theorem exec_demand (p : Port) (q : QueueId) (units : Word16) (s : State) :
    exec (.demand p q units) s = execDemand p q units s := rfl

/-! ### The judge of a DEMAND -/

theorem Plan.share_isNone (pl : Plan) (p : Port) (a : Account) :
    (pl.share p a).isNone = true ↔ ∀ e ∈ pl.shares, ¬(e.port = p ∧ e.account = a) := by
  simp [Plan.share]

/-- R87's cases are those of the statement, UNBOUND before the others. -/
theorem demandReason_eq (s : State) (p : Port) (q : QueueId) :
    demandReason s p q = if (s.queue p q).bound = false then some .unbound else s.demandRefusal p q := by
  have hcut : s.conductOf (s.queue p q).account = .cutOff ↔ 256 ≤ (s.conduct.recs.get (s.queue p q).account).score :=
    band_eq_cutOff _
  have hshare := s.plans.inForce.share_isNone p (s.queue p q).account
  simp only [demandReason, State.demandRefusal, ← hcut, ← hshare]
  rfl

theorem ConductRec.seeDemand_eq (r : ConductRec) :
    r.seeDemand = { r with demand := true, quiet := if 256 ≤ r.score then 0 else r.quiet } := by
  simp only [ConductRec.seeDemand, r.state_eq_cutOff]

theorem demandReported_of_bound {s : State} {p : Port} {q : QueueId} (h : (s.queue p q).bound = true) :
    { s with conduct := { s.conduct with recs := demandReported s p q } } =
      s.modConduct (s.queue p q).account ConductRec.seeDemand := by
  rw [demandReported, if_pos h, ← funext ConductRec.seeDemand_eq]
  rfl

theorem State.refuseDemand_eq (s : State) (p : Port) (q : QueueId) (r : RefuseReason) :
    s.refuseDemand p q r = { s with
      ports := s.ports.set p { s.ports.get p with refused := min ((s.ports.get p).refused + 1) 4294967295 }
      link := { s.link with output := placed s.link.output (.refuse p q r) } } := by
  rw [State.refuseDemand, State.refuse_eq]
  rfl

/-- Settles O12: an unbound queue is refused before its demand is seen, a bound one after. -/
theorem demandRefusedByTheFirstCase : Obligations.DemandRefusedByTheFirstCase := by
  intro s p q units r hreason
  rw [demandReason_eq] at hreason
  rw [exec_demand, execDemand]
  split at hreason
  next hunbound =>
    obtain rfl := Option.some.inj hreason
    refine (if_pos hunbound).trans ?_
    rw [State.refuseDemand_eq, demandReported, if_neg (ne_true_of_eq_false hunbound)]
  next hbound =>
    refine (if_neg hbound).trans ?_
    have hrep := demandReported_of_bound (Bool.eq_true_of_not_eq_false hbound)
    simp only [hreason]
    show Host.Outcome.next ((s.modConduct (s.queue p q).account ConductRec.seeDemand).refuseDemand p q r) = _
    rw [← hrep, State.refuseDemand_eq]

/-! ### An accepted DEMAND -/

/-- The state in which an accepted DEMAND leaves the port before any run. -/
def State.takeDemand (s : State) (p : Port) (q : QueueId) (units : Word16) : State :=
  (s.modConduct (s.queue p q).account ConductRec.seeDemand).modPort p fun b => b.acceptDemand q units.toNat

theorem execDemand_of_accepted {s : State} {p : Port} {q : QueueId} (units : Word16)
    (h : demandReason s p q = none) :
    execDemand p q units s =
      if (s.ports.get p).mode = .granting then .next ((s.takeDemand p q units).arbiterRun p)
      else .next (s.takeDemand p q units) := by
  rw [demandReason_eq] at h
  split at h
  · cases h
  next hbound =>
    refine (if_neg hbound).trans ?_
    simp only [h]
    rfl

theorem demandReason_none_bound {s : State} {p : Port} {q : QueueId} (h : demandReason s p q = none) :
    (s.queue p q).bound = true := by
  rw [demandReason_eq] at h
  split at h
  · cases h
  · exact Bool.eq_true_of_not_eq_false ‹_›

theorem PortBlock.acceptDemand_queues (b : PortBlock) (q : QueueId) (n : Nat) :
    (b.acceptDemand q n).queues = b.queues.set q { b.queues.get q with
      tally := min 16777215 ((b.queues.get q).tally + n)
      waiting := (b.queues.get q).waiting || decide (0 < min 16777215 ((b.queues.get q).tally + n)) } := by
  simp only [PortBlock.acceptDemand]
  split
  next h =>
    rw [PortBlock.joinList_queues, PortBlock.modQueue_queues]
    simp only [Config.maxUnits] at h ⊢
    simp [h.1, h.2]
  next h =>
    rw [PortBlock.modQueue_queues]
    simp only [Config.maxUnits] at h ⊢
    congr 2
    cases hw : (b.queues.get q).waiting
    · simp only [hw, true_and] at h
      simp [h]
    · rfl

theorem PortBlock.acceptDemand_list (b : PortBlock) (q : QueueId) (n : Nat) (l : Lane) (a : Account) :
    (b.acceptDemand q n).list l a = b.list l a ++
      if ((b.queues.get q).waiting = false ∧ 0 < min 16777215 ((b.queues.get q).tally + n)) ∧
        (b.queues.get q).lane = l ∧ (b.queues.get q).account = a then [q] else [] := by
  by_cases h : (b.queues.get q).waiting = false ∧ 0 < min 16777215 ((b.queues.get q).tally + n)
  · rw [show b.acceptDemand q n = _ from if_pos h, PortBlock.joinList_list, PortBlock.modQueue_list]
    by_cases hl : (b.queues.get q).lane = l ∧ (b.queues.get q).account = a
    · rw [if_pos hl, if_pos ⟨h, hl⟩]
      obtain ⟨rfl, rfl⟩ := hl
      rfl
    · rw [if_neg hl, if_neg fun hc => hl hc.2, List.append_nil, PortBlock.modQueue_list]
  · rw [show b.acceptDemand q n = _ from if_neg h, PortBlock.modQueue_list, if_neg fun hc => h hc.1, List.append_nil]

theorem PortBlock.acceptDemand_frame (b : PortBlock) (q : QueueId) (n : Nat) :
    b.acceptDemand q n = { b with
      queues := (b.acceptDemand q n).queues
      urgentLists := (b.acceptDemand q n).urgentLists, bulkLists := (b.acceptDemand q n).bulkLists } := by
  simp only [PortBlock.acceptDemand]
  split
  · rw [PortBlock.joinList, PortBlock.setList_frame]
    rfl
  · rfl

theorem State.takeDemand_accepted {s : State} {p : Port} {q : QueueId} (units : Word16)
    (h : demandReason s p q = none) : demandAccepted s (s.takeDemand p q units) p q units :=
  ⟨(s.ports.get p).acceptDemand q units.toNat,
    by rw [State.takeDemand, ← demandReported_of_bound (demandReason_none_bound h), State.modPort_eq_set],
    PortBlock.acceptDemand_queues _ q _, PortBlock.acceptDemand_list _ q _, PortBlock.acceptDemand_frame _ q _⟩

/-- Settles O13. -/
theorem demandAcceptedInAllocating : Obligations.DemandAcceptedInAllocating := by
  intro s p q units h hm
  refine ⟨_, ?_, State.takeDemand_accepted units h⟩
  rw [exec_demand, execDemand_of_accepted units h, hm]
  rfl

/-! ### A run -/

theorem State.eligible_false {s : State} {p : Port} {l : Lane} {a : Account} :
    s.eligible p l a = false ↔
      s.conductOf a = .cutOff ∨ (s.cell p a).allowance ≤ (s.cell p a).issued ∨ (s.ports.get p).list l a = [] := by
  simp only [State.eligible, Bool.and_eq_false_iff, decide_eq_false_iff_not, not_not, Bool.not_eq_false',
    List.isEmpty_iff, Cell.remaining, State.cell, or_assoc, Nat.sub_pos_iff_lt, Nat.not_lt]

theorem State.hasRoom_false {s : State} : s.hasRoom = false ↔ 64 ≤ s.link.output.length := by
  rw [State.hasRoom, decide_eq_false_iff_not, Config.outputDepth, Nat.not_lt]

theorem State.nothingToGrant_iff {s : State} {p : Port} (hm : (s.ports.get p).mode = .granting) :
    s.nothingToGrant p ↔ s.nextGrant p = none := by
  simp only [State.nothingToGrant, ← State.eligible_false, ← State.hasRoom_false]
  refine ⟨fun h => ?_, fun h => State.nextGrant_none h hm⟩
  cases hn : s.nextGrant p with
  | none => rfl
  | some x =>
    obtain ⟨-, ht, hr, hc⟩ := State.nextGrant_some hn
    rcases h with h | h | h
    · omega
    · rw [State.hasRoom_false] at h
      omega
    · have hch := State.choose_some hc
      have he := State.eligible_false.1 (h x.1 x.2)
      simp only [Cell.remaining] at hch
      simp only [State.cell] at he
      rcases he with he | he | he
      · exact absurd he hch.1
      · omega
      · exact absurd he hch.2.2

theorem State.arbiterRun_nothingToGrant {s : State} {p : Port} (hm : (s.ports.get p).mode = .granting) :
    (s.arbiterRun p).nothingToGrant p :=
  (State.nothingToGrant_iff (by rw [State.arbiterRun_ports_mode, hm])).2 (s.arbiterRun_nextGrant p)

theorem State.issueGrant_port (s : State) (p : Port) (l : Lane) (a : Account) :
    (s.issueGrant p l a).ports.get p = s.ports.get p ∨
      ∃ q rest, (s.issueGrant p l a).ports.get p = (s.ports.get p).grantTo l a q rest := by
  rcases s.issueGrant_cases p l a with ⟨-, e⟩ | ⟨q, rest, -, e⟩
  · exact .inl (by rw [e])
  · exact .inr ⟨q, rest, by simp [e]⟩

/-- A run adds entries at the end of the port's table (R54). -/
theorem State.arbiterRun_table (s : State) (p : Port) : (s.ports.get p).table <+: ((s.arbiterRun p).ports.get p).table :=
  State.arbiterRun_induct (P := fun t => (s.ports.get p).table <+: (t.ports.get p).table) p
    (fun t l a _ ht => by
      rcases t.issueGrant_port p l a with e | ⟨q, rest, e⟩
      · rwa [e]
      · rw [e, PortBlock.grantTo_table]
        exact ht.trans (List.prefix_append _ _)) s (List.prefix_refl _)

/-- A run raises issued nets and writes nothing else in a cell (R54). -/
theorem State.arbiterRun_cell (s : State) (p : Port) (a : Account) :
    ∃ n, (s.cell p a).issued ≤ n ∧ (s.arbiterRun p).cell p a = { s.cell p a with issued := n } :=
  State.arbiterRun_induct
    (P := fun t => ∃ n, (s.cell p a).issued ≤ n ∧ t.cell p a = { s.cell p a with issued := n }) p
    (fun t l x _ ⟨n, hn, ht⟩ => by
      rcases t.issueGrant_port p l x with e | ⟨q, rest, e⟩
      · exact ⟨n, hn, by rw [State.cell, e]; exact ht⟩
      · rw [show (t.issueGrant p l x).cell p a = _ from congrArg (fun b => b.cells.get a) e, PortBlock.grantTo_cell]
        change (t.ports.get p).cells.get a = _ at ht
        split
        · exact ⟨n + _, Nat.le_add_right_of_le hn, by rw [ht]⟩
        · exact ⟨n, hn, ht⟩) s ⟨_, le_rfl, rfl⟩

theorem State.takeDemand_port (s : State) (p : Port) (q : QueueId) (units : Word16) :
    (s.takeDemand p q units).ports.get p = (s.ports.get p).acceptDemand q units.toNat := by
  simp [State.takeDemand]

theorem State.takeDemand_ports_ne (s : State) {p p' : Port} (q : QueueId) (units : Word16) (h : p' ≠ p) :
    (s.takeDemand p q units).ports.get p' = s.ports.get p' := by
  rw [State.takeDemand, State.modPort_ports_ne _ _ h.symm, State.modConduct_ports]

/-- Settles O14: the demand is taken as in ALLOCATING, and what the run keeps is the run's own. -/
theorem grantingPortRunsUntilNothingIsLeft : Obligations.GrantingPortRunsUntilNothingIsLeft := by
  intro s p q units h hm
  have hmode : ((s.takeDemand p q units).ports.get p).mode = .granting := by
    rw [State.takeDemand_port, PortBlock.acceptDemand_mode, hm]
  refine ⟨_, _, State.takeDemand_accepted units h, rfl, ?_, State.arbiterRun_nothingToGrant hmode, ?_, ?_, ?_,
    fun p' hp' => ?_, fun a => ?_, ?_, ?_, ?_, ?_, ?_⟩
  · rw [exec_demand, execDemand_of_accepted units h, if_pos hm]
  · rw [State.arbiterRun_ports_mode, hmode]
  · exact (s.takeDemand p q units).arbiterRun_output_prefix p
  · have ht := (s.takeDemand p q units).arbiterRun_table p
    rwa [State.takeDemand_port, PortBlock.acceptDemand_table] at ht
  · rw [State.arbiterRun_ports_ne _ hp'.symm, State.takeDemand_ports_ne s q units hp']
  · have hc : (s.takeDemand p q units).cell p a = s.cell p a := by
      rw [State.cell, State.takeDemand_port, PortBlock.acceptDemand_cells, State.cell]
    obtain ⟨n, hn, he⟩ := (s.takeDemand p q units).arbiterRun_cell p a
    rw [hc] at hn he
    rw [he]
    exact ⟨rfl, hn⟩
  all_goals simp [State.takeDemand]

/-! ### Whom the arbiter serves (R53) -/

theorem mayServe_iff {s : State} {p : Port} {l : Lane} {a : Account} : mayServe s p l a ↔ s.eligible p l a = true := by
  have hcut : s.conductOf a = .cutOff ↔ 256 ≤ (s.conduct.recs.get a).score := band_eq_cutOff _
  rw [← Bool.not_eq_false, State.eligible_false, hcut, mayServe]
  simp only [not_or, Nat.not_le, ne_eq]

theorem rotation_length (ptr : Account) : (rotation ptr).length = 48 := by simp [rotation]

/-- An account stands in the rotation after as many as a search examines before it. -/
theorem rotation_searchPlace (ptr a : Account) (h : searchPlace ptr a < (rotation ptr).length) :
    (rotation ptr)[searchPlace ptr a] = a := by
  simp only [rotation, List.getElem_map, List.getElem_range, searchPlace]
  refine Fin.ext ?_
  simp only [Fin.ofNat]
  omega

theorem searchPlace_rotation (ptr : Account) (i : Nat) (h : i < (rotation ptr).length) :
    searchPlace ptr (rotation ptr)[i] = i := by
  have hi := rotation_length ptr ▸ h
  simp only [rotation, List.getElem_map, List.getElem_range, searchPlace, Fin.ofNat]
  omega

theorem State.search_some {s : State} {p : Port} {l : Lane} {a : Account} (h : s.search p l = some a) :
    s.eligible p l a = true ∧
      ∀ c, s.eligible p l c = true → searchPlace ((s.ports.get p).ptr l) a ≤ searchPlace ((s.ports.get p).ptr l) c := by
  obtain ⟨ha, i, hi, rfl, hbefore⟩ := List.find?_eq_some_iff_getElem.1 h
  refine ⟨ha, fun c hc => ?_⟩
  rw [searchPlace_rotation]
  by_contra hlt
  have hj := hbefore _ (Nat.not_le.1 hlt)
  rw [rotation_searchPlace, hc] at hj
  cases hj

theorem State.choose_spec (s : State) (p : Port) :
    match s.choose p with
    | none => ∀ l a, ¬mayServe s p l a
    | some (l, a) => mayServe s p l a ∧ (l = .bulk → ∀ c, ¬mayServe s p .urgent c) ∧
        ∀ c, mayServe s p l c → searchPlace ((s.ports.get p).ptr l) a ≤ searchPlace ((s.ports.get p).ptr l) c := by
  simp only [mayServe_iff, Bool.not_eq_true]
  unfold State.choose
  cases hu : s.search p .urgent with
  | some a => exact ⟨(State.search_some hu).1, (fun h => by cases h), (State.search_some hu).2⟩
  | none =>
    cases hb : s.search p .bulk with
    | some a => exact ⟨(State.search_some hb).1, fun _ => State.search_none hu, (State.search_some hb).2⟩
    | none =>
      intro l
      cases l
      · exact State.search_none hu
      · exact State.search_none hb

/-! ### How a run goes on (R51, R52) -/

theorem grantRun_of_none {s : State} {p : Port} (h : s.nextGrant p = none) (n : Nat) : grantRun n p s = s := by
  cases n with
  | zero => rfl
  | succ n => simp only [grantRun, h]

theorem grantRun_of_some {s : State} {p : Port} {l : Lane} {a : Account} (h : s.nextGrant p = some (l, a)) (n : Nat) :
    grantRun (n + 1) p s = grantRun n p (s.issueGrant p l a) := by
  simp only [grantRun, h]

/-- More grants than the table has free slots change nothing. -/
theorem grantRun_succ (p : Port) (n : Nat) (s : State) (h : 32 ≤ (s.ports.get p).table.length + n) :
    grantRun (n + 1) p s = grantRun n p s := by
  induction n generalizing s with
  | zero =>
    refine grantRun_of_none ?_ 1
    cases hn : s.nextGrant p with
    | none => rfl
    | some x =>
      obtain ⟨-, ht, -⟩ := State.nextGrant_some hn
      omega
  | succ n ih =>
    cases hn : s.nextGrant p with
    | none => rw [grantRun_of_none hn, grantRun_of_none hn]
    | some x =>
      have := State.issueGrant_table_length hn
      rw [grantRun_of_some hn, grantRun_of_some hn, ih _ (by omega)]

theorem State.arbiterRun_of_none {s : State} {p : Port} (h : s.nextGrant p = none) : s.arbiterRun p = s :=
  grantRun_of_none h _

theorem State.arbiterRun_of_some {s : State} {p : Port} {l : Lane} {a : Account} (h : s.nextGrant p = some (l, a)) :
    s.arbiterRun p = (s.issueGrant p l a).arbiterRun p := by
  have hlen := State.issueGrant_table_length h
  rw [State.arbiterRun, show Config.tableSlots = 31 + 1 from rfl, grantRun_of_some h]
  exact (grantRun_succ p 31 _ (by omega)).symm

theorem State.nextGrant_eq_choose {s : State} {p : Port} (hm : (s.ports.get p).mode = .granting)
    (ht : (s.ports.get p).table.length < 32) (hr : s.link.output.length < 64) : s.nextGrant p = s.choose p :=
  if_pos ⟨hm, ht, decide_eq_true hr⟩

/-! ### One grant (R47, R54) -/

/-- The tag allocated is the first after the counter that no entry carries: every one before it is carried. -/
theorem PortBlock.nextTag_first (b : PortBlock) (h : b.table.length < 256) (n : Nat)
    (hn : n < (b.nextTag - b.tagCounter - 1).toNat) : ∃ e ∈ b.table, e.tag = b.tagCounter + 1 + BitVec.ofNat 8 n := by
  have hfresh := (b.entry_none _).2 (b.nextTag_fresh h)
  cases hf : (((List.range 256).map fun i => b.tagCounter + 1 + BitVec.ofNat 8 i).find?
      fun t => (b.entry t).isNone) with
  | none =>
    exact absurd (List.find?_eq_none.1 hf _ (mem_tagSearch b.tagCounter b.nextTag)) (by simp [hfresh])
  | some t =>
    have ht : b.nextTag = t := by rw [PortBlock.nextTag, hf, Option.getD_some]
    obtain ⟨-, i, hi, hit, hbefore⟩ := List.find?_eq_some_iff_getElem.1 hf
    rw [List.getElem_map, List.getElem_range] at hit
    have hi256 : i < 256 := by simpa using hi
    have hplace : (b.nextTag - b.tagCounter - 1).toNat = i := by
      rw [ht, ← hit]
      bv_omega
    have hcarried := hbefore n (hplace ▸ hn)
    rw [List.getElem_map, List.getElem_range, Bool.not_eq_true', Option.isNone_eq_false_iff] at hcarried
    obtain ⟨e, he⟩ := Option.isSome_iff_exists.1 hcarried
    exact ⟨e, PortBlock.entry_some he⟩

theorem State.issueGrant_eq {s : State} {p : Port} {l : Lane} {a : Account} {q : QueueId} {rest : List QueueId}
    (h : (s.ports.get p).list l a = q :: rest) :
    s.issueGrant p l a =
      ((s.modPort p fun b => b.grantTo l a q rest).place
        (.grant p (s.ports.get p).nextTag q ((s.ports.get p).grantSize a q))).modConduct a
        fun r => { r with activity := true } := by
  rcases s.issueGrant_cases p l a with ⟨hnil, -⟩ | ⟨q', rest', hcons, e⟩
  · rw [h] at hnil
    cases hnil
  · rw [h] at hcons
    cases hcons
    exact e

/-- Settles O15: the choice by its two searches, the run by its first grant, and the grant by what it writes on the port,
in the output queue and in the conduct record. -/
theorem grantTakesItsSevenEffects : Obligations.GrantTakesItsSevenEffects := by
  refine ⟨State.choose_spec, fun s p hm ht hr => ?_, fun s p l a q rest hlist hr ht => ?_⟩
  · have hn := State.nextGrant_eq_choose hm ht hr
    cases hc : s.choose p with
    | none => exact State.arbiterRun_of_none (hn.trans hc)
    | some x => exact State.arbiterRun_of_some (hn.trans hc)
  · intro b size left t
    have hlen : b.table.length < 256 := Nat.lt_trans ht (by decide)
    have ht' : t = _ := State.issueGrant_eq hlist
    have hport : t.ports.get p = b.grantTo l a q rest := by rw [ht']; simp [b]
    refine ⟨b.nextTag, fun e he htag => b.nextTag_fresh hlen (htag ▸ List.mem_map_of_mem he), ?_,
      fun n hn => b.nextTag_first hlen n hn, ?_, ?_, fun q' hq' => ?_, ?_, fun c hc => ?_, fun m c => ?_, fun m => ?_,
      ?_, ?_, fun p' hp' => ?_⟩
    · rw [hport, PortBlock.grantTo_tagCounter]
    · rw [hport, PortBlock.grantTo_table]
      rfl
    · rw [State.queue, hport, PortBlock.grantTo_queue, if_pos rfl]
      rfl
    · rw [State.queue, hport, PortBlock.grantTo_queue, if_neg hq'.symm]
      rfl
    · rw [State.cell, hport, PortBlock.grantTo_cell, if_pos rfl]
      rfl
    · rw [State.cell, hport, PortBlock.grantTo_cell, if_neg hc.symm]
      rfl
    · rw [hport, PortBlock.grantTo_list]
      simp only [eq_comm (a := l), eq_comm (a := a)]
      rfl
    · rw [hport, PortBlock.grantTo_ptr]
      simp only [eq_comm (a := l)]
    · rw [ht', State.modConduct_link, State.place_eq_placed, State.modPort_link, placed, if_pos hr]
      rfl
    · rw [ht']
      simp [State.modConduct]
    · exact State.issueGrant_ports_ne s l a hp'.symm

end Sys2Proof.Machine
end

section
/-! PROOF. The shared operations as the statements describe them: notices, reports, the writing pass, parking, and the
entries to STANDBY and to DRAINING. -/

namespace Sys2Proof.Machine

theorem fullOrder_eq {n : Nat} (l : List (Fin n)) : fullOrder l = namedFirst l := rfl

/-! ### Notices (R154) -/

theorem State.post_eq (s : State) (n : Notice) : s.post n = { s with mem := posted s.mem n } := by
  by_cases h : s.mem.notices.length < 32
  · rw [posted, if_pos h]
    exact if_pos h
  · rw [posted, if_neg h]
    exact if_neg h

theorem State.postAll_eq (s : State) (ns : List Notice) : s.postAll ns = { s with mem := ns.foldl posted s.mem } := by
  induction ns generalizing s with
  | nil => rfl
  | cons n ns ih =>
    rw [show s.postAll (n :: ns) = (s.post n).postAll ns from rfl, ih, State.post_eq]
    rfl

/-! ### Reports (R23, R155) -/

theorem mergeInto_eq (held : Option Report) (r : Report) : mergeInto held r = some (mergedInto held r) := by
  cases held <;> rfl

theorem MemSide.writingReport_eq (m : MemSide) (p : Port) : m.writingReport p = reportBeingWritten m p := by
  unfold MemSide.writingReport reportBeingWritten
  rcases m.journalWrite with _ | w
  · rfl
  · rcases w with ⟨i, _, _⟩
    cases i <;> rfl

theorem State.handOver_eq (s : State) (r : Report) : s.handOver r = { s with mem := reportHanded s.mem r.port r } := by
  simp only [State.handOver, reportHanded, MemSide.writingReport_eq, mergeInto_eq]
  rfl

theorem Slot.unwritten_eq (sl : Slot) : sl.unwritten = Sys2Proof.unwritten sl := by
  obtain ⟨held, waiting⟩ := sl
  cases waiting with
  | none => rfl
  | some x => exact congrArg (fun h => ({ held := h, waiting := none } : Slot)) (mergeInto_eq held x)

theorem PortBlock.sumCells_finRange (b : PortBlock) (f : Cell → Nat) :
    b.sumCells f = ((List.finRange 48).map fun a => f (b.cells.get a)).sum := by
  rw [PortBlock.sumCells, Tab.cells_eq, List.map_map]
  rfl

theorem formReport_eq (p : Port) (settled b : PortBlock) :
    formReport p settled b = epochReport p settled b b.mode b.filter.accepted := by
  simp only [formReport, epochReport, PortBlock.sumCells_finRange, Config.maxCount32, Nat.min_comm 4294967295]

/-! ### The writing pass (R151, R153, R157) -/

/-- The first element with a value that satisfies a test is the first value among those that satisfy it. -/
theorem findSome?_filter_eq_find? {α β γ : Type} (f : α → Bool) (g : α → Option β) (h : α → β → γ) (l : List α) :
    (l.filter f).findSome? (fun a => (g a).map (h a)) =
      (l.find? fun a => f a && (g a).isSome).bind fun a => (g a).map (h a) := by
  induction l with
  | nil => rfl
  | cons a l ih =>
    rw [List.filter_cons, List.find?_cons]
    cases hf : f a with
    | false => exact ih
    | true =>
      simp only [if_true, Bool.true_and, List.findSome?_cons]
      cases hg : g a with
      | none => exact ih
      | some b => simp [hg]

theorem MemSide.nextReport_eq (m : MemSide) (k : Nat) : m.nextReport k = reportFrom m k := by
  have hfind := findSome?_filter_eq_find? (fun p : Port => decide (k ≤ p.val)) (fun p => (m.slots.get p).held)
    JournalItem.first (List.finRange 4)
  rw [reportFrom, hfind, MemSide.nextReport]
  change _ = if 2 ≤ m.room then _ else _
  split
  next h => rw [h]; simp
  next p h => rw [h, Option.bind_some]

theorem MemSide.nextNotice_eq (m : MemSide) : m.nextNotice = noticeOrReport m := by
  unfold MemSide.nextNotice noticeOrReport
  rw [MemSide.nextReport_eq]
  rfl

theorem MemSide.failedReport_map (m : MemSide) :
    (m.failedReport.map fun x => JournalItem.first x.1 x.2) =
      m.rewrite.bind fun p => (m.slots.get p).held.map (JournalItem.first p) := by
  unfold MemSide.failedReport
  cases m.rewrite with
  | none => rfl
  | some p => simp [Function.comp_def]

theorem firstOfPass_eq (m : MemSide) : firstOfPass m = (m.nextItem .again).map fun i => (i, m.stageOf .again i) := by
  unfold firstOfPass MemSide.nextItem
  rw [← MemSide.failedReport_map, MemSide.nextNotice_eq]
  rcases hf : m.failedReport with _ | x
  · show (noticeOrReport m).map _ = (noticeOrReport m).map _
    refine congrArg (fun f => (noticeOrReport m).map f) (funext fun i => ?_)
    cases i <;> simp [MemSide.stageOf, hf]
  · show (if 2 ≤ m.room then _ else _) = Option.map _ (if 2 ≤ m.room then _ else _)
    split <;> simp [MemSide.stageOf, hf]

theorem Occasion.writes_eq (o : Occasion) : o.writes = true ↔ o ≠ .boundary false := by
  cases o with
  | boundary w => cases w <;> simp [Occasion.writes]
  | entry => simp [Occasion.writes]
  | resumption => simp [Occasion.writes]
  | parking => simp [Occasion.writes]

theorem MemSide.finalDue_iff (m : MemSide) : m.finalDue = true ↔
    true ∈ m.writesOwed ∨ m.partHalf.any PartHalfWrite.final = true ∨ m.signalWrites.any SignalWrite.final = true := by
  rw [MemSide.finalDue, Bool.or_eq_true, Bool.or_eq_true, List.contains_iff_mem, or_assoc]

theorem State.issuePartHalf_eq (s : State) (f : Bool) : s.issuePartHalf f = partHalfIssued s f := rfl

theorem State.endPass_eq (s : State) (o : Occasion) : s.endPass o = passEnded s o := by
  have hdue := MemSide.finalDue_iff { s.mem with pass := none }
  unfold State.endPass passEnded
  by_cases hw : o = .boundary false
  · subst hw
    rfl
  · simp only [if_pos ((Occasion.writes_eq o).2 hw), hw, false_or]
    unfold State.duePartHalf
    by_cases hf : MemSide.finalDue { s.mem with pass := none } = true
    · rw [if_pos hf, if_pos (hdue.1 hf)]
    · rw [if_neg hf, if_neg fun h => hf (hdue.2 h)]
      cases hp : s.mem.partHalf <;> rfl

theorem pumpPasses_idle {s : State} (h : s.mem.pass = none) (hq : s.mem.passQueue = []) (n : Nat) :
    pumpPasses n s = s := by
  cases n with
  | zero => rfl
  | succ n => simp only [pumpPasses, h, hq]

/-- A pass writes its first record, or ends. -/
theorem pumpPasses_again {s : State} {o : Occasion} (h : s.mem.pass = some { occasion := o, stage := .again })
    (hq : s.mem.passQueue = []) (n : Nat) : pumpPasses (n + 1) s = passBegun s o := by
  unfold passBegun
  rw [firstOfPass_eq]
  cases hi : s.mem.nextItem .again with
  | some i => simp only [pumpPasses, h, hi]; rfl
  | none =>
    simp only [pumpPasses, h, hi, Option.map_none]
    rw [pumpPasses_idle (s.endPass_mem_pass o) (by rw [State.endPass_mem_passQueue, hq]), State.endPass_eq]

/-- The beginning of a pass takes its own stage and the empty queue with it. -/
theorem passBegun_of_idle {s : State} (hq : s.mem.passQueue = []) (o : Occasion) (st : Option Pass) :
    passBegun { s with mem := { s.mem with pass := st, passQueue := [] } } o = passBegun s o := by
  rw [show s = { s with mem := { s.mem with passQueue := [] } } by rw [← hq]]
  rfl

theorem State.startPass_idle {s : State} (h : s.mem.pass = none) (hq : s.mem.passQueue = []) (o : Occasion) :
    s.startPass o = passBegun s o := by
  simp only [State.startPass, h, hq, Option.isNone_none, if_true, State.pump, List.nil_append, List.length_singleton]
  rw [pumpPasses]
  exact (pumpPasses_again rfl rfl 2).trans (passBegun_of_idle hq o _)

theorem State.startPass_busy {s : State} (h : s.mem.pass ≠ none) (o : Occasion) :
    s.startPass o = { s with mem := { s.mem with passQueue := s.mem.passQueue ++ [o] } } := by
  obtain ⟨pass, hp⟩ := Option.ne_none_iff_exists'.1 h
  simp only [State.startPass, hp, Option.isNone_some, Bool.false_eq_true, if_false]

/-! ### What a pass leaves unchanged -/

theorem passTakenBack_trans {s t u : State} (h : passTakenBack s t = s) (k : passTakenBack t u = t) :
    passTakenBack s u = s := by
  have hu := congrArg (passTakenBack s) k
  rw [h] at hu
  exact hu

theorem partHalfIssued_takenBack (s : State) (f : Bool) : passTakenBack s (partHalfIssued s f) = s := rfl

theorem passEnded_takenBack (s : State) (o : Occasion) : passTakenBack s (passEnded s o) = s := by
  unfold passEnded
  dsimp only
  split
  · rfl
  · split <;> rfl

theorem pumpPasses_takenBack (n : Nat) (s : State) : passTakenBack s (pumpPasses n s) = s :=
  pumpPasses_induct (P := fun t => passTakenBack s t = s)
    (fun t pass _ _ h => passTakenBack_trans h (by rw [State.endPass_eq]; exact passEnded_takenBack t pass.occasion))
    (fun _ _ _ _ _ h => passTakenBack_trans h rfl) (fun _ _ _ _ _ h => passTakenBack_trans h rfl) n s rfl

theorem State.startPass_takenBack (s : State) (o : Occasion) : passTakenBack s (s.startPass o) = s := by
  unfold State.startPass
  dsimp only
  split
  · exact passTakenBack_trans (t := { s with mem := { s.mem with passQueue := s.mem.passQueue ++ [o] } }) rfl
      (pumpPasses_takenBack _ _)
  · rfl

theorem State.startPass_fallsDue (s : State) (o : Occasion) : passFallsDue s (s.startPass o) o :=
  ⟨s.startPass_takenBack o, fun h hq => State.startPass_idle h hq o, fun h => State.startPass_busy h o⟩

/-! ### Parking (R147) -/

theorem State.park_eq (s : State) : s.park = parkedNow s := by
  have hports : s.ports.map (fun b => { b with closeOwed := [], changeOwed := [], allocDue := false }) =
      Tab.ofFn fun p => { s.ports.get p with closeOwed := [], changeOwed := [], allocDue := false } :=
    Tab.ext_get fun p => by rw [Tab.get_map, Tab.get_ofFn]
  rw [State.park, hports]
  rfl

theorem State.parkIfDone_parksWhenDone (s : State) : parksWhenDone s s.parkIfDone := by
  have hcond : (s.win.mode = .stopping ∧ s.allStandby = true ∧ s.win.parking = false) ↔
      (s.win.mode = .stopping ∧ s.win.parking = false ∧ ∀ p, (s.ports.get p).mode = .standby) := by
    rw [State.allStandby_iff, and_comm (a := ∀ p, _)]
  unfold parksWhenDone State.parkIfDone
  by_cases h : s.win.mode = .stopping ∧ s.allStandby = true ∧ s.win.parking = false
  · rw [if_pos h, if_pos (hcond.1 h), State.beginParking]
    split
    · exact s.park_eq
    · exact State.startPass_fallsDue _ _
  · rw [if_neg h, if_neg fun h' => h (hcond.2 h')]

/-! ### The entry to STANDBY (R43, R140) -/

theorem PortBlock.standby_eq (b : PortBlock) : b.rest.afterReport.takeDeferred = portAtRest b := by
  have hq : b.queues.map Queue.cleared = Tab.ofFn fun q => { b.queues.get q with tally := 0, waiting := false } :=
    Tab.ext_get fun q => by rw [Tab.get_map, Tab.get_ofFn]; rfl
  have hc : (b.cells.map fun c => c.settle.unstarved) = Tab.ofFn fun a =>
      let x := b.cells.get a
      { x with
        cumAllocated := x.cumAllocated + BitVec.ofNat 64 x.allowance
        cumIssued := x.cumIssued + BitVec.ofNat 64 x.issued
        lastFloor := x.epochFloor, lastNet := x.issued, allowance := 0, issued := 0, starved := 0, reported := false } :=
    Tab.ext_get fun a => by rw [Tab.get_map, Tab.get_ofFn]; rfl
  unfold portAtRest
  rw [← hq, ← hc]
  cases hd : b.deferred <;> simp only [PortBlock.takeDeferred, PortBlock.afterReport, PortBlock.rest, PortBlock.emptyLists,
    hd, Filter.emptied]

/-- The part's slot is taken once every port is in STANDBY (R140). -/
theorem State.takePartDeferred_eq (s : State) : s.takePartDeferred =
    match (if ∀ p, (s.ports.get p).mode = .standby then s.plans.partDeferred else none) with
    | none => s
    | some d => { s with
        timer := s.timer.handOver d.timing
        plans := { s.plans with partDeferred := none }
        mem := posted s.mem (.deferredApplied d.gen s.timer.epoch none) } := by
  by_cases h : ∀ p, (s.ports.get p).mode = .standby
  · rw [if_pos h, State.takePartDeferred]
    cases s.plans.partDeferred with
    | none => rfl
    | some d =>
      show (if s.allStandby = true then _ else s) = _
      rw [if_pos (s.allStandby_iff.2 h), State.post_eq]
  · rw [if_neg h, State.takePartDeferred]
    cases s.plans.partDeferred with
    | none => rfl
    | some d => exact if_neg fun hall => h (s.allStandby_iff.1 hall)

theorem State.standbyEntered_eq (s : State) (p : Port) : s.standbyEntered p = enteredStandby s p := by
  have hnotices (e : Epoch) : (s.ports.get p).deferredNotices p e =
      match (s.ports.get p).deferred with | none => [] | some d => [.deferredApplied d.gen e (some p)] := rfl
  have hreport : formReport p (s.ports.get p) (s.ports.get p).rest =
      epochReport p (s.ports.get p) (s.ports.get p) .standby 0 := by
    rw [formReport_eq]
    rfl
  unfold State.standbyEntered
  dsimp only
  rw [State.modPort_eq_set, State.takePartDeferred_eq, hreport, State.handOver_eq, State.post_eq, State.postAll_eq,
    PortBlock.standby_eq, hnotices]
  unfold enteredStandby
  dsimp only
  rw [List.foldl_append, List.foldl_append]
  generalize (if ∀ p', ((s.ports.set p (portAtRest (s.ports.get p))).get p').mode = .standby then s.plans.partDeferred
    else none) = part
  cases part <;> rfl

theorem State.enterStandby_enters (s : State) (p : Port) : entersStandby s (s.enterStandby p) p := by
  rw [State.enterStandby_eq, State.standbyEntered_eq]
  exact State.parkIfDone_parksWhenDone _

theorem State.restIfDrained_of {s : State} {p : Port} (hm : (s.ports.get p).mode = .draining)
    (ht : (s.ports.get p).table = []) : s.restIfDrained p = s.enterStandby p := if_pos ⟨hm, ht⟩

theorem State.restIfDrained_of_not {s : State} {p : Port}
    (h : ¬((s.ports.get p).mode = .draining ∧ (s.ports.get p).table = [])) : s.restIfDrained p = s := if_neg h

/-! ### The entry to DRAINING (R42) -/

theorem State.enterDraining_enters {s : State} {p : Port}
    (h : (s.ports.get p).mode = .granting ∨ (s.ports.get p).mode = .allocating) :
    entersDraining s (s.enterDraining p) p := by
  rw [State.enterDraining, if_pos h, State.post_eq, State.modPort_eq_set]
  unfold entersDraining
  dsimp only
  split
  next ht =>
    rw [State.restIfDrained_of (by simp) (by simpa using ht)]
    exact State.enterStandby_enters _ _
  next ht => exact State.restIfDrained_of_not fun hc => ht (by simpa using hc.2)

theorem State.enterDraining_of_not {s : State} {p : Port}
    (h : ¬((s.ports.get p).mode = .granting ∨ (s.ports.get p).mode = .allocating)) : s.enterDraining p = s := if_neg h

/-! ### What a removal starts (R43, R51) -/

theorem State.afterRemoval_taken (s : State) (p : Port) : removalTaken s (s.afterRemoval p) p := by
  unfold removalTaken State.afterRemoval
  cases hm : (s.ports.get p).mode with
  | granting => exact if_pos rfl ▸ rfl
  | draining =>
    simp only [reduceCtorEq, if_false, true_and]
    split
    next ht =>
      rw [State.restIfDrained_of hm ht]
      exact s.enterStandby_enters p
    next ht => exact State.restIfDrained_of_not fun hc => ht hc.2
  | standby => simp
  | allocating => simp

end Sys2Proof.Machine
end

section
/-! PROOF. A charge and a cut-off as the statements describe them (R18, R63, R74, R98, R102, R107). -/

namespace Sys2Proof.Machine

theorem band_eq_stateAt (n : Nat) : band n = stateAt n := by
  simp only [band, stateAt, Nat.le_iff_lt_add_one]

/-! ### The REVOKEs in one sequence (R74) -/

theorem mergePorts_map {α β : Type} (g : α → β) (sched : List Port) (t : Tab 4 (List α)) :
    (mergePorts sched t).map g = mergePorts sched (t.map (List.map g)) := by
  induction sched generalizing t with
  | nil => simp only [mergePorts, List.map_flatten]; rfl
  | cons p ps ih =>
    cases hp : t.get p with
    | nil => simp only [mergePorts, hp, Tab.get_map, List.map_nil, ih]
    | cons m ms =>
      have hset : (t.set p ms).map (List.map g) = (t.map (List.map g)).set p (ms.map g) :=
        Tab.ext_get fun q => by rw [Tab.get_map, Tab.get_set, Tab.get_set, Tab.get_map]; split <;> rfl
      simp only [mergePorts, hp, Tab.get_map, List.map_cons, ih, hset]

/-- Of a list of lists of which one alone holds what passes a test, and all of it passes, the test leaves that one. -/
theorem filter_flatten_map_finRange {α : Type} {n : Nat} (t : Fin n → List α) (port : α → Fin n)
    (h : ∀ p, ∀ x ∈ t p, port x = p) (p : Fin n) :
    (((List.finRange n).map t).flatten.filter fun x => decide (port x = p)) = t p := by
  have hone (q : Fin n) : (t q).filter (fun x => decide (port x = p)) = if q = p then t p else [] := by
    split
    next hq => exact hq ▸ List.filter_eq_self.2 fun x hx => decide_eq_true (hq ▸ h q x hx)
    next hq => exact List.filter_eq_nil_iff.2 fun x hx => by simpa [h q x hx] using hq
  have key (l : List (Fin n)) (hl : l.Nodup) :
      ((l.map t).flatten.filter fun x => decide (port x = p)) = if p ∈ l then t p else [] := by
    induction l with
    | nil => rfl
    | cons q qs ih =>
      obtain ⟨hq, hqs⟩ := List.nodup_cons.1 hl
      rw [List.map_cons, List.flatten_cons, List.filter_append, hone, ih hqs]
      by_cases hqp : q = p
      · subst hqp
        rw [if_pos rfl, if_neg hq, if_pos List.mem_cons_self, List.append_nil]
      · have hmem : p ∈ q :: qs ↔ p ∈ qs := List.mem_cons.trans (or_iff_right fun h => hqp h.symm)
        simp only [hqp, if_false, List.nil_append, hmem]
  rw [key _ (List.nodup_finRange n), if_pos (List.mem_finRange p)]

/-- In the one sequence each port's messages keep their order. -/
theorem mergePorts_filter {α : Type} (port : α → Port) (sched : List Port) (t : Tab 4 (List α))
    (h : ∀ p, ∀ x ∈ t.get p, port x = p) (p : Port) :
    ((mergePorts sched t).filter fun x => decide (port x = p)) = t.get p := by
  induction sched generalizing t with
  | nil =>
    rw [mergePorts, Tab.cells_eq]
    exact filter_flatten_map_finRange t.get port h p
  | cons q qs ih =>
    cases hq : t.get q with
    | nil =>
      simp only [mergePorts, hq]
      exact ih t h
    | cons m ms =>
      have hm : ∀ x ∈ m :: ms, port x = q := hq ▸ h q
      have hset : ∀ p', ∀ x ∈ (t.set q ms).get p', port x = p' := fun p' x hx => by
        rw [Tab.get_set] at hx
        split at hx
        next hp' => exact hp' ▸ hm x (List.mem_cons_of_mem _ hx)
        next => exact h p' x hx
      simp only [mergePorts, hq]
      rw [List.filter_cons, hm m List.mem_cons_self, ih _ hset, Tab.get_set]
      by_cases hqp : q = p
      · subst hqp
        simp [hq]
      · simp [hqp]

theorem State.placeAll_eq (s : State) (ms : List OutMsg) :
    s.placeAll ms = { s with link := { s.link with output := s.link.output ++ ms.take (64 - s.link.output.length) } } := by
  induction ms generalizing s with
  | nil => simp [State.placeAll]
  | cons m ms ih =>
    rw [show s.placeAll (m :: ms) = (s.place m).placeAll ms from rfl, ih, State.place_eq_placed]
    by_cases h : s.link.output.length < 64
    · obtain ⟨k, hk⟩ : ∃ k, 64 - s.link.output.length = k + 1 := ⟨_, (Nat.succ_pred (by omega)).symm⟩
      have hk' : 64 - (s.link.output ++ [m]).length = k := by rw [List.length_append, List.length_singleton]; omega
      simp only [placed, if_pos h, hk, hk', List.take_succ_cons, List.append_assoc, List.singleton_append]
    · have hz : 64 - s.link.output.length = 0 := by omega
      simp only [placed, if_neg h, hz, List.take_zero]

/-- The tags a port revokes at an account's cut-off, in their order (R63). -/
def PortBlock.revokedTags (b : PortBlock) (a : Account) : List Tag :=
  if b.mode = .standby then [] else ((b.table.filter (·.liveOf a)).map Entry.tag).insertionSort (· ≤ ·)

theorem PortBlock.revokes_eq (b : PortBlock) (p : Port) (a : Account) :
    b.revokes p a = (b.revokedTags a).map (OutMsg.revoke p) := by
  unfold PortBlock.revokes PortBlock.revokedTags
  split <;> rfl

theorem Entry.liveOf_eq (e : Entry) (a : Account) : e.liveOf a = decide (e.state = .live ∧ e.account = a) := by
  rw [Entry.liveOf, Bool.decide_and]

theorem PortBlock.revokedTags_pairwise (b : PortBlock) (a : Account) : (b.revokedTags a).Pairwise (· ≤ ·) := by
  unfold PortBlock.revokedTags
  split
  · exact List.Pairwise.nil
  · exact List.pairwise_insertionSort _ _

theorem PortBlock.revokedTags_perm (b : PortBlock) (a : Account) : (b.revokedTags a).Perm
    (if b.mode = .standby then [] else
      (b.table.filter fun e => decide (e.state = .live ∧ e.account = a)).map Entry.tag) := by
  simp only [← Entry.liveOf_eq]
  unfold PortBlock.revokedTags
  split
  · exact List.Perm.refl _
  · exact List.perm_insertionSort _ _

/-- Every port's revoked tags with their port, in the order in which the REVOKEs are placed (R74). -/
def State.revoked (s : State) (a : Account) (sched : List Port) : List (Port × Tag) :=
  mergePorts sched (s.ports.mapIdx fun p b => (b.revokedTags a).map fun t => (p, t))

theorem State.revoked_filter (s : State) (a : Account) (sched : List Port) (p : Port) :
    (((s.revoked a sched).filter fun m => decide (m.1 = p)).map Prod.snd) = (s.ports.get p).revokedTags a := by
  rw [State.revoked, mergePorts_filter Prod.fst, Tab.get_mapIdx, List.map_map]
  · exact List.map_id _
  · intro q x hx
    rw [Tab.get_mapIdx] at hx
    obtain ⟨t, -, rfl⟩ := List.mem_map.1 hx
    rfl

theorem State.revoked_map (s : State) (a : Account) (sched : List Port) :
    ((s.revoked a sched).map fun m => OutMsg.revoke m.1 m.2) =
      mergePorts sched (s.ports.mapIdx fun p b => b.revokes p a) := by
  rw [State.revoked, mergePorts_map]
  refine congrArg _ (Tab.ext_get fun p => ?_)
  rw [Tab.get_map, Tab.get_mapIdx, Tab.get_mapIdx, PortBlock.revokes_eq, List.map_map]
  rfl

/-! ### The cut-off (R18, R63, R102) -/

theorem Allocation.mem_mark (al : Allocation) (a x : Account) : x ∈ (al.mark a).marked ↔ x ∈ al.marked ∨ x = a := by
  simp only [Allocation.mark]
  split
  next h => exact ⟨.inl, fun hx => hx.elim id (fun e => e ▸ h)⟩
  next h => simp

theorem State.enterCutOff_link (s : State) (a : Account) (sched : List Port) :
    (s.enterCutOff a sched).link = { s.link with output := s.link.output ++
      ((s.revoked a sched).map fun m => OutMsg.revoke m.1 m.2).take (64 - s.link.output.length) } := by
  simp only [State.enterCutOff, State.revoked_map]
  rw [State.placeAll_eq]
  simp

/-- The state in which an account is charged: fault seen. -/
def State.faultSeen (s : State) (a : Account) : State := s.modConduct a fun r => { r with fault := true }

theorem State.faultSeen_score (s : State) (a x : Account) :
    ((s.faultSeen a).conduct.recs.get x).score = (s.conduct.recs.get x).score := by
  rw [State.faultSeen, State.modConduct_recs_get]
  split <;> rfl

theorem State.enterCutOff_cutsOff (s : State) (a : Account) (sched : List Port) :
    cutsOff s ((s.faultSeen a).enterCutOff a sched) a := by
  have hold : (s.faultSeen a).conductOf a = stateAt (s.conduct.recs.get a).score := by
    rw [State.conductOf, ConductRec.state, State.faultSeen_score, band_eq_stateAt]
  have hmem : (s.faultSeen a).mem = s.mem := rfl
  refine ⟨?_, fun x hx => ?_, ?_, ?_, fun p => ?_, ⟨(s.faultSeen a).revoked a sched, fun p => ?_, ?_⟩, ?_, ?_, ?_, ?_, ?_⟩
  · simp [State.faultSeen, ConductRec.cutOff, Config.cutOffScore]
  · rw [State.enterCutOff_conduct, State.modConduct_recs_get, if_neg hx.symm, State.faultSeen, State.modConduct_recs_get,
      if_neg hx.symm]
  · rw [State.enterCutOff_conduct]
    rfl
  · rw [State.enterCutOff_mem, State.post_eq, hold, hmem]
    rfl
  · dsimp only
    rw [State.enterCutOff_ports_get]
    have hport : (s.faultSeen a).ports.get p = s.ports.get p := rfl
    rw [hport]
    refine ⟨rfl, fun x => ?_, fun h => ?_, fun al h => ?_, ?_, fun q => (s.ports.get p).cutOff_queue a q, fun l x => ?_⟩
    · rw [PortBlock.cutOff_cell]
      by_cases hx : x = a
      · subst hx
        rw [if_pos rfl, if_pos rfl]
        rfl
      · rw [if_neg hx, if_neg fun h => hx h.symm]
    · simp [PortBlock.cutOff, h]
    · exact ⟨_, by simp [PortBlock.cutOff, h, Allocation.mark], al.mem_mark a⟩
    · simp only [PortBlock.cutOff, Entry.liveOf_eq, decide_eq_true_eq]
      rfl
    · rw [PortBlock.cutOff_list]
      simp only [eq_comm (a := a)]
  · dsimp only
    rw [State.revoked_filter]
    exact ⟨PortBlock.revokedTags_pairwise _ a, PortBlock.revokedTags_perm _ a⟩
  · exact State.enterCutOff_link _ a sched
  all_goals simp [State.faultSeen]

/-- A charge, by the account's score before and after it (R98). -/
theorem State.charge_charged (s : State) (a : Account) (n : Nat) (sched : List Port) :
    charged s (s.charge a n sched) a n := by
  have hband (k : Nat) : band (min 256 k) = .cutOff ↔ 256 ≤ k := by rw [band_eq_cutOff]; omega
  have hst : s.conductOf a = .cutOff ↔ 256 ≤ (s.conduct.recs.get a).score := band_eq_cutOff _
  unfold charged State.charge
  dsimp only
  simp only [hst, Config.cutOffScore, hband]
  split
  · rfl
  · split
    · exact s.enterCutOff_cutsOff a sched
    next h =>
      have hmin : min 256 ((s.conduct.recs.get a).score + n) = (s.conduct.recs.get a).score + n := by omega
      have hold : s.conductOf a = stateAt (s.conduct.recs.get a).score := band_eq_stateAt _
      have hrecs : (s.modConduct a fun r => { r with fault := true }).modConduct a
          (fun r => { r with score := (s.conduct.recs.get a).score + n }) = { s with
            conduct := { s.conduct with
              recs := s.conduct.recs.set a { s.conduct.recs.get a with
                score := (s.conduct.recs.get a).score + n, fault := true } } } := by
        have htab : (s.conduct.recs.modify a fun r => { r with fault := true }).modify a
            (fun r => { r with score := (s.conduct.recs.get a).score + n }) = s.conduct.recs.set a
              { s.conduct.recs.get a with score := (s.conduct.recs.get a).score + n, fault := true } :=
          Tab.ext_get fun x => by
            simp only [Tab.get_modify, Tab.get_set]
            split
            next hx => subst hx; rfl
            next => rfl
        simp only [State.modConduct, htab]
      simp only [hmin, hold, band_eq_stateAt, hrecs, State.post_eq]
      split <;> rfl

end Sys2Proof.Machine
end

section
/-! PROOF. The transmitter, and the closes (R51, R55 to R58, R73). -/

namespace Sys2Proof.Machine

/-! ### The transmitter -/

theorem exec_transmitMessage (order : List Port) (s : State) :
    exec (.transmitMessage order) s = execTransmitMessage order s := rfl

/-- Runs change no port's state, so which ports run is settled before the first. -/
theorem State.runAll_eq (s : State) (order : List Port) : s.runAll order =
    (order.filter fun p => decide ((s.ports.get p).mode = .granting)).foldl (fun u p => u.arbiterRun p) s := by
  have key (u : State) (hu : ∀ p, (u.ports.get p).mode = (s.ports.get p).mode) : u.runAll order =
      (order.filter fun p => decide ((s.ports.get p).mode = .granting)).foldl (fun u p => u.arbiterRun p) u := by
    induction order generalizing u with
    | nil => rfl
    | cons p ps ih =>
      rw [List.filter_cons]
      by_cases hp : (s.ports.get p).mode = .granting
      · rw [if_pos (decide_eq_true hp), List.foldl_cons, ← ih _ fun q => by rw [State.arbiterRun_ports_mode, hu q]]
        exact congrArg (fun v : State => v.runAll ps) (if_pos ((hu p).trans hp))
      · rw [if_neg (by simpa using hp), ← ih u hu]
        exact congrArg (fun v : State => v.runAll ps) (if_neg fun h => hp ((hu p).symm.trans h))
  exact key s fun _ => rfl

/-- Where nothing is left to grant, another run leaves nothing either. -/
theorem State.nothingToGrant_arbiterRun {s : State} {p : Port} (hm : (s.ports.get p).mode = .granting)
    (h : s.nothingToGrant p) (q : Port) : (s.arbiterRun q).nothingToGrant p := by
  by_cases hq : q = p
  · subst hq
    exact State.arbiterRun_nothingToGrant hm
  · have hport := s.arbiterRun_ports_ne hq
    have hlen := (s.arbiterRun_output_prefix q).length_le
    rcases h with h | h | h
    · exact .inl (hport ▸ h)
    · exact .inr (.inl (h.trans hlen))
    · refine .inr (.inr fun l a => ?_)
      rw [State.arbiterRun_conductOf, State.cell, hport]
      exact h l a

section
variable (l : List Port) (s : State)

theorem State.runs_mode (p : Port) :
    ((l.foldl (fun u p => u.arbiterRun p) s).ports.get p).mode = (s.ports.get p).mode :=
  List.foldlRecOn (motive := fun u : State => (u.ports.get p).mode = (s.ports.get p).mode) l _ rfl
    fun u hu q _ => by rw [State.arbiterRun_ports_mode, hu]

theorem State.runs_port {p : Port} (h : p ∉ l) :
    (l.foldl (fun u p => u.arbiterRun p) s).ports.get p = s.ports.get p :=
  List.foldlRecOn (motive := fun u : State => u.ports.get p = s.ports.get p) l _ rfl
    fun u hu q hq => by rw [State.arbiterRun_ports_ne u (fun e : q = p => h (e ▸ hq)), hu]

theorem State.runs_output : s.link.output <+: (l.foldl (fun u p => u.arbiterRun p) s).link.output :=
  List.foldlRecOn (motive := fun u : State => s.link.output <+: u.link.output) l _ (List.prefix_refl _)
    fun u hu q _ => hu.trans (u.arbiterRun_output_prefix q)

theorem State.runs_nothingToGrant {p : Port} (hm : (s.ports.get p).mode = .granting) (h : p ∈ l) :
    (l.foldl (fun u p => u.arbiterRun p) s).nothingToGrant p := by
  induction l generalizing s with
  | nil => cases h
  | cons q qs ih =>
    rcases List.mem_cons.1 h with rfl | hp
    · refine (List.foldlRecOn (motive := fun u : State => (u.ports.get p).mode = .granting ∧ u.nothingToGrant p) qs _
        ⟨?_, State.arbiterRun_nothingToGrant hm⟩ fun u hu q _ => ⟨?_, State.nothingToGrant_arbiterRun hu.1 hu.2 q⟩).2
      · rw [State.arbiterRun_ports_mode, hm]
      · rw [State.arbiterRun_ports_mode, hu.1]
    · exact ih _ (by rw [State.arbiterRun_ports_mode, hm]) hp

end

theorem mem_namedFirst {n : Nat} (l : List (Fin n)) (i : Fin n) : i ∈ namedFirst l := by
  rw [namedFirst, List.mem_append, List.mem_dedup, List.mem_filter]
  by_cases h : i ∈ l
  · exact .inl h
  · exact .inr ⟨List.mem_finRange i, decide_eq_true h⟩

/-- Settles O20: the ports that run are those GRANTING before, and what the runs keep, each run keeps. -/
theorem transmitterTakesTheHead : Obligations.TransmitterTakesTheHead := by
  intro s order m rest hout sent
  have hexec : exec (.transmitMessage order) s = .next (sent.runAll (namedFirst order)) := by
    rw [exec_transmitMessage, execTransmitMessage, hout]
    rfl
  have hruns := sent.runAll_eq (namedFirst order)
  refine ⟨_, hexec, hruns, ?_, ?_, ?_, fun p => ?_, fun p hp => ?_, fun p hp => ?_, fun hp => ?_, ?_, ?_, ?_, ?_, ?_⟩
  · exact State.runAll_induct (P := fun t => t.link.sending = some m.wire) _
      (fun u p _ h => by rw [State.arbiterRun_sending, h]) sent rfl
  · exact State.runAll_induct (P := fun t => t.link.discards = s.link.discards) _
      (fun u p _ h => by rw [State.arbiterRun_discards, h]) sent rfl
  · rw [hruns]
    exact State.runs_output _ sent
  · rw [hruns, State.runs_mode]
  · rw [hruns, State.runs_port]
    exact fun h => hp (of_decide_eq_true (List.mem_filter.1 h).2)
  · rw [hruns]
    exact State.runs_nothingToGrant _ sent hp (List.mem_filter.2 ⟨mem_namedFirst order p, decide_eq_true hp⟩)
  · rw [hruns, List.filter_eq_nil_iff.2 fun p _ => by simpa using hp p]
    rfl
  all_goals simp [sent]

/-! ### What a CLOSE writes on its port (R56 to R58) -/

section
variable (b : PortBlock) (e : Entry) (used : Nat)

/-- Two changes of one cell, one after the other. -/
theorem Tab.modify_modify {α : Type} {n : Nat} (t : Tab n α) (i : Fin n) (f g : α → α) :
    (t.modify i f).modify i g = t.modify i fun x => g (f x) :=
  Tab.ext_get fun j => by
    simp only [Tab.get_modify]
    split <;> rfl

theorem PortBlock.closeLive_within (h : used ≤ e.units) : b.closeLive e used = { b with
    table := b.table.filter (fun x => decide (x.tag ≠ e.tag))
    counts := { b.counts with used := min (b.counts.used + used) 4294967295 }
    cells := b.cells.modify e.account fun c => { c with
      cumUsed := c.cumUsed + BitVec.ofNat 64 used
      issued := if e.issued = b.openEpoch then c.issued - (e.units - used) else c.issued } } := by
  simp only [PortBlock.closeLive, if_pos h]
  unfold PortBlock.takeReturn
  by_cases ho : e.issued = b.openEpoch
  · rw [if_pos (show e.issued = ((b.removeEntry e.tag).countUsed e.account used).openEpoch from ho)]
    simp only [if_pos ho, PortBlock.modCell, PortBlock.countUsed, PortBlock.removeEntry, Tab.modify_modify]
    rfl
  · rw [if_neg (show ¬e.issued = ((b.removeEntry e.tag).countUsed e.account used).openEpoch from ho)]
    simp only [if_neg ho, PortBlock.modCell, PortBlock.countUsed, PortBlock.removeEntry]
    rfl

theorem PortBlock.closeLive_overrun (h : e.units < used) : b.closeLive e used = { b with
    table := b.table.filter (fun x => decide (x.tag ≠ e.tag))
    counts := { b.counts with
      used := min (b.counts.used + used) 4294967295
      overrun := min (b.counts.overrun + (used - e.units)) 4294967295 }
    cells := b.cells.modify e.account fun c => { c with
      cumUsed := c.cumUsed + BitVec.ofNat 64 used
      cumOverrun := c.cumOverrun + BitVec.ofNat 64 (used - e.units) } } := by
  simp only [PortBlock.closeLive, if_neg (Nat.not_le.2 h), PortBlock.countOverrun, PortBlock.modCell, PortBlock.countUsed,
    PortBlock.removeEntry, Tab.modify_modify]
  rfl

theorem PortBlock.closeLapsed_eq : b.closeLapsed e used = { b with
    table := b.table.filter (fun x => decide (x.tag ≠ e.tag))
    counts := { b.counts with
      used := min (b.counts.used + used) 4294967295
      late := min (b.counts.late + 1) 4294967295 }
    cells := b.cells.modify e.account fun c => { c with cumUsed := c.cumUsed + BitVec.ofNat 64 used } } := rfl

end

/-! ### What a CLOSE does, by the entry it finds -/

section
variable {s : State} {p : Port} {t : Tag} {e : Entry} {used : Word16} (ff : Bool) (sched : List Port)

theorem execClose_of_lapsed (h : (s.ports.get p).entry t = some e) (hst : e.state = .lapsed) :
    execClose p t used ff sched s = .next ((s.modPort p fun b => b.closeLapsed e used.toNat).afterRemoval p) := by
  simp only [execClose, h, hst]

theorem execClose_within (h : (s.ports.get p).entry t = some e) (hst : e.state = .live) (hu : used.toNat ≤ e.units) :
    execClose p t used ff sched s = .next ((s.modPort p fun b => b.closeLive e used.toNat).afterRemoval p) := by
  simp only [execClose, h, hst, if_pos hu]

theorem execClose_overrun (h : (s.ports.get p).entry t = some e) (hst : e.state = .live) (hu : e.units < used.toNat) :
    execClose p t used ff sched s = .next
      (if ff then ((s.modPort p fun b => b.closeLive e used.toNat).afterRemoval p).charge e.account 8 sched
      else ((s.modPort p fun b => b.closeLive e used.toNat).charge e.account 8 sched).afterRemoval p) := by
  simp only [execClose, h, hst, if_neg (Nat.not_le.2 hu), Config.overrunCharge]
  cases ff <;> rfl

end

section
variable {s : State} {p : Port}

theorem State.afterRemoval_granting (h : (s.ports.get p).mode = .granting) : s.afterRemoval p = s.arbiterRun p := by
  simp only [State.afterRemoval, h]

theorem State.afterRemoval_draining (h : (s.ports.get p).mode = .draining) : s.afterRemoval p = s.restIfDrained p := by
  simp only [State.afterRemoval, h]

theorem State.afterRemoval_quiet (h : (s.ports.get p).mode = .allocating ∨ (s.ports.get p).mode = .standby ∨
    (s.ports.get p).mode = .draining ∧ (s.ports.get p).table ≠ []) : s.afterRemoval p = s := by
  rcases h with h | h | ⟨h, ht⟩
  · simp only [State.afterRemoval, h]
  · simp only [State.afterRemoval, h]
  · rw [State.afterRemoval_draining h, State.restIfDrained_of_not fun hc => ht hc.2]

end

/-- Settles O21: the close writes its port, and what follows is by the port's state. -/
theorem closeReturnsUnusedUnits : Obligations.CloseReturnsUnusedUnits := by
  intro s p t used ff sched e hfind hlive hu u
  have htag : e.tag = t := (PortBlock.entry_some hfind).2
  have hexec : exec (.close p t used ff sched) s = .next (u.afterRemoval p) := by
    rw [exec_close, execClose_within ff sched hfind hlive hu, State.modPort_eq_set, PortBlock.closeLive_within _ e _ hu, htag]
  have hmode : (u.ports.get p).mode = (s.ports.get p).mode := by simp [u]
  refine ⟨fun hm => ?_, fun hm ht => ?_, fun hm => ⟨?_, ?_, fun h => ?_⟩⟩
  · rw [hexec, State.afterRemoval_quiet (.inl (hmode.trans hm))]
  · rw [hexec, State.afterRemoval_quiet (.inr (.inr ⟨hmode.trans hm, ht⟩))]
  · rw [hexec, State.afterRemoval_granting (hmode.trans hm)]
  · exact State.arbiterRun_nothingToGrant (hmode.trans hm)
  · exact State.arbiterRun_of_none ((State.nothingToGrant_iff (hmode.trans hm)).1 h)

/-- Settles O23. -/
theorem lateCloseIsOnlyCounted : Obligations.LateCloseIsOnlyCounted := by
  intro s p t used ff sched e hfind hlapsed b left u
  have htag : e.tag = t := (PortBlock.entry_some hfind).2
  have hexec : exec (.close p t used ff sched) s = .next (u.afterRemoval p) := by
    rw [exec_close, execClose_of_lapsed ff sched hfind hlapsed, State.modPort_eq_set, PortBlock.closeLapsed_eq, htag]
  have hmode : (u.ports.get p).mode = b.mode := by simp [u, b]
  have htable : (u.ports.get p).table = left := by simp [u]
  refine ⟨fun h => ?_, fun hm => ⟨?_, ?_⟩, fun hm ht => ⟨_, hexec, ?_⟩⟩
  · rw [hexec, State.afterRemoval_quiet (by rwa [hmode, htable])]
  · rw [hexec, State.afterRemoval_granting (hmode.trans hm)]
  · exact State.arbiterRun_nothingToGrant (hmode.trans hm)
  · rw [State.afterRemoval_draining (hmode.trans hm), State.restIfDrained_of (hmode.trans hm) (htable.trans ht)]
    exact State.enterStandby_enters u p

/-! ### The overrun (R57, R98) -/

/-- The scores after a charge (R98). -/
theorem charged_score {s t : State} {a : Account} {n : Nat} (h : charged s t a n) (x : Account) :
    (t.conduct.recs.get x).score =
      if x = a ∧ (s.conduct.recs.get x).score < 256 then min 256 ((s.conduct.recs.get x).score + n)
      else (s.conduct.recs.get x).score := by
  unfold charged at h
  dsimp only at h
  by_cases hx : x = a
  · subst hx
    split at h
    next hcut =>
      rw [h, if_neg (by omega)]
      simp
    next hcut =>
      rw [if_pos ⟨rfl, Nat.not_le.1 hcut⟩]
      split at h
      · rw [h.1]
        show 256 = _
        omega
      · rw [h]
        simp
        omega
  · rw [if_neg fun hc => hx hc.1]
    split at h
    · rw [h]
      simp [Tab.get_set_ne _ _ (Ne.symm hx)]
    · split at h
      · rw [h.2.1 x hx]
      · rw [h]
        simp [Tab.get_set_ne _ _ (Ne.symm hx)]

theorem charged_fault {s t : State} {a : Account} {n : Nat} (h : charged s t a n) :
    (t.conduct.recs.get a).fault = true := by
  unfold charged at h
  dsimp only at h
  split at h
  · rw [h]
    simp
  · split at h
    · rw [h.1]
    · rw [h]
      simp

/-- Of a cell, a charge writes credit and allowance alone (R18). -/
theorem State.charge_cell (s : State) (a : Account) (n : Nat) (sched : List Port) (p : Port) (x : Account) :
    ∃ k l, (s.charge a n sched).cell p x = { s.cell p x with credit := k, allowance := l } := by
  rcases s.charge_ports a n sched with h | ⟨-, -, h⟩
  · exact ⟨_, _, by rw [State.cell, h]; rfl⟩
  · rw [State.cell, h, PortBlock.cutOff_cell]
    split
    · exact ⟨_, _, rfl⟩
    · exact ⟨_, _, rfl⟩

theorem State.enterStandby_cell (s : State) (p q : Port) (a : Account) :
    (s.enterStandby p).cell q a = if p = q then (s.cell q a).settle.unstarved else s.cell q a := by
  rw [State.cell, State.enterStandby_ports_cells]
  split
  · simp [State.cell]
  · rfl

/-- What a removal starts counts no used and no overrun units. -/
theorem State.afterRemoval_cum (s : State) (p q : Port) (a : Account) :
    ((s.afterRemoval p).cell q a).cumUsed = (s.cell q a).cumUsed ∧
      ((s.afterRemoval p).cell q a).cumOverrun = (s.cell q a).cumOverrun := by
  unfold State.afterRemoval
  split
  · by_cases hq : p = q
    · subst hq
      obtain ⟨n, -, hn⟩ := s.arbiterRun_cell p a
      rw [hn]
      exact ⟨rfl, rfl⟩
    · rw [State.cell, State.arbiterRun_ports_ne s hq]
      exact ⟨rfl, rfl⟩
  · rcases s.restIfDrained_cases p with ⟨-, -, e⟩ | ⟨-, e⟩
    · rw [e, State.enterStandby_cell]
      split <;> exact ⟨rfl, rfl⟩
    · rw [e]
      exact ⟨rfl, rfl⟩
  · exact ⟨rfl, rfl⟩
  · exact ⟨rfl, rfl⟩

/-- What a removal starts writes of the conduct unit activity seen alone. -/
theorem State.afterRemoval_rec (s : State) (p : Port) (a : Account) :
    ∃ act, (s.afterRemoval p).conduct.recs.get a = { s.conduct.recs.get a with activity := act } := by
  unfold State.afterRemoval
  split
  · exact State.arbiterRun_induct
      (P := fun t => ∃ act, t.conduct.recs.get a = { s.conduct.recs.get a with activity := act }) p
      (fun t l x _ ⟨act, ht⟩ => by
        rcases t.issueGrant_cases p l x with ⟨-, e⟩ | ⟨_, _, _, e⟩
        · exact ⟨act, by rw [e, ht]⟩
        · rw [e, State.modConduct_recs_get, State.place_conduct, State.modPort_conduct]
          split
          · exact ⟨true, by rw [ht]⟩
          · exact ⟨act, ht⟩) s ⟨_, rfl⟩
  · rw [State.restIfDrained_conduct]
    exact ⟨_, rfl⟩
  · exact ⟨_, rfl⟩
  · exact ⟨_, rfl⟩

/-- On a GRANTING or ALLOCATING port a removal starts a run at most. -/
theorem State.afterRemoval_serving {s : State} {p : Port}
    (h : (s.ports.get p).mode = .allocating ∨ (s.ports.get p).mode = .granting) :
    (((s.afterRemoval p).ports.get p).counts = (s.ports.get p).counts ∧
      ∀ a, (s.cell p a).issued ≤ ((s.afterRemoval p).cell p a).issued) ∧
    (s.afterRemoval p).timer = s.timer ∧ (s.afterRemoval p).plans = s.plans ∧ (s.afterRemoval p).win = s.win := by
  rcases h with h | h
  · rw [State.afterRemoval_quiet (.inl h)]
    exact ⟨⟨rfl, fun _ => le_rfl⟩, rfl, rfl, rfl⟩
  · rw [State.afterRemoval_granting h]
    refine ⟨⟨s.arbiterRun_ports_counts p p, fun a => ?_⟩, s.arbiterRun_timer p, s.arbiterRun_plans p, s.arbiterRun_win p⟩
    obtain ⟨n, hn, e⟩ := s.arbiterRun_cell p a
    rw [e]
    exact hn

/-- Settles O22: charge and removal in either order, each by its own statement. -/
theorem overrunIsChargedToTheAccount : Obligations.OverrunIsChargedToTheAccount := by
  intro s p t used ff sched e hfind hlive hu b counts removed
  have htag : e.tag = t := (PortBlock.entry_some hfind).2
  have hexec : exec (.close p t used ff sched) s = .next
      (if ff then (removed.afterRemoval p).charge e.account 8 sched
      else (removed.charge e.account 8 sched).afterRemoval p) := by
    rw [exec_close, execClose_overrun ff sched hfind hlive hu, State.modPort_eq_set,
      PortBlock.closeLive_overrun _ e _ hu, htag]
  have hcell (a : Account) : removed.cell p a = if e.account = a then { s.cell p a with
      cumUsed := (s.cell p a).cumUsed + BitVec.ofNat 64 used.toNat
      cumOverrun := (s.cell p a).cumOverrun + BitVec.ofNat 64 (used.toNat - e.units) } else s.cell p a := by
    simp only [removed, State.cell, Tab.get_set_self, Tab.get_modify]
    split <;> rfl
  have hused (a : Account) : (removed.cell p a).cumUsed =
      (s.cell p a).cumUsed + if a = e.account then BitVec.ofNat 64 used.toNat else 0 := by
    simp only [hcell, eq_comm (a := a)]
    split <;> simp
  have hover (a : Account) : (removed.cell p a).cumOverrun =
      (s.cell p a).cumOverrun + if a = e.account then BitVec.ofNat 64 (used.toNat - e.units) else 0 := by
    simp only [hcell, eq_comm (a := a)]
    split <;> simp
  have hissued (a : Account) : (removed.cell p a).issued = (s.cell p a).issued := by
    rw [hcell]
    split <;> rfl
  have hmode : (removed.ports.get p).mode = b.mode := by simp [removed]
  have hcounts : (removed.ports.get p).counts = counts := by simp [removed]
  refine ⟨_, hexec, ?_⟩
  cases ff with
  | true =>
    have hch := (removed.afterRemoval p).charge_charged e.account 8 sched
    refine ⟨fun _ => ⟨_, removed.afterRemoval_taken p, hch⟩, (fun h => by cases h), fun a => ?_, charged_fault hch,
      fun a => ?_, fun a => ?_, fun hserving => ?_⟩
    · obtain ⟨act, hact⟩ := removed.afterRemoval_rec p a
      have hsc := charged_score hch a
      rw [hact] at hsc
      exact hsc
    · obtain ⟨k, l, hk⟩ := (removed.afterRemoval p).charge_cell e.account 8 sched p a
      rw [if_pos rfl, hk, ← hused]
      exact (removed.afterRemoval_cum p p a).1
    · obtain ⟨k, l, hk⟩ := (removed.afterRemoval p).charge_cell e.account 8 sched p a
      rw [if_pos rfl, hk, ← hover]
      exact (removed.afterRemoval_cum p p a).2
    · obtain ⟨⟨hc, hi⟩, htm, hpl, hw⟩ := State.afterRemoval_serving (hmode.symm ▸ hserving)
      simp only [if_true, State.charge_ports_counts, State.charge_timer, State.charge_plans, State.charge_win]
      refine ⟨hc.trans hcounts, fun a => ?_, htm, hpl, hw⟩
      obtain ⟨k, l, hk⟩ := (removed.afterRemoval p).charge_cell e.account 8 sched p a
      rw [hk, ← hissued]
      exact hi a
  | false =>
    have hch := removed.charge_charged e.account 8 sched
    obtain ⟨act, hact⟩ := (removed.charge e.account 8 sched).afterRemoval_rec p e.account
    refine ⟨(fun h => by cases h), fun _ => ⟨_, hch, State.afterRemoval_taken _ p⟩, fun a => ?_, ?_, fun a => ?_,
      fun a => ?_, fun hserving => ?_⟩
    · obtain ⟨act, hact⟩ := (removed.charge e.account 8 sched).afterRemoval_rec p a
      simp only [Bool.false_eq_true, if_false]
      rw [hact]
      exact charged_score hch a
    · simp only [Bool.false_eq_true, if_false]
      rw [hact]
      exact charged_fault hch
    · obtain ⟨k, l, hk⟩ := removed.charge_cell e.account 8 sched p a
      refine ((removed.charge e.account 8 sched).afterRemoval_cum p p a).1.trans ?_
      rw [hk, ← hused]
    · obtain ⟨k, l, hk⟩ := removed.charge_cell e.account 8 sched p a
      refine ((removed.charge e.account 8 sched).afterRemoval_cum p p a).2.trans ?_
      rw [hk, ← hover]
    · have hm : ((removed.charge e.account 8 sched).ports.get p).mode = b.mode := by rw [State.charge_ports_mode, hmode]
      obtain ⟨⟨hc, hi⟩, htm, hpl, hw⟩ := State.afterRemoval_serving (hm.symm ▸ hserving)
      simp only [State.charge_ports_counts, State.charge_timer, State.charge_plans, State.charge_win] at hc htm hpl hw
      refine ⟨hc.trans hcounts, fun a => ?_, htm, hpl, hw⟩
      obtain ⟨k, l, hk⟩ := removed.charge_cell e.account 8 sched p a
      have hia := hi a
      rw [hk] at hia
      rw [← hissued]
      exact hia

end Sys2Proof.Machine
end

section
/-! PROOF. Entries to DRAINING and STANDBY: a stop, stage 4's examination of one entry, and the last close of a DRAINING
port (R42 to R44, R61, R140, R147). -/

namespace Sys2Proof.Machine

/-! ### A stop (R144, R147) -/

/-- The state that a port has once it is told to drain: a GRANTING or ALLOCATING one drains, or rests at once where its
table is empty (R42, R43). -/
def PortBlock.drainedMode (b : PortBlock) : PortMode :=
  match b.mode with
  | .standby => .standby
  | .draining => .draining
  | .allocating => if b.table = [] then .standby else .draining
  | .granting => if b.table = [] then .standby else .draining

theorem PortBlock.drainedMode_of_serving {b : PortBlock} (h : b.mode = .granting ∨ b.mode = .allocating) :
    b.drainedMode = if b.table = [] then .standby else .draining := by
  rcases h with h | h <;> simp only [PortBlock.drainedMode, h]

theorem PortBlock.drainedMode_of_not_serving {b : PortBlock} (h : ¬(b.mode = .granting ∨ b.mode = .allocating)) :
    b.drainedMode = b.mode := by
  cases hm : b.mode <;> simp_all [PortBlock.drainedMode]

section
variable (s : State) (p q : Port)

theorem State.restIfDrained_mode : ((s.restIfDrained p).ports.get q).mode =
    if p = q ∧ (s.ports.get p).mode = .draining ∧ (s.ports.get p).table = [] then .standby else (s.ports.get q).mode := by
  by_cases h : (s.ports.get p).mode = .draining ∧ (s.ports.get p).table = []
  · rw [State.restIfDrained, if_pos h, State.enterStandby_ports_mode]
    simp only [h, and_true]
    split
    · rw [PortBlock.standby_eq]
      rfl
    · rfl
  · rw [State.restIfDrained, if_neg h, if_neg fun hc => h hc.2]

theorem State.restIfDrained_table : ((s.restIfDrained p).ports.get q).table = (s.ports.get q).table := by
  unfold State.restIfDrained
  split
  · rw [State.enterStandby_ports_table]
    split
    · rw [PortBlock.standby_eq]
      rfl
    · rfl
  · rfl

theorem State.enterDraining_mode : ((s.enterDraining p).ports.get q).mode =
    if p = q then (s.ports.get q).drainedMode else (s.ports.get q).mode := by
  rcases s.enterDraining_cases p with ⟨h, e⟩ | ⟨h, e⟩
  · rw [e, State.restIfDrained_mode]
    by_cases hq : p = q
    · subst hq
      simp only [true_and, if_true, State.post_ports, State.modPort_ports_get, PortBlock.drainedMode_of_serving h]
    · simp only [hq, false_and, if_false, State.post_ports]
      rw [State.modPort_ports_ne _ _ hq]
  · rw [e]
    split
    next hq => rw [PortBlock.drainedMode_of_not_serving (hq ▸ h)]
    next => rfl

theorem State.enterDraining_table : ((s.enterDraining p).ports.get q).table = (s.ports.get q).table := by
  rcases s.enterDraining_cases p with ⟨-, e⟩ | ⟨-, e⟩
  · rw [e, State.restIfDrained_table, State.post_ports, State.modPort_ports_get]
    split <;> rfl
  · rw [e]

end

theorem PortBlock.drainedMode_idem {b c : PortBlock} (hm : c.mode = b.drainedMode) :
    c.drainedMode = b.drainedMode := by
  have hrests : b.drainedMode = .standby ∨ b.drainedMode = .draining := by
    unfold PortBlock.drainedMode
    split
    · exact .inl rfl
    · exact .inr rfl
    · split <;> [exact .inl rfl; exact .inr rfl]
    · split <;> [exact .inl rfl; exact .inr rfl]
  rw [PortBlock.drainedMode_of_not_serving, hm]
  rcases hrests with h | h <;> simp [hm, h]

/-- Ports that drain one after another: each holds the state of its own entry, and no table changes. -/
theorem State.drains_ports (l : List Port) (s : State) (q : Port) :
    ((l.foldl (fun s p => s.enterDraining p) s).ports.get q).table = (s.ports.get q).table ∧
    ((l.foldl (fun s p => s.enterDraining p) s).ports.get q).mode =
      if q ∈ l then (s.ports.get q).drainedMode else (s.ports.get q).mode := by
  induction l generalizing s with
  | nil => exact ⟨rfl, rfl⟩
  | cons p ps ih =>
    obtain ⟨ht, hm⟩ := ih (s.enterDraining p)
    have htp := s.enterDraining_table p q
    have hmp := s.enterDraining_mode p q
    refine ⟨ht.trans htp, hm.trans ?_⟩
    by_cases hq : p = q
    · subst hq
      rw [if_pos rfl] at hmp
      rw [PortBlock.drainedMode_idem hmp, hmp, if_pos List.mem_cons_self]
      exact ite_self _
    · rw [if_neg hq] at hmp
      have hmem : q ∈ p :: ps ↔ q ∈ ps := List.mem_cons.trans (or_iff_right fun h => hq h.symm)
      have hd : ((s.enterDraining p).ports.get q).drainedMode = (s.ports.get q).drainedMode := by
        unfold PortBlock.drainedMode
        rw [hmp, htp]
      simp only [hmem, hd, hmp]

/-- A part that has been told to stop: Run is 0, and it is STOPPING, or PARKED with every port in STANDBY. -/
def State.stopped (s : State) : Prop :=
  s.win.run = false ∧ (s.win.mode = .stopping ∨ s.win.mode = .parked ∧ ∀ p, (s.ports.get p).mode = .standby)

theorem State.stopped_parkIfDone {s : State} (h : s.stopped) : s.parkIfDone.stopped := by
  rcases s.parkIfDone_or with e | ⟨-, hall, -, -, e⟩ | ⟨hm, -, -, -, e⟩
  · rwa [e]
  · rw [e, State.park_eq]
    refine ⟨rfl, .inr ⟨rfl, fun p => ?_⟩⟩
    rw [parkedNow, Tab.get_ofFn]
    exact s.allStandby_iff.1 hall p
  · rw [e]
    exact ⟨by rw [State.startPass_win]; exact h.1, .inl (by rw [State.startPass_win]; exact hm)⟩

theorem State.stopped_enterDraining {s : State} (h : s.stopped) (p : Port) : (s.enterDraining p).stopped := by
  rcases s.enterDraining_cases p with ⟨hm, e⟩ | ⟨-, e⟩
  · obtain ⟨hrun, hstop⟩ := h
    have hstopping : s.win.mode = .stopping := hstop.resolve_right fun hp => by simp [hp.2 p] at hm
    rw [e]
    rcases State.restIfDrained_cases ((s.modPort p fun b => { b with mode := .draining }).post
      (.portState p (s.ports.get p).mode .draining s.timer.epoch)) p with ⟨-, -, e'⟩ | ⟨-, e'⟩
    · rw [e', State.enterStandby_eq]
      exact State.stopped_parkIfDone ⟨by simpa [State.standbyEntered] using hrun, .inl (by simpa [State.standbyEntered])⟩
    · rw [e']
      exact ⟨by simpa using hrun, .inl (by simpa using hstopping)⟩
  · rwa [e]

/-- The ports that a stop drains are settled before the first of them drains. -/
theorem State.drains_inTurn (s : State) {l : List Port} (hl : l.Nodup) :
    enterDrainingInTurn
      (l.filter fun p => decide ((s.ports.get p).mode = .granting ∨ (s.ports.get p).mode = .allocating)) s
      (l.foldl (fun s p => s.enterDraining p) s) := by
  have key (l : List Port) (hl : l.Nodup) (u : State) (hu : ∀ p ∈ l, (u.ports.get p).mode = (s.ports.get p).mode) :
      enterDrainingInTurn
        (l.filter fun p => decide ((s.ports.get p).mode = .granting ∨ (s.ports.get p).mode = .allocating)) u
        (l.foldl (fun s p => s.enterDraining p) u) := by
    induction l generalizing u with
    | nil => rfl
    | cons p ps ih =>
      obtain ⟨hp, hps⟩ := List.nodup_cons.1 hl
      have hnext : ∀ q ∈ ps, ((u.enterDraining p).ports.get q).mode = (s.ports.get q).mode := fun q hq => by
        rw [State.enterDraining_mode, if_neg fun (e : p = q) => hp (e ▸ hq), hu q (List.mem_cons_of_mem _ hq)]
      have hmode := hu p List.mem_cons_self
      rw [List.filter_cons, List.foldl_cons]
      by_cases h : (s.ports.get p).mode = .granting ∨ (s.ports.get p).mode = .allocating
      · rw [if_pos (decide_eq_true h)]
        exact ⟨_, State.enterDraining_enters (hmode.symm ▸ h), ih hps _ hnext⟩
      · rw [if_neg (by simpa using h), State.enterDraining_of_not (hmode.symm ▸ h)]
        exact ih hps u fun q hq => hu q (List.mem_cons_of_mem _ hq)
  exact key l hl s fun _ _ => rfl

theorem namedFirst_nodup {n : Nat} (l : List (Fin n)) : (namedFirst l).Nodup :=
  List.Nodup.append (List.nodup_dedup l) ((List.nodup_finRange n).filter _) fun _ hi hi' =>
    of_decide_eq_true (List.mem_filter.1 hi').2 (List.mem_dedup.1 hi)

theorem exec_stop (order : List Port) (s : State) : exec (.stop order) s = execStop order s := rfl

section
variable {s : State} (order : List Port)

theorem execStop_stored (h : s.win.mode = .parked ∨ s.win.mode = .stopping) :
    execStop order s = .next { s with win := { s.win with run := false } } := by
  rcases h with h | h <;> exact (show execStop order s = .next (s.storeRun false) by simp only [execStop, h])

theorem execStop_starting (h : s.win.mode = .starting) (hread : s.win.startRead = true) :
    execStop order s = .next { s with win := { s.win with run := false, withdrawn := true } } :=
  show _ = Host.Outcome.next { s.storeRun false with win := { (s.storeRun false).win with withdrawn := true } } by
    simp only [execStop, h, hread, if_true]

theorem execStop_running (h : s.win.mode = .running) : execStop order s =
    .next (State.drainAll { s with win := { s.win with run := false, mode := .stopping } } order).parkIfDone := by
  simp only [execStop, h]
  rfl

end

theorem State.drainAll_eq (s : State) (order : List Port) :
    s.drainAll order = (namedFirst order).foldl (fun s p => s.enterDraining p) s := rfl

/-- Settles O7: Run is stored in every state, and in RUNNING the ports drain one after another before the part parks. -/
theorem stopDrainsEveryPort : Obligations.StopDrainsEveryPort := by
  intro s order
  refine ⟨execStop_stored order, execStop_starting order, fun h => ?_⟩
  · have hports := State.drains_ports (namedFirst order)
      { s with win := { s.win with run := false, mode := .stopping } }
    have hturn := State.drains_inTurn { s with win := { s.win with run := false, mode := .stopping } }
      (namedFirst_nodup order)
    have hstopped : (State.drainAll { s with win := { s.win with run := false, mode := .stopping } } order).stopped :=
      State.drainAll_induct (P := State.stopped) order (fun t p ht => State.stopped_enterDraining ht p) _ ⟨rfl, .inl rfl⟩
    refine ⟨_, execStop_running order h, (State.stopped_parkIfDone hstopped).1, ?_, ?_,
      (State.stopped_parkIfDone hstopped).2, ⟨_, State.parkIfDone_parksWhenDone _, hturn⟩, fun p => ?_⟩
    · rw [State.parkIfDone_link]
      exact State.drainAll_induct (P := fun t => t.link = s.link) order
        (fun t p ht => by rw [State.enterDraining_link, ht]) _ rfl
    · rw [State.parkIfDone_conduct]
      exact State.drainAll_induct (P := fun t => t.conduct = s.conduct) order
        (fun t p ht => by rw [State.enterDraining_conduct, ht]) _ rfl
    · rw [State.parkIfDone_ports_table, State.parkIfDone_ports_mode]
      obtain ⟨ht, hm⟩ := hports p
      rw [if_pos (mem_namedFirst order p)] at hm
      exact ⟨ht, hm⟩

/-! ### Stage 4 on one entry (R61) -/

theorem exec_grantExpiry (p : Port) (t : Tag) (sched : List Port) (s : State) :
    exec (.grantExpiry p t sched) s = .next (s.expireEntry p t sched) := rfl

theorem exec_lapsedEntryRemoval (p : Port) (t : Tag) (s : State) :
    exec (.lapsedEntryRemoval p t) s = .next ((s.removeLapsed p t).restIfDrained p) := rfl

theorem PortBlock.reached_iff (b : PortBlock) (e : Entry) (st : EntryState) :
    b.reached e st = true ↔ e.state = st ∧ b.values.life ≤ e.age := by
  rw [PortBlock.reached, Bool.and_eq_true, decide_eq_true_iff, decide_eq_true_iff]

section
variable {s : State} {p : Port} {t : Tag} {e : Entry} (sched : List Port)

theorem State.expireEntry_of_reached (h : (s.ports.get p).entry t = some e) (hlive : e.state = .live)
    (hage : (s.ports.get p).values.life ≤ e.age) :
    s.expireEntry p t sched = (expired s p e).charge e.account 4 sched := by
  simp only [State.expireEntry, h, if_pos ((PortBlock.reached_iff _ _ _).2 ⟨hlive, hage⟩), Config.expiryCharge]
  rfl

theorem State.expireEntry_of_not (h : (s.ports.get p).entry t = some e)
    (hn : ¬(e.state = .live ∧ (s.ports.get p).values.life ≤ e.age)) : s.expireEntry p t sched = s := by
  simp only [State.expireEntry, h, if_neg fun hr => hn ((PortBlock.reached_iff _ _ _).1 hr)]

theorem State.removeLapsed_of_reached (h : (s.ports.get p).entry t = some e) (hlapsed : e.state = .lapsed)
    (hage : (s.ports.get p).values.life ≤ e.age) : s.removeLapsed p t = entryRemoved s p t := by
  simp only [State.removeLapsed, h, if_pos ((PortBlock.reached_iff _ _ _).2 ⟨hlapsed, hage⟩)]
  rfl

theorem State.removeLapsed_of_not (h : (s.ports.get p).entry t = some e)
    (hn : ¬(e.state = .lapsed ∧ (s.ports.get p).values.life ≤ e.age)) : s.removeLapsed p t = s := by
  simp only [State.removeLapsed, h, if_neg fun hr => hn ((PortBlock.reached_iff _ _ _).1 hr)]

end

theorem expired_port (s : State) (p : Port) (e : Entry) : (expired s p e).ports.get p = { s.ports.get p with
    table := (s.ports.get p).table.map fun x => if x.tag = e.tag then { x with state := .lapsed, age := 0 } else x
    counts := { (s.ports.get p).counts with expiries := min ((s.ports.get p).counts.expiries + 1) 4294967295 }
    cells := (s.ports.get p).cells.modify e.account fun c => { c with cumExpiries := c.cumExpiries + 1 } } :=
  Tab.get_set_self _ _ _

/-- A LAPSED entry stays as it is through a charge (R63). -/
theorem State.charge_keeps_lapsed {s : State} {p : Port} {x : Entry} (a : Account) (n : Nat) (sched : List Port)
    (hx : x ∈ (s.ports.get p).table) (hst : x.state = .lapsed) : x ∈ ((s.charge a n sched).ports.get p).table := by
  rcases s.charge_ports a n sched with h | ⟨-, -, h⟩
  · rwa [h]
  · rw [h, PortBlock.cutOff]
    dsimp only
    split
    · exact hx
    · exact List.mem_map.2 ⟨x, hx, by rw [Entry.liveOf_eq, hst]; simp⟩

/-- Settles O26, by which of the two examinations the entry's state and age call for. -/
theorem stageFourExaminesOneEntry : Obligations.StageFourExaminesOneEntry := by
  intro s p t sched e hfind
  obtain ⟨hmem, -⟩ := PortBlock.entry_some hfind
  have hport := expired_port s p e
  refine ⟨fun hlive hage => ?_, fun hlapsed hage => ?_, fun h => ?_, fun h => ?_⟩
  · have hch := (expired s p e).charge_charged e.account 4 sched
    have hsc := charged_score hch
    refine ⟨_, by rw [exec_grantExpiry, State.expireEntry_of_reached sched hfind hlive hage], hch,
      ⟨_, State.charge_keeps_lapsed e.account 4 sched ?_ rfl, rfl⟩, ?_, ?_, ?_, hsc⟩
    · rw [hport]
      exact List.mem_map.2 ⟨e, hmem, if_pos rfl⟩
    · have htags := congrArg List.length ((expired s p e).charge_tags e.account 4 sched p)
      rw [List.length_map, List.length_map] at htags
      rw [htags, hport, List.length_map]
    · rw [State.charge_ports_counts, hport]
    · obtain ⟨k, l, hk⟩ := (expired s p e).charge_cell e.account 4 sched p e.account
      rw [hk, State.cell, hport]
      simp [State.cell]
  · intro u
    have hexec : exec (.lapsedEntryRemoval p t) s = .next (u.restIfDrained p) := by
      rw [exec_lapsedEntryRemoval, State.removeLapsed_of_reached hfind hlapsed hage]
    have hmode : (u.ports.get p).mode = (s.ports.get p).mode := by simp [u, entryRemoved]
    refine ⟨fun h => ?_, fun hm ht => ⟨_, hexec, ?_⟩⟩
    · rw [hexec, State.restIfDrained_of_not]
      rintro ⟨hm, ht⟩
      exact h.elim (fun h => h (hmode.symm.trans hm)) fun h => h ht
    · rw [State.restIfDrained_of (hmode.trans hm) ht]
      exact u.enterStandby_enters p
  · rw [exec_grantExpiry, State.expireEntry_of_not sched hfind h]
  · rw [exec_lapsedEntryRemoval, State.removeLapsed_of_not hfind h, State.restIfDrained_of_not]
    rintro ⟨-, ht⟩
    rw [ht] at hmem
    cases hmem

/-! ### The last close of a DRAINING port (R43, R140) -/

theorem posted_prefix (m : MemSide) (n : Notice) : m.notices <+: (posted m n).notices := by
  unfold posted
  split
  · exact List.prefix_append _ _
  · exact List.prefix_refl _

theorem foldl_posted_prefix (ns : List Notice) (m : MemSide) : m.notices <+: (ns.foldl posted m).notices :=
  List.foldlRecOn (motive := fun m' : MemSide => m.notices <+: m'.notices) ns _ (List.prefix_refl _)
    fun m' h n _ => h.trans (posted_prefix m' n)

/-- What notices leave of queue and lapsed count is told by the two alone. -/
theorem foldl_posted_congr (ns : List Notice) {m n : MemSide} (hn : m.notices = n.notices) (hl : m.lapsed = n.lapsed) :
    (ns.foldl posted m).notices = (ns.foldl posted n).notices ∧ (ns.foldl posted m).lapsed = (ns.foldl posted n).lapsed := by
  induction ns generalizing m n with
  | nil => exact ⟨hn, hl⟩
  | cons x xs ih =>
    have hpost : (posted m x).notices = (posted n x).notices ∧ (posted m x).lapsed = (posted n x).lapsed := by
      unfold posted
      rw [hn]
      split
      · exact ⟨rfl, hl⟩
      · exact ⟨rfl, congrArg (· + 1) hl⟩
    exact ih hpost.1 hpost.2

theorem foldl_posted_slots (ns : List Notice) (m : MemSide) : (ns.foldl posted m).slots = m.slots :=
  List.foldlRecOn (motive := fun m' : MemSide => m'.slots = m.slots) ns _ rfl fun m' h n _ => by
    unfold posted
    split <;> exact h

/-- What a port holds once it has entered STANDBY: parking takes the boundaries owed alone (R43, R147). -/
theorem State.enterStandby_port (s : State) (p : Port) : ∃ x y z, (s.enterStandby p).ports.get p =
    { portAtRest (s.ports.get p) with closeOwed := x, changeOwed := y, allocDue := z } := by
  have hrest : (s.standbyEntered p).ports.get p = portAtRest (s.ports.get p) := by
    rw [State.standbyEntered_ports, State.modPort_ports_get, if_pos rfl, PortBlock.standby_eq]
  rw [State.enterStandby_eq]
  rcases (s.standbyEntered p).parkIfDone_or with e | ⟨-, -, -, -, e⟩ | ⟨-, -, -, -, e⟩
  · rw [e, hrest]
    exact ⟨_, _, _, rfl⟩
  · rw [e, State.park_eq, parkedNow, Tab.get_ofFn, hrest]
    exact ⟨_, _, _, rfl⟩
  · rw [e, State.startPass_ports]
    exact ⟨_, _, _, hrest⟩

theorem State.park_timer_pending (s : State) : s.park.timer.pending = s.timer.pending := rfl

theorem State.parkIfDone_timer_pending (s : State) : s.parkIfDone.timer.pending = s.timer.pending := by
  rcases s.parkIfDone_or with e | ⟨-, -, -, -, e⟩ | ⟨-, -, -, -, e⟩
  · rw [e]
  · rw [e]
    rfl
  · rw [e, State.startPass_timer]

theorem State.parkIfDone_plans_partDeferred (s : State) : s.parkIfDone.plans.partDeferred = s.plans.partDeferred := by
  rcases s.parkIfDone_or with e | ⟨-, -, -, -, e⟩ | ⟨-, -, -, -, e⟩
  · rw [e]
  · rw [e]
    rfl
  · rw [e, State.startPass_plans]

/-- What the entry of a DRAINING port to STANDBY does with deferred slots (R140, R154). -/
theorem State.enterStandby_slotsTaken {s : State} {p : Port} (hm : (s.ports.get p).mode = .draining) :
    slotsTaken s (s.enterStandby p) p := by
  have hall : (∀ p', ((s.ports.set p (portAtRest (s.ports.get p))).get p').mode = .standby) ↔
      ∀ p', p' ≠ p → (s.ports.get p').mode = .standby := by
    refine forall_congr' fun p' => ?_
    rw [Tab.get_set]
    by_cases h : p = p'
    · rw [if_pos h]
      exact ⟨fun _ hn => absurd h.symm hn, fun _ => rfl⟩
    · rw [if_neg h]
      exact ⟨fun hp _ => hp, fun hp => hp fun e => h e.symm⟩
  have hpart : (if ∀ p', ((s.ports.set p (portAtRest (s.ports.get p))).get p').mode = .standby then s.plans.partDeferred
      else none) = if ∀ p', p' ≠ p → (s.ports.get p').mode = .standby then s.plans.partDeferred else none := by
    simp only [hall]
  have hframe (r : Report) (ns : List Notice) : posts s.mem (ns.foldl posted (reportHanded s.mem p r)) ns :=
    foldl_posted_congr ns rfl rfl
  rw [State.enterStandby_eq, State.standbyEntered_eq]
  unfold slotsTaken posts
  dsimp only
  rw [State.parkIfDone_mem_notices, State.parkIfDone_mem_lapsed, State.parkIfDone_timer_pending,
    State.parkIfDone_plans_partDeferred, ← hpart]
  unfold enteredStandby
  dsimp only
  rw [hm]
  refine ⟨hframe _ _, ?_, ?_⟩
  · generalize (if ∀ p', ((s.ports.set p (portAtRest (s.ports.get p))).get p').mode = .standby then s.plans.partDeferred
      else none) = part
    cases part <;> rfl
  · generalize (if ∀ p', ((s.ports.set p (portAtRest (s.ports.get p))).get p').mode = .standby then s.plans.partDeferred
      else none) = part
    cases part <;> rfl

/-- The report handed over on entry to STANDBY (R25, R155). -/
theorem State.enterStandby_slot (s : State) (p : Port) :
    let r := epochReport p (s.ports.get p) (s.ports.get p) .standby 0
    (s.enterStandby p).mem.slots.get p =
      if reportBeingWritten s.mem p then
        { held := (s.mem.slots.get p).held, waiting := some (mergedInto (s.mem.slots.get p).waiting r) }
      else { held := some (mergedInto (s.mem.slots.get p).held r), waiting := (s.mem.slots.get p).waiting } := by
  intro r
  rw [State.enterStandby_eq, State.parkIfDone_mem_slots, State.standbyEntered_eq, enteredStandby]
  dsimp only
  rw [foldl_posted_slots, reportHanded, Tab.get_set_self]

/-- The issued net of a cell after the CLOSE of an entry, late or within its grant (R56, R58). -/
def PortBlock.netAfter (b : PortBlock) (e : Entry) (used : Nat) (a : Account) : Nat :=
  if e.state = .live ∧ a = e.account ∧ e.issued = b.openEpoch then (b.cells.get a).issued - (e.units - used)
  else (b.cells.get a).issued

/-- A port whose last entry has been closed, late or within its grant (R56, R58). -/
def PortBlock.lastClosed (b : PortBlock) (e : Entry) (used : Nat) : PortBlock :=
  { b with
    table := []
    counts := { b.counts with
      used := min (b.counts.used + used) 4294967295
      late := if e.state = .lapsed then min (b.counts.late + 1) 4294967295 else b.counts.late }
    cells := b.cells.modify e.account fun x => { x with
      cumUsed := x.cumUsed + BitVec.ofNat 64 used
      issued := if e.state = .live ∧ e.issued = b.openEpoch then x.issued - (e.units - used) else x.issued } }

section
variable {b : PortBlock} {e : Entry} {used : Nat}

theorem PortBlock.closeLapsed_last (ht : b.table = [e]) (hst : e.state = .lapsed) :
    b.closeLapsed e used = b.lastClosed e used := by
  rw [PortBlock.closeLapsed_eq, PortBlock.lastClosed]
  simp [ht, hst]

theorem PortBlock.closeLive_last (ht : b.table = [e]) (hst : e.state = .live) (hu : used ≤ e.units) :
    b.closeLive e used = b.lastClosed e used := by
  rw [PortBlock.closeLive_within b e used hu, PortBlock.lastClosed]
  simp [ht, hst]

theorem PortBlock.lastClosed_cell (b : PortBlock) (e : Entry) (used : Nat) (a : Account) :
    ∃ n, (b.lastClosed e used).cells.get a = { b.cells.get a with cumUsed := n, issued := b.netAfter e used a } := by
  rw [PortBlock.lastClosed, PortBlock.netAfter, Tab.get_modify]
  by_cases ha : e.account = a
  · subst ha
    simp only [if_true, true_and]
    exact ⟨_, rfl⟩
  · rw [if_neg ha, if_neg fun h => ha h.2.1.symm]
    exact ⟨_, rfl⟩

end

/-- The close that empties a DRAINING port's table, and what follows it. -/
theorem execClose_last {s : State} {p : Port} {e : Entry} {used : Word16} (ff : Bool) (sched : List Port)
    (hm : (s.ports.get p).mode = .draining) (ht : (s.ports.get p).table = [e])
    (hst : e.state = .lapsed ∨ e.state = .live ∧ used.toNat ≤ e.units) :
    execClose p e.tag used ff sched s =
      .next ((s.modPort p fun b => b.lastClosed e used.toNat).enterStandby p) := by
  have hfind : (s.ports.get p).entry e.tag = some e := by simp [PortBlock.entry, ht]
  have hrests : (s.modPort p fun b => b.lastClosed e used.toNat).afterRemoval p =
      (s.modPort p fun b => b.lastClosed e used.toNat).enterStandby p := by
    have hport : (s.modPort p fun b => b.lastClosed e used.toNat).ports.get p =
        (s.ports.get p).lastClosed e used.toNat := by simp
    rw [State.afterRemoval_draining (by rw [hport]; exact hm),
      State.restIfDrained_of (by rw [hport]; exact hm) (by rw [hport]; rfl)]
  rw [← hrests]
  rcases hst with hst | ⟨hst, hu⟩
  · rw [execClose_of_lapsed ff sched hfind hst, State.modPort_eq_set, PortBlock.closeLapsed_last ht hst, State.modPort_eq_set]
  · rw [execClose_within ff sched hfind hst hu, State.modPort_eq_set, PortBlock.closeLive_last ht hst hu,
      State.modPort_eq_set]

/-- Settles O25: the close leaves the port drained, and the rest is what the entry to STANDBY does. -/
theorem lastCloseOfADrainingPort : Obligations.LastCloseOfADrainingPort := by
  intro s p t used ff sched e hm ht htag hst
  subst htag
  have hexec := execClose_last ff sched hm ht hst
  obtain ⟨v, hv⟩ : ∃ v, v = s.modPort p fun b => b.lastClosed e used.toNat := ⟨_, rfl⟩
  have hport : v.ports.get p = (s.ports.get p).lastClosed e used.toNat := by rw [hv]; simp
  have hne (q : Port) (hq : q ≠ p) : v.ports.get q = s.ports.get q := by rw [hv, State.modPort_ports_ne _ _ hq.symm]
  have hvm : (v.ports.get p).mode = .draining := by rw [hport]; exact hm
  have hmem : v.mem = s.mem := by rw [hv]; rfl
  rw [← hv] at hexec
  obtain ⟨x, y, z, hu⟩ := v.enterStandby_port p
  have hslot := v.enterStandby_slot p
  have hslots := State.enterStandby_slotsTaken hvm
  have hcell (a : Account) := (s.ports.get p).lastClosed_cell e used.toNat a
  have hallowance : ((List.finRange 48).map fun a => ((v.ports.get p).cells.get a).allowance).sum =
      ((List.finRange 48).map fun a => ((s.ports.get p).cells.get a).allowance).sum :=
    congrArg List.sum (List.map_congr_left fun a _ => by obtain ⟨n, hn⟩ := hcell a; rw [hport, hn])
  have hissued : ((List.finRange 48).map fun a => ((v.ports.get p).cells.get a).issued).sum =
      ((List.finRange 48).map fun a => (s.ports.get p).netAfter e used.toNat a).sum :=
    congrArg List.sum (List.map_congr_left fun a _ => by obtain ⟨n, hn⟩ := hcell a; rw [hport, hn])
  refine ⟨_, hexec, ?_⟩
  dsimp only
  rw [hu, hport]
  refine ⟨rfl, rfl, fun l a => ?_, fun q => ?_, fun a => ?_, rfl, rfl, rfl,
    ⟨epochReport p (v.ports.get p) (v.ports.get p) .standby 0, fun h => ?_, fun h => ?_, rfl, rfl, ?_, rfl, ?_, ?_, ?_, ?_,
      ?_, ?_, ?_, ?_, ?_, ?_⟩, rfl, rfl, fun h => ?_, ?_, ?_, ?_, ?_, fun q hq => ?_⟩
  · cases l <;> exact Tab.get_fill _ _
  · exact Tab.get_ofFn _ _
  · obtain ⟨n, hn⟩ := hcell a
    simp only [portAtRest, Tab.get_ofFn, hn]
    exact ⟨trivial, trivial, trivial, trivial, trivial, trivial, rfl⟩
  · rw [hslot, hmem, if_neg h]
  · rw [hslot, hmem, if_pos h]
  · rw [hport]; rfl
  · rw [hport]; rfl
  · exact congrArg (min · 4294967295) hallowance
  · exact congrArg (min · 4294967295) hissued
  · rw [show (epochReport p (v.ports.get p) (v.ports.get p) .standby 0).idle = min ((v.ports.get p).totals.effective -
      ((List.finRange 48).map fun a => ((v.ports.get p).cells.get a).allowance).sum) 4294967295 from rfl, hallowance, hport]
    rfl
  iterate 6
    · rw [hport]; rfl
  · have hq : ((v.mem.notices ++ [.portState p .draining .standby v.timer.epoch]) : List Notice) <+:
        (v.enterStandby p).mem.notices := by
      have hfirst (x : Notice) : (posted v.mem x).notices = v.mem.notices ++ [x] := by
        rw [posted, if_pos (hmem ▸ h)]
      rw [hslots.1.1, List.foldl_append, List.foldl_append, ← hfirst]
      exact (foldl_posted_prefix _ _).trans (foldl_posted_prefix _ _)
    rw [hv] at hq ⊢
    exact hq
  · have hothers : (∀ p', p' ≠ p → (v.ports.get p').mode = .standby) ↔
        ∀ p', p' ≠ p → (s.ports.get p').mode = .standby :=
      forall_congr' fun p' => forall_congr' fun hp' => by rw [hne p' hp']
    unfold slotsTaken at hslots ⊢
    simp only [hothers, hport] at hslots
    rw [hv] at hslots ⊢
    exact hslots
  · have hin := v.enterStandby_enters p
    rw [hv, State.modPort_eq_set] at hin ⊢
    exact hin
  · rw [State.enterStandby_link, hv]
    rfl
  · rw [State.enterStandby_conduct, hv]
    rfl
  · rw [State.enterStandby_ports_mode, if_neg (Ne.symm hq), hne q hq]

end Sys2Proof.Machine
end

section
/-! PROOF. The boundaries of the epoch timer: its own, a follower's at a signal, and at the loss of lock (R119 to R127). -/

namespace Sys2Proof.Machine

/-! ### What a boundary leaves (R121, R127) -/

theorem posts_nil {m n : MemSide} (hn : n.notices = m.notices) (hl : n.lapsed = m.lapsed) : posts m n [] := ⟨hn, hl⟩

theorem posts_post {m : MemSide} {s : State} (h : posts m s.mem []) (n : Notice) : posts m (s.post n).mem [n] := by
  rw [State.post_eq]
  exact foldl_posted_congr [n] h.1 h.2

section
variable (s : State) (y : SyncState) (now : Moment) (e : Epoch) (due : Moment)

theorem State.makeBoundary_notices : posts s.mem ((s.setSync y).makeBoundary now e due).mem [] :=
  posts_nil (by rw [State.makeBoundary_mem_notices]; rfl) (by rw [State.makeBoundary_mem_lapsed]; rfl)

theorem MemSide.readAtBoundary_serving {m : MemSide} (h : m.mode = .serving) : m.readAtBoundary.read =
    some { resumption := m.read.any HostRead.resumption, writes := m.partHalf.isNone } := by
  rw [MemSide.readAtBoundary, if_pos h]

theorem MemSide.readAtBoundary_faulted {m : MemSide} (h : m.mode = .faulted) : m.readAtBoundary = m := by
  rw [MemSide.readAtBoundary, h]
  exact if_neg (by decide)

theorem MemSide.readAtBoundary_finalDue (m : MemSide) : m.readAtBoundary.finalDue = m.finalDue := by
  rcases m.readAtBoundary_cases with ⟨-, e⟩ | ⟨-, e⟩
  · rw [e]
  · rw [e]
    rfl

/-- A part-half write that falls due with none in flight and no final one due is issued (R151). -/
theorem State.duePartHalf_issued {t : State} (hp : t.mem.partHalf = none) (hf : t.mem.finalDue = false) (f : Bool) :
    (t.duePartHalf f).mem.partHalf.isSome = true := by
  simp only [State.duePartHalf, hf, hp, Bool.false_eq_true, if_false, Option.isNone_none, if_true]
  rfl

theorem State.makeBoundary_made : boundaryMade s ((s.setSync y).makeBoundary now e due) now e := by
  refine ⟨?_, ?_, ?_, fun p => ?_, ?_, ?_, ?_, ?_, fun h => ?_, fun h => ?_, fun r h hr hw hp hf => ?_, ?_, ?_, ?_⟩
  · rw [State.makeBoundary_timer, Timer.makeBoundary_epoch]
  · rw [State.makeBoundary_timer, Timer.makeBoundary_last]
  · rw [State.makeBoundary_timer, Timer.makeBoundary_running]
    rfl
  · rw [State.makeBoundary_ports_get]
    rfl
  · rw [State.makeBoundary_conduct]
    rfl
  · rw [State.makeBoundary_scan]
    rfl
  · rw [State.makeBoundary_plans]
    rfl
  · rw [State.makeBoundary_mem_stmtOwed]
    rfl
  · rw [State.makeBoundary_mem_read]
    exact MemSide.readAtBoundary_serving h
  · rw [State.makeBoundary_mem_read]
    exact congrArg MemSide.read (MemSide.readAtBoundary_faulted h)
  · have hread : (s.setSync y).mem.read.any HostRead.writes = true := by
      rw [show (s.setSync y).mem.read = some r from hr]
      exact hw
    rw [State.makeBoundary, State.writeAbandoned, if_pos ⟨by simpa [State.spreadBoundary, State.setSync] using h, hread⟩]
    exact State.duePartHalf_issued ((MemSide.readAtBoundary_partHalf _).trans hp)
      ((MemSide.readAtBoundary_finalDue _).trans hf) _
  · rw [State.makeBoundary_mem_produced]
    rfl
  · rw [State.makeBoundary_link]
    rfl
  · rw [State.makeBoundary_win]
    rfl

theorem State.makeBoundary_adopted : adopted s ((s.setSync y).makeBoundary now e due) now due := by
  have htimer := (s.setSync y).makeBoundary_timer now e due
  unfold adopted
  rw [htimer]
  rcases (s.setSync y).timer.makeBoundary_cases now e due with ⟨hp, ht⟩ | ⟨n, hp, ht⟩
  · rw [ht, show s.timer.pending = none from hp]
    exact ⟨hp, rfl, rfl⟩
  · rw [ht, show s.timer.pending = some n from hp]
    refine ⟨rfl, rfl, rfl, ?_⟩
    cases hr : n.role with
    | alone => simp only [adoptedSync]
    | leader => simp only [adoptedSync]
    | follower => exact fun hn => if_neg hn

/-- A boundary with nothing to adopt leaves the sync state set before it. -/
theorem State.makeBoundary_sync (h : s.timer.pending = none) :
    ((s.setSync y).makeBoundary now e due).timer.sync = y := by
  rw [State.makeBoundary_timer]
  rcases (s.setSync y).timer.makeBoundary_cases now e due with ⟨-, ht⟩ | ⟨n, hp, -⟩
  · rw [ht]
    rfl
  · rw [show s.timer.pending = some n from hp] at h
    cases h

/-- So does one at which a follower's role stays what it is. -/
theorem State.makeBoundary_sync_follower (hrole : s.timer.timing.role = .follower)
    (h : ∀ n, s.timer.pending = some n → n.role = .follower) :
    ((s.setSync y).makeBoundary now e due).timer.sync = y := by
  rw [State.makeBoundary_timer]
  rcases (s.setSync y).timer.makeBoundary_cases now e due with ⟨-, ht⟩ | ⟨n, hp, ht⟩
  · rw [ht]
    rfl
  · rw [ht]
    simp only [h n hp, adoptedSync]
    exact if_pos hrole

end

section
variable {s t : State} {now : Moment} {e : Epoch} {due : Moment}

/-- A notice posted after a boundary is no part of it. -/
theorem boundaryMade_post (h : boundaryMade s t now e) (n : Notice) : boundaryMade s (t.post n) now e := by
  rcases t.post_cases n with ⟨-, hp⟩ | ⟨-, hp⟩ <;> rw [hp] <;> exact h

theorem adopted_post (h : adopted s t now due) (n : Notice) : adopted s (t.post n) now due := by
  rcases t.post_cases n with ⟨-, hp⟩ | ⟨-, hp⟩ <;> rw [hp] <;> exact h

end

/-! ### The timer's own boundary (R119, R121, R122) -/

theorem exec_boundary (now : Moment) (s : State) : exec (.boundary now) s = execBoundary now s := rfl

theorem Timer.ownBoundary_iff (t : Timer) (now : Moment) : t.ownBoundary now = true ↔
    t.running = true ∧ t.sync ≠ .locked ∧ t.due ≤ now + 100 ∧ now ≤ t.due + 100 := by
  simp only [Timer.ownBoundary, Bool.and_eq_true, decide_eq_true_eq, and_assoc]
  rfl

theorem Timer.makeBoundary_driving (t : Timer) (now : Moment) (e : Epoch) (due : Moment) :
    (t.makeBoundary now e due).driving =
      if t.timing.role = .leader then some (if e.toNat % 256 = 0 then .mark else .pulse) else none := by
  rcases t.makeBoundary_cases now e due with ⟨-, h⟩ | ⟨_, -, h⟩ <;> rw [h] <;> rfl

/-- Settles O27, by whether the moment is the timer's own. -/
theorem ownBoundaryAdvancesTheEpoch : Obligations.OwnBoundaryAdvancesTheEpoch := by
  intro s now
  refine ⟨fun hrun hsync hdue hdue' => ?_, fun h => ?_⟩
  · refine ⟨_, if_pos ((Timer.ownBoundary_iff _ _).2 ⟨hrun, hsync, hdue, hdue'⟩),
      s.makeBoundary_made s.timer.sync now _ _, s.makeBoundary_adopted s.timer.sync now _ _,
      s.makeBoundary_sync s.timer.sync now _ _, s.makeBoundary_notices s.timer.sync now _ _, ?_⟩
    rw [State.makeBoundary_timer, Timer.makeBoundary_driving]
  · refine if_neg fun hown => ?_
    obtain ⟨hrun, hsync, hdue, hdue'⟩ := (Timer.ownBoundary_iff _ _).1 hown
    rcases h with h | h | h | h
    · rw [h] at hrun
      cases hrun
    · exact hsync h
    · exact Nat.not_lt.2 hdue h
    · exact Nat.not_lt.2 hdue' h

/-! ### A follower's signals (R123, R124, R126) -/

theorem signalOf_eq_pulse (len : Nat) : signalOf len = some .pulse ↔ 50 ≤ len ∧ len < 500 := by
  unfold signalOf Config.pulseMin Config.markMin
  split
  · simp; omega
  · split
    · simp; omega
    · simp; omega

theorem signalOf_eq_mark (len : Nat) : signalOf len = some .mark ↔ 500 ≤ len := by
  unfold signalOf Config.pulseMin Config.markMin
  split
  · simp; omega
  · split
    · simp; omega
    · simp; omega

theorem Timer.takesSignal_iff (t : Timer) (now : Moment) (len : Nat) (y : SyncSignal) : t.takesSignal now len y = true ↔
    t.running = true ∧ t.timing.role = .follower ∧ t.started + len ≤ now ∧ signalOf len = some y := by
  simp only [Timer.takesSignal, Bool.and_eq_true, decide_eq_true_eq, and_assoc]

theorem Timer.inWindow_iff (t : Timer) (now : Moment) :
    t.inWindow now = true ↔ 500 * t.timing.lengthUs ≤ t.since now ∧ t.since now ≤ 3 * (500 * t.timing.lengthUs) := by
  simp only [Timer.inWindow, Bool.and_eq_true, decide_eq_true_eq]
  rfl

theorem Timer.since_eq {t : Timer} {last : Moment} (h : t.last = some last) (now : Moment) : t.since now = now - last := by
  rw [Timer.since, h, Option.getD_some]

/-- The number a mark gives is R123's. -/
theorem realigned_eq (n : Epoch) : realigned n = BitVec.ofNat 32 (nextMultiple n) := by
  apply BitVec.eq_of_toNat_eq
  simp only [realigned, nextMultiple, BitVec.toNat_shiftLeft, BitVec.toNat_add, BitVec.toNat_ushiftRight,
    BitVec.toNat_ofNat, Nat.shiftLeft_eq, Nat.shiftRight_eq_div_pow]
  omega

section
variable {s : State} {now : Moment} {len : Nat}

theorem execSyncPulse_taken (ht : s.timer.takesSignal now len .pulse = true) (hs : s.timer.sync = .locked)
    (hw : s.timer.inWindow now = true) : exec (.syncPulse now len) s =
      .next (s.makeBoundary now (s.timer.epoch + 1) (now + s.timer.timing.ns)) :=
  if_pos (by simp [ht, hs, hw])

theorem execSyncPulse_ignored (h : ¬(s.timer.takesSignal now len .pulse = true ∧ s.timer.sync = .locked ∧
    s.timer.inWindow now = true)) : exec (.syncPulse now len) s = .next s :=
  if_neg fun hc => h (by
    simp only [Bool.and_eq_true, decide_eq_true_eq] at hc
    exact ⟨hc.1.1, hc.1.2, hc.2⟩)

theorem execSyncMark_ignored (h : ¬s.timer.takesSignal now len .mark = true) : exec (.syncMark now len) s = .next s :=
  if_neg h

theorem execSyncMark_seeking (ht : s.timer.takesSignal now len .mark = true) (hs : s.timer.sync = .seeking) :
    exec (.syncMark now len) s = .next (((s.setSync .locked).makeBoundary now (realigned s.timer.epoch)
      (now + s.timer.timing.ns)).post (.syncChange .locked (realigned s.timer.epoch) s.timer.epoch)) := by
  refine (if_pos ht).trans ?_
  simp only [hs]

theorem execSyncMark_locked (ht : s.timer.takesSignal now len .mark = true) (hs : s.timer.sync = .locked)
    (hw : s.timer.inWindow now = true) : exec (.syncMark now len) s = .next
      (if realigned s.timer.epoch = s.timer.epoch + 1 then
        s.makeBoundary now (realigned s.timer.epoch) (now + s.timer.timing.ns)
      else (s.makeBoundary now (realigned s.timer.epoch) (now + s.timer.timing.ns)).post
        (.syncChange .locked (realigned s.timer.epoch) s.timer.epoch)) := by
  refine (if_pos ht).trans ?_
  simp only [hs, hw, if_true]

theorem execSyncMark_late (hs : s.timer.sync = .locked) (hw : ¬s.timer.inWindow now = true) :
    exec (.syncMark now len) s = .next s := by
  by_cases ht : s.timer.takesSignal now len .mark = true
  · refine (if_pos ht).trans ?_
    simp only [hs]
    exact if_neg hw
  · exact if_neg ht

end

/-- Settles O28: each signal by what the timer takes it as, by the sync state and by the window. -/
theorem followerTakesPulsesAndMarks : Obligations.FollowerTakesPulsesAndMarks := by
  intro s now len ignored
  have ignored_of (h : ∀ y, ¬s.timer.takesSignal now len y = true) : ignored :=
    ⟨execSyncPulse_ignored fun hc => h _ hc.1, execSyncMark_ignored (h _)⟩
  refine ⟨fun h => ignored_of fun y hy => ?_, fun h => execSyncPulse_ignored fun hc => ?_,
    fun h => execSyncMark_ignored fun hc => ?_, fun last hrun hrole hlast hstart => ?_⟩
  · obtain ⟨hrun, hrole, hstart, hsig⟩ := (Timer.takesSignal_iff _ _ _ _).1 hy
    rcases h with h | h | h | h
    · cases y with
      | pulse => have := (signalOf_eq_pulse len).1 hsig; omega
      | mark => have := (signalOf_eq_mark len).1 hsig; omega
    · exact Nat.not_lt.2 hstart h
    · rw [h] at hrun
      cases hrun
    · exact h hrole
  · have := (signalOf_eq_pulse len).1 ((Timer.takesSignal_iff _ _ _ _).1 hc.1).2.2.2
    omega
  · have := (signalOf_eq_mark len).1 ((Timer.takesSignal_iff _ _ _ _).1 hc).2.2.2
    omega
  · intro e2 new due taken
    have hnew : realigned s.timer.epoch = new := realigned_eq _
    have pulse (h : 50 ≤ len) (h' : len < 500) : s.timer.takesSignal now len .pulse = true :=
      (Timer.takesSignal_iff _ _ _ _).2 ⟨hrun, hrole, hstart, (signalOf_eq_pulse len).2 ⟨h, h'⟩⟩
    have mark (h : 500 ≤ len) : s.timer.takesSignal now len .mark = true :=
      (Timer.takesSignal_iff _ _ _ _).2 ⟨hrun, hrole, hstart, (signalOf_eq_mark len).2 h⟩
    have locks (e : Epoch) : taken ((s.setSync .locked).makeBoundary now e due) e :=
      ⟨s.makeBoundary_made .locked now e due, s.makeBoundary_adopted .locked now e due,
        s.makeBoundary_sync_follower .locked now e due hrole⟩
    have posting {t : State} {e : Epoch} (h : taken t e) (n : Notice) : taken (t.post n) e := by
      obtain ⟨hmade, hadopted, hsync⟩ := h
      exact ⟨boundaryMade_post hmade n, adopted_post hadopted n, fun hn => by rw [State.post_timer]; exact hsync hn⟩
    have hset (hs : s.timer.sync = .locked) : s.setSync .locked = s := by rw [← hs]; rfl
    refine ⟨fun hs hlo hhi => ?_, fun hs hle hout => ?_, fun hs => ⟨?_, fun h => ?_⟩⟩
    · have hw : s.timer.inWindow now = true := by
        rw [Timer.inWindow_iff, Timer.since_eq hlast]
        dsimp only [Moment, e2] at *
        omega
      refine ⟨fun h h' => ⟨_, execSyncPulse_taken (pulse h h') hs hw, ?_, ?_⟩, fun h => ⟨_, execSyncMark_locked (mark h) hs hw, ?_⟩⟩
      · have := locks (s.timer.epoch + 1)
        rwa [hset hs] at this
      · exact s.makeBoundary_notices s.timer.sync now _ _
      · have hl := locks new
        have hp := s.makeBoundary_notices .locked now new due
        rw [hset hs] at hl hp
        rw [hnew]
        by_cases hn : new = s.timer.epoch + 1
        · rw [if_pos hn, if_pos hn]
          exact ⟨hl, hp⟩
        · rw [if_neg hn, if_neg hn]
          exact ⟨posting hl _, posts_post hp _⟩
    · have hw : ¬s.timer.inWindow now = true := by
        rw [Timer.inWindow_iff, Timer.since_eq hlast]
        dsimp only [Moment, e2] at *
        omega
      exact ⟨execSyncPulse_ignored fun hc => hw hc.2.2, execSyncMark_late hs hw⟩
    · exact execSyncPulse_ignored fun hc => by rw [hs] at hc; cases hc.2.1
    · refine ⟨_, execSyncMark_seeking (mark h) hs, ?_⟩
      rw [hnew]
      exact ⟨posting (locks new) _, posts_post (s.makeBoundary_notices .locked now new due) _⟩

/-! ### Loss of lock (R125) -/

theorem Timer.findsLoss_iff (t : Timer) (now : Moment) : t.findsLoss now = true ↔ t.running = true ∧ t.sync = .locked ∧
    3 * (500 * t.timing.lengthUs) ≤ t.since now ∧ t.since now ≤ 3 * (500 * t.timing.lengthUs) + 100 := by
  simp only [Timer.findsLoss, Bool.and_eq_true, decide_eq_true_eq, and_assoc]
  rfl

/-- Settles O29, by whether the moment is that of a loss. -/
theorem lossOfLockIsFoundAtThreeHalves : Obligations.LossOfLockIsFoundAtThreeHalves := by
  intro s now last hlast found
  have hsince := Timer.since_eq hlast now
  dsimp only [Moment, found] at *
  refine ⟨fun hrun hsync _ hlo hhi => ?_, fun h => if_neg fun hloss => ?_⟩
  · have hloss : s.timer.findsLoss now = true := (Timer.findsLoss_iff _ _).2 ⟨hrun, hsync, by omega, by omega⟩
    have hdue : s.timer.last.getD 0 + 2 * s.timer.timing.ns = last + 2000 * s.timer.timing.lengthUs := by
      rw [hlast, Option.getD_some, Timing.ns]
      exact congrArg (last + ·) (Nat.mul_assoc 2 1000 s.timer.timing.lengthUs).symm
    refine ⟨_, if_pos hloss, boundaryMade_post (s.makeBoundary_made .seeking now _ _) _, ?_, fun hp => ?_,
      posts_post (s.makeBoundary_notices .seeking now _ _) _⟩
    · rw [← hdue]
      exact adopted_post (s.makeBoundary_adopted .seeking now _ _) _
    · rw [State.post_timer]
      exact s.makeBoundary_sync .seeking now _ _ hp
  · obtain ⟨hrun, hsync, hlo, hhi⟩ := (Timer.findsLoss_iff _ _).1 hloss
    rcases h with h | h | h | h
    · rw [h] at hrun
      cases hrun
    · exact h hsync
    · omega
    · omega

end Sys2Proof.Machine
end

section
/-! PROOF. The level filter, the state change at a boundary, and the start and the completion of an allocation (R3 to R8,
R14 to R17, R29, R33 to R35, R41, R44). -/

namespace Sys2Proof.Machine

/-! ### The level filter (R34, R35) -/

/-- The samples agree on a level exactly where the last ones are all the newest. -/
theorem agreedLevel_append {depth : Nat} (h : 1 ≤ depth) (xs : List Level) (l : Level) :
    agreedLevel depth (xs ++ [l]) =
      if depth ≤ (xs ++ [l]).length ∧ ∀ x ∈ (xs ++ [l]).drop ((xs ++ [l]).length - depth), x = l then some l else none := by
  have hle : (xs ++ [l]).length - depth ≤ xs.length := by rw [List.length_append, List.length_singleton]; omega
  unfold agreedLevel
  dsimp only
  rw [List.drop_append_of_le_length hle]
  by_cases hd : depth ≤ (xs ++ [l]).length
  · rw [if_pos hd]
    simp only [hd, true_and]
    cases hy : xs.drop ((xs ++ [l]).length - depth) with
    | nil => simp
    | cons y ys =>
      by_cases hall : ∀ x ∈ y :: ys ++ [l], x = l
      · have hy : y = l := hall y List.mem_cons_self
        subst hy
        rw [if_pos hall]
        exact if_pos (List.all_eq_true.2 fun x hx => decide_eq_true (hall x (List.mem_cons_of_mem _ hx)))
      · rw [if_neg hall]
        refine if_neg fun hc => hall ?_
        rw [List.all_eq_true] at hc
        have hly : l = y := of_decide_eq_true (hc l (List.mem_append_right _ List.mem_cons_self))
        subst hly
        intro x hx
        rcases List.mem_cons.1 hx with rfl | hx
        · rfl
        · exact of_decide_eq_true (hc x hx)
  · rw [if_neg hd, if_neg fun hc => hd hc.1]

theorem pushSample_eq {history : List Level} (h : history.length ≤ 4) (l : Level) :
    pushSample history l = history.drop (history.length + 1 - 4) ++ [l] := by
  unfold pushSample Config.historyDepth
  dsimp only
  rw [List.length_append, List.length_singleton, List.drop_append_of_le_length (by omega)]

/-- Settles O32. -/
theorem levelIsAcceptedWhenSamplesAgree : Obligations.LevelIsAcceptedWhenSamplesAgree := by
  intro f depth h1 _ hlen g whole
  have hhist : g.history = pushSample f.history f.raw := rfl
  have hagreed : g.accepted = (agreedLevel depth g.history).getD f.accepted := rfl
  rw [hagreed, hhist, pushSample_eq hlen, agreedLevel_append h1]
  refine ⟨rfl, ?_, fun hd hall => ?_, fun hn => ?_⟩
  · rw [← pushSample_eq hlen]
    rfl
  · rw [if_pos ⟨hd, hall⟩, Option.getD_some]
  · rw [if_neg hn, Option.getD_none]

/-! ### The state change at a boundary (R41, R44) -/

theorem exec_portStateChange (p : Port) (s : State) : exec (.portStateChange p) s = execPortStateChange p s := rfl

theorem State.inService_iff (s : State) (p : Port) :
    s.inService p = true ↔ (s.plans.inForce.ports.get p).inService = true ∧ s.win.mode = .running := by
  rw [State.inService, Bool.and_eq_true, decide_eq_true_iff]
  rfl

section
variable {s : State} {p : Port} {e : Epoch} {rest : List Epoch}

theorem State.changeReady_iff (h : (s.ports.get p).changeOwed = e :: rest) : s.changeReady p = true ↔
    s.plans.owed.length ≤ rest.length ∧
      ((s.ports.get p).closeOwed.length ≤ rest.length ∨ (s.ports.get p).mode = .standby) := by
  simp only [State.changeReady, h, List.length_cons, Bool.and_eq_true, Bool.or_eq_true, decide_eq_true_eq,
    Nat.lt_succ_iff, List.isEmpty_cons, Bool.not_false, true_and]

/-- The port as the boundary leaves it, by the state it holds (R41). -/
def PortBlock.changed (b : PortBlock) (serves : Bool) (e : Epoch) (rest : List Epoch) : PortBlock :=
  match b.mode with
  | .standby =>
    if serves then { b.takeChange rest with mode := .allocating, openEpoch := e, allocDue := true } else b.takeChange rest
  | .granting => { b.takeChange rest with mode := .allocating }
  | .allocating => b.takeChange rest
  | .draining => if serves then { b.takeChange rest with mode := .allocating } else b.takeChange rest

theorem execPortStateChange_ready (h : (s.ports.get p).changeOwed = e :: rest) (hr : s.changeReady p = true) :
    execPortStateChange p s = .next { s with
      ports := s.ports.set p ((s.ports.get p).changed (s.inService p) e rest)
      mem := if (s.ports.get p).mode = .standby ∧ s.inService p = true then
          posted s.mem (.portState p .standby .allocating s.timer.epoch) else s.mem } := by
  simp only [execPortStateChange, h, hr, if_true, PortBlock.changed]
  cases hm : (s.ports.get p).mode <;> cases hs : s.inService p
  all_goals
    simp only [reduceCtorEq, false_and, true_and, if_false, if_true, Bool.false_eq_true, State.modPort_modPort,
      State.post_eq]
    rfl

end

/-- Settles O33, by whether the port can take the boundary. -/
theorem stateChangeAtABoundary : Obligations.StateChangeAtABoundary := by
  intro s p b ready serves
  refine ⟨fun h => ?_, fun e rest h => ⟨fun hn => ?_, fun hr => ?_⟩⟩
  · rw [exec_portStateChange]
    simp only [execPortStateChange, show (s.ports.get p).changeOwed = [] from h]
  · rw [exec_portStateChange]
    simp only [execPortStateChange, show (s.ports.get p).changeOwed = e :: rest from h]
    exact if_neg fun hc => hn ((State.changeReady_iff h).1 hc)
  · intro closes taken left
    have hserves : s.inService p = true ↔ serves := s.inService_iff p
    have hleft : (s.ports.get p).changed (s.inService p) e rest = left := by
      simp only [PortBlock.changed, left, ← hserves]
      rfl
    rw [exec_portStateChange, execPortStateChange_ready h ((State.changeReady_iff h).2 hr), hleft]
    simp only [hserves]
    rfl

/-! ### The ramps (R28 to R30) -/

/-- The curve factors rise from 0 to 256. -/
theorem Curve.factor_le (c : Curve) {m n : Nat} (h : m ≤ n) (hn : n ≤ 16) : c.factor m ≤ c.factor n := by
  cases c with
  | linear => exact Nat.mul_le_mul_left 16 h
  | steep =>
    have key : ∀ j : Fin 17, ∀ i : Fin 17, i ≤ j → Curve.steep.factor i.val ≤ Curve.steep.factor j.val := by decide
    exact key ⟨n, by omega⟩ ⟨m, by omega⟩ h

theorem Curve.factor_zero (c : Curve) : c.factor 0 = 0 := by cases c <;> rfl

theorem Curve.factor_sixteen (c : Curve) : c.factor 16 = 256 := by cases c <;> rfl

section
variable (r : Ramp)

theorem Ramp.weightAt_zero : r.weightAt 0 = r.start := by
  unfold Ramp.weightAt
  split <;> simp

theorem Ramp.weightAt_full : r.weightAt 256 = r.target := by
  unfold Ramp.weightAt
  rw [Nat.mul_div_cancel _ (by decide), Nat.mul_div_cancel _ (by decide)]
  split <;> omega

/-- A larger factor takes the weight further from the start towards the target, and no further than it. -/
theorem Ramp.weightAt_rises {f g : Nat} (h : r.start ≤ r.target) (hfg : f ≤ g) : r.weightAt f ≤ r.weightAt g := by
  unfold Ramp.weightAt
  split
  · exact Nat.add_le_add_left (Nat.div_le_div_right (Nat.mul_le_mul_left _ hfg)) _
  · have hz : r.start - r.target = 0 := by omega
    rw [hz, Nat.zero_mul, Nat.zero_mul]

theorem Ramp.weightAt_falls {f g : Nat} (h : r.target ≤ r.start) (hfg : f ≤ g) : r.weightAt g ≤ r.weightAt f := by
  unfold Ramp.weightAt
  rw [if_neg (by omega), if_neg (by omega)]
  exact Nat.sub_le_sub_left (Nat.div_le_div_right (Nat.mul_le_mul_left _ hfg)) _

end

/-- The position of 16 that a ramp of this length has reached after so many steps. -/
def rampPosition (length n : Nat) : Nat := 16 * min n length / length

theorem rampPosition_le (length n : Nat) : rampPosition length n ≤ 16 :=
  Nat.div_le_of_le_mul (by rw [Nat.mul_comm length 16]; exact Nat.mul_le_mul_left 16 (Nat.min_le_right n length))

theorem rampPosition_mono (length : Nat) {m n : Nat} (h : m ≤ n) : rampPosition length m ≤ rampPosition length n :=
  Nat.div_le_div_right (Nat.mul_le_mul_left 16 (min_le_min_right length h))

theorem rampPosition_end {length n : Nat} (hl : 0 < length) (h : length ≤ n) : rampPosition length n = 16 := by
  rw [rampPosition, Nat.min_eq_right h, Nat.mul_div_cancel _ hl]

/-- A ramp of some length after `n` steps. -/
theorem Ramp.advance_iterate {r : Ramp} (c : Curve) (hl : 0 < r.length) (hs : r.step = 0) (hw : r.weight = r.start)
    (n : Nat) : (fun r => r.advance c)^[n] r =
      { r with step := min n r.length, weight := r.weightAt (c.factor (rampPosition r.length n)) } := by
  induction n with
  | zero =>
    rw [rampPosition, Nat.zero_min, Nat.mul_zero, Nat.zero_div, c.factor_zero, r.weightAt_zero]
    obtain ⟨start, target, length, step, weight⟩ := r
    obtain rfl : step = 0 := hs
    obtain rfl : weight = start := hw
    rfl
  | succ n ih =>
    rw [Function.iterate_succ_apply', ih]
    by_cases hn : n < r.length
    · have hstep : min n r.length = n := Nat.min_eq_left hn.le
      have hnext : min (n + 1) r.length = n + 1 := Nat.min_eq_left hn
      rw [rampPosition, rampPosition, hstep, hnext]
      exact if_pos (decide_eq_true hn)
    · have hstep : min n r.length = r.length := Nat.min_eq_right (Nat.not_lt.1 hn)
      have hnext : min (n + 1) r.length = r.length := Nat.min_eq_right (by omega)
      rw [rampPosition, rampPosition, hstep, hnext]
      exact if_neg fun h => Nat.lt_irrefl _ (of_decide_eq_true h)

/-- A ramp of length 0 takes no step. -/
theorem Ramp.advance_iterate_zero {r : Ramp} (c : Curve) (hl : r.length = 0) (n : Nat) :
    (fun r => r.advance c)^[n] r = r := by
  have hfixed : r.advance c = r := if_neg fun h => absurd (of_decide_eq_true h) (by rw [hl]; exact Nat.not_lt_zero _)
  exact Function.iterate_fixed hfixed n

/-- Settles O39, by whether the ramp has a length: without one it stands at its target, and with one it goes with the
position reached. -/
theorem rampStaysBetweenStartAndTarget : Obligations.RampStaysBetweenStartAndTarget := by
  intro c w0 target rise fall weight length steep factor
  have hfactor (m : Nat) : factor m = c.factor m := by cases c <;> rfl
  by_cases hl : length = 0
  · have hweight (n : Nat) : weight n = target := by
      simp only [weight]
      rw [Ramp.advance_iterate_zero c hl n]
      exact if_pos hl
    refine ⟨?_, fun n h0 hn => ?_, fun n => ?_, fun n _ => hweight n, fun _ n => ?_, fun _ n => ?_⟩
    · rw [hweight, if_pos hl]
    · omega
    · rw [hweight]
      exact ⟨Nat.min_le_right _ _, Nat.le_max_right _ _⟩
    · rw [hweight, hweight]
    · rw [hweight, hweight]
  · have hpos : 0 < length := Nat.pos_of_ne_zero hl
    have hweight (n : Nat) :
        weight n = (Ramp.begin w0 target rise fall).weightAt (c.factor (rampPosition length n)) := by
      simp only [weight]
      rw [Ramp.advance_iterate c hpos rfl (if_neg hl) n]
      rfl
    have hfac (n : Nat) : c.factor (rampPosition length n) ≤ 256 :=
      c.factor_sixteen ▸ c.factor_le (rampPosition_le length n) le_rfl
    have hstart : (Ramp.begin w0 target rise fall).weightAt 0 = w0 := Ramp.weightAt_zero _
    have hend : (Ramp.begin w0 target rise fall).weightAt 256 = target := Ramp.weightAt_full _
    have hnext (n : Nat) : c.factor (rampPosition length n) ≤ c.factor (rampPosition length (n + 1)) :=
      c.factor_le (rampPosition_mono length n.le_succ) (rampPosition_le _ _)
    refine ⟨?_, fun n h0 hn => ?_, fun n => ?_, fun n hn => ?_, fun h n => ?_, fun h n => ?_⟩
    · rw [if_neg hl, hweight, rampPosition, Nat.zero_min, Nat.mul_zero, Nat.zero_div, c.factor_zero, hstart]
    · rw [hweight, rampPosition, Nat.min_eq_left hn, hfactor]
      rfl
    · rw [hweight]
      rcases Nat.le_total w0 target with h | h
      · have hlo := Ramp.weightAt_rises (Ramp.begin w0 target rise fall) h (Nat.zero_le (c.factor (rampPosition length n)))
        have hhi := Ramp.weightAt_rises (Ramp.begin w0 target rise fall) h (hfac n)
        rw [hstart] at hlo
        rw [hend] at hhi
        exact ⟨(Nat.min_le_left _ _).trans hlo, hhi.trans (Nat.le_max_right _ _)⟩
      · have hhi := Ramp.weightAt_falls (Ramp.begin w0 target rise fall) h (Nat.zero_le (c.factor (rampPosition length n)))
        have hlo := Ramp.weightAt_falls (Ramp.begin w0 target rise fall) h (hfac n)
        rw [hstart] at hhi
        rw [hend] at hlo
        exact ⟨(Nat.min_le_right _ _).trans hlo, hhi.trans (Nat.le_max_left _ _)⟩
    · rw [hweight, rampPosition_end hpos hn, c.factor_sixteen, hend]
    · rw [hweight, hweight]
      exact Ramp.weightAt_rises _ h (hnext n)
    · rw [hweight, hweight]
      exact Ramp.weightAt_falls _ h (hnext n)

/-! ### The start of an allocation (R3 to R8, R29) -/

theorem exec_allocationStart (p : Port) (s : State) : exec (.allocationStart p) s = execAllocationStart p s := rfl

section
variable (b : PortBlock) (r : PortRecord) (shares : Account → Option Share) (conduct : Account → Conduct) (a : Account)

/-- The copy that an allocation takes of a cell (R4, R5, R29). -/
def PortBlock.allocInput : AllocInput :=
  ((b.cells.get a).rampStep (shares a) r.curve).allocInput (shares a) (conduct a) (b.snapshot a)

theorem PortBlock.startAllocation_inFlight : ∃ al, (b.startAllocation r shares conduct).inFlight = some al ∧
    al.epoch = b.openEpoch ∧ al.capacity = b.effectiveCapacity r ∧ al.marked = [] ∧
    ∀ a, al.inputs.get a = b.allocInput r shares conduct a :=
  ⟨_, rfl, rfl, rfl, rfl, fun a => by simp only [Tab.get_mapIdx]; rfl⟩

theorem PortBlock.startAllocation_cell : (b.startAllocation r shares conduct).cells.get a =
    ((b.cells.get a).rampStep (shares a) r.curve).recordStart (b.allocInput r shares conduct a) := by
  simp only [PortBlock.startAllocation, Tab.get_mapIdx]
  rfl

theorem PortBlock.allocInput_demand : (b.allocInput r shares conduct a).demand = b.snapshot a := by
  unfold PortBlock.allocInput Cell.allocInput
  split <;> rfl

theorem PortBlock.allocInput_conduct : (b.allocInput r shares conduct a).conduct = conduct a := by
  unfold PortBlock.allocInput Cell.allocInput
  split <;> rfl

theorem Cell.rampStep_eq (c : Cell) (share : Option Share) (curve : Curve) : c.rampStep share curve =
    { c with ramp := if share.isSome = true then c.ramp.advance curve else c.ramp } := by
  unfold Cell.rampStep
  split <;> rfl

theorem PortBlock.allocInput_credit : (b.allocInput r shares conduct a).credit = (b.cells.get a).credit := by
  unfold PortBlock.allocInput Cell.allocInput
  rw [Cell.rampStep_eq]
  split <;> rfl

theorem PortBlock.allocInput_weight : (b.allocInput r shares conduct a).weight =
    ((b.cells.get a).rampStep (shares a) r.curve).ramp.weight := by
  unfold PortBlock.allocInput Cell.allocInput
  split <;> rfl

theorem PortBlock.allocInput_takesPart : (b.allocInput r shares conduct a).takesPart = true ↔
    (shares a).isSome = true ∧ conduct a ≠ .cutOff := by
  unfold PortBlock.allocInput Cell.allocInput
  split
  next h => simp [h]
  next h => simp [h]

variable {a} in
theorem PortBlock.allocInput_share {sh : Share} (h : shares a = some sh) :
    (b.allocInput r shares conduct a).floor = sh.floor ∧ (b.allocInput r shares conduct a).ceiling = sh.ceiling := by
  unfold PortBlock.allocInput Cell.allocInput
  rw [h]
  exact ⟨rfl, rfl⟩

end

section
variable {i : AllocInput} (c : Cell)

theorem Cell.recordStart_takes (h : i.takesPart = true) : c.recordStart i = { c with
    demand := i.demand, claim := min i.demand (min (i.floor + i.credit) i.ceiling), epochFloor := i.floor } := by
  simp only [Cell.recordStart, AllocInput.claim, h, if_true]

theorem Cell.recordStart_not (h : ¬i.takesPart = true) : c.recordStart i = { c with
    demand := i.demand, claim := 0, epochFloor := 0, allowance := 0 } := by
  simp only [Cell.recordStart, AllocInput.claim, if_neg h]

end

theorem State.startReady_iff (s : State) (p : Port) : s.startReady p = true ↔
    (s.ports.get p).mode = .allocating ∧ (s.ports.get p).allocDue = true ∧ (s.ports.get p).inFlight = none ∧
      (s.ports.get p).closeOwed = [] ∧ (s.ports.get p).changeOwed = [] ∧ s.plans.owed = [] ∧ s.conduct.owed = [] := by
  simp only [State.startReady, Bool.and_eq_true, decide_eq_true_eq, Option.isNone_iff_eq_none, List.isEmpty_iff, and_assoc]

/-- Settles O34: the copies and what is recorded, field by field. -/
theorem allocationStartTakesItsCopies : Obligations.AllocationStartTakesItsCopies := by
  intro s p hm hdue hf hclose hchange hplans hconduct b r d
  have hready := (s.startReady_iff p).2 ⟨hm, hdue, hf, hclose, hchange, hplans, hconduct⟩
  obtain ⟨al, hal, hepoch, hcap, hmarked, hinput⟩ :=
    b.startAllocation_inFlight r (s.plans.inForce.share p) s.conductOf
  have hcapacity : b.effectiveCapacity r = b.values.cnom * d / 256 := by
    have hd : r.derate b.filter.accepted = d := rfl
    rw [PortBlock.effectiveCapacity, hd]
  have hcut (a : Account) : s.conductOf a ≠ .cutOff ↔ (s.conduct.recs.get a).score < 256 := by
    rw [← Nat.not_le]
    exact not_congr (band_eq_cutOff _)
  refine ⟨_, al, if_pos hready, ?_⟩
  have hport : (s.modPort p fun b => b.startAllocation (s.portRecord p) (s.plans.inForce.share p) s.conductOf).ports.get p =
      b.startAllocation r (s.plans.inForce.share p) s.conductOf := by
    rw [State.modPort_ports_get, if_pos rfl]
    rfl
  unfold State.cell
  rw [hport]
  refine ⟨hal, hepoch, hmarked, hcapacity, hcap.trans hcapacity, rfl, hm, fun a => ?_, rfl, rfl, rfl, fun p' hp' => ?_⟩
  · have hin := b.startAllocation_cell r (s.plans.inForce.share p) s.conductOf a
    have htakes := b.allocInput_takesPart r (s.plans.inForce.share p) s.conductOf a
    rw [hcut] at htakes
    dsimp only
    rw [hin, hinput, PortBlock.allocInput_demand, PortBlock.allocInput_weight, PortBlock.allocInput_credit,
      PortBlock.allocInput_conduct]
    have hdemand : b.snapshot a = min 16777215
        ((b.queues.cells.filter fun q => q.bound && decide (q.account = a)).map Queue.tally).sum := rfl
    refine ⟨?_, ?_, rfl, htakes, rfl, band_eq_stateAt _, fun sh hsh => ?_, ?_, ?_, ?_, fun sh hsh ht => ?_, fun ht => ?_⟩
    · rw [← hdemand, ← PortBlock.allocInput_demand b r (s.plans.inForce.share p) s.conductOf a]
      rfl
    · rw [← PortBlock.allocInput_demand b r (s.plans.inForce.share p) s.conductOf a]
      rfl
    · exact b.allocInput_share r _ _ hsh
    · rw [Cell.rampStep_eq]
      rfl
    · rw [Cell.rampStep_eq]
      rfl
    · rw [Cell.rampStep_eq]
      rfl
    · obtain ⟨hfloor, hceiling⟩ := b.allocInput_share r _ s.conductOf hsh
      rw [Cell.recordStart_takes _ (htakes.2 ht), Cell.rampStep_eq]
      dsimp only
      rw [hfloor, hceiling, PortBlock.allocInput_credit]
      exact ⟨rfl, rfl, rfl⟩
    · rw [Cell.recordStart_not _ fun h => ht (htakes.1 h)]
      exact ⟨rfl, rfl, rfl⟩
  · exact State.modPort_ports_ne _ _ hp'.symm

/-! ### The completion of an allocation (R14 to R17) -/

theorem exec_allocationComplete (p : Port) (s : State) : exec (.allocationComplete p) s = execAllocationComplete p s := rfl

theorem PortBlock.delivers_iff (b : PortBlock) (al : Allocation) :
    b.delivers al = true ↔ b.mode = .allocating ∧ al.epoch = b.openEpoch ∧ b.closeOwed = [] := by
  simp only [PortBlock.delivers, Bool.and_eq_true, decide_eq_true_eq, List.isEmpty_iff, and_assoc]

theorem Allocation.result_get (al : Allocation) (a : Account) :
    al.result.get a = if a ∈ al.marked then 0 else (allocate al.capacity al.inputs).get a := by
  rw [Allocation.result, Tab.get_mapIdx]

/-- Settles O35, by whether the result is delivered. -/
theorem allocationIsDeliveredOrDiscarded : Obligations.AllocationIsDeliveredOrDiscarded := by
  intro s p al hal b delivers result sum
  have hsum : al.result.cells.sum = sum := by
    rw [Tab.cells_eq, funext fun a => al.result_get a]
  have hexec : exec (.allocationComplete p) s =
      if b.delivers al = true then .next ((s.modPort p fun b => b.deliver al).arbiterRun p)
      else .next (s.modPort p fun b => { b with inFlight := none }) := by
    rw [exec_allocationComplete]
    simp only [execAllocationComplete, hal]
    rfl
  refine ⟨fun h => ?_, fun h => ?_⟩
  · have hport : (s.modPort p fun b => b.deliver al).ports.get p = b.deliver al := by
      rw [State.modPort_ports_get, if_pos rfl]
    have hmode : ((s.modPort p fun b => b.deliver al).ports.get p).mode = .granting := by rw [hport]; rfl
    refine ⟨_, by rw [hexec, if_pos ((b.delivers_iff al).2 h)], ?_, ?_, ?_, fun a => ?_, ?_,
      State.arbiterRun_nothingToGrant hmode, fun p' hp' => ?_, ?_, ?_, ?_⟩
    · rw [State.arbiterRun_ports_mode, hmode]
    · rw [State.arbiterRun_ports_inFlight, hport]
      rfl
    · rw [State.arbiterRun_ports_served, hport]
      rfl
    · obtain ⟨n, -, hn⟩ := (s.modPort p fun b => b.deliver al).arbiterRun_cell p a
      rw [hn]
      show ((s.modPort p fun b => b.deliver al).cell p a).allowance = _
      rw [State.cell, hport, PortBlock.deliver]
      dsimp only
      rw [Tab.get_mapIdx]
      exact al.result_get a
    · rw [State.arbiterRun_ports_totals, hport, PortBlock.deliver, ← hsum]
    · rw [State.arbiterRun_ports_ne _ hp'.symm, State.modPort_ports_ne _ _ hp'.symm]
    · rw [State.arbiterRun_timer]
      rfl
    · rw [State.arbiterRun_plans]
      rfl
    · rw [State.arbiterRun_mem]
      rfl
  · rw [hexec, if_neg fun hd => h ((b.delivers_iff al).1 hd), State.modPort_eq_set]

end Sys2Proof.Machine
end

section
/-! PROOF. The conduct unit at a boundary, and the sweep of the starvation scan (R100, R103 to R108, R111 to R113). -/

namespace Sys2Proof.Machine

/-! ### A record at a boundary (R100, R103, R104) -/

theorem exec_conductBoundary (order : List Account) (s : State) :
    exec (.conductBoundary order) s = execConductBoundary order s := rfl

theorem exec_autoRecovery (a : Account) (s : State) : exec (.autoRecovery a) s = execAutoRecovery a s := rfl

theorem State.active_iff (s : State) : s.active = true ↔ s.win.mode = .running ∨ s.win.mode = .stopping := by
  rw [State.active, Bool.or_eq_true, decide_eq_true_iff, decide_eq_true_iff]

section
variable (r : ConductRec) (auto : Bool)

theorem ConductRec.nextQuiet_eq : r.nextQuiet = if r.demand then r.quiet else min 32 (r.quiet + 1) := by
  rw [ConductRec.nextQuiet, Nat.min_comm]
  rfl

theorem ConductRec.recovers_iff : r.recovers auto = true ↔
    256 ≤ r.score ∧ auto = true ∧ (if r.demand then r.quiet else min 32 (r.quiet + 1)) = 32 := by
  simp only [ConductRec.recovers, Bool.and_eq_true, decide_eq_true_eq, r.state_eq_cutOff, r.nextQuiet_eq, and_assoc]
  rfl

theorem ConductRec.atBoundary_flags : (r.atBoundary auto).fault = false ∧ (r.atBoundary auto).activity = false ∧
    (r.atBoundary auto).demand = false := by
  unfold ConductRec.atBoundary
  split
  · split <;> exact ⟨rfl, rfl, rfl⟩
  · split <;> exact ⟨rfl, rfl, rfl⟩

variable {r}

theorem ConductRec.atBoundary_serving (h : r.score < 256) : (r.atBoundary auto).quiet = r.quiet ∧
    (r.atBoundary auto).score = if r.activity = true ∧ r.fault = false then r.score - 1 else r.score := by
  rw [ConductRec.atBoundary, if_neg fun hc => Nat.not_le.2 h (r.state_eq_cutOff.1 hc)]
  split <;> exact ⟨rfl, rfl⟩

variable {auto}

theorem ConductRec.atBoundary_recovers (h : r.recovers auto = true) : r.atBoundary auto = r.recover.clearFlags := by
  rw [ConductRec.atBoundary, if_pos (r.state_eq_cutOff.2 ((r.recovers_iff auto).1 h).1), if_pos h]

theorem ConductRec.atBoundary_waits (hc : 256 ≤ r.score) (h : ¬r.recovers auto = true) :
    r.atBoundary auto = { r with quiet := r.nextQuiet }.clearFlags := by
  rw [ConductRec.atBoundary, if_pos (r.state_eq_cutOff.2 hc), if_neg h]

end

/-! ### The boundary of the conduct unit (R106 to R108) -/

theorem filterMap_changeNotice (old new : Account → ConductRec) (e : Epoch) (l : List Account) :
    l.filterMap (fun a => changeNotice a (old a) (new a) e) =
      (l.filter fun a => decide (stateAt (old a).score ≠ stateAt (new a).score)).map fun a =>
        Notice.conductChange a (stateAt (old a).score) (stateAt (new a).score) (new a).score e := by
  induction l with
  | nil => rfl
  | cons a l ih =>
    have hnotice : changeNotice a (old a) (new a) e =
        if stateAt (old a).score = stateAt (new a).score then none
        else some (.conductChange a (stateAt (old a).score) (stateAt (new a).score) (new a).score e) := by
      simp only [changeNotice, ConductRec.state, band_eq_stateAt]
    rw [List.filterMap_cons, hnotice, List.filter_cons]
    by_cases h : stateAt (old a).score = stateAt (new a).score
    · simp [h, ih]
    · simp [h, ih]

theorem State.beginAnew_cell (s : State) (left : Account → Bool) (p : Port) (a : Account) :
    (s.beginAnew left).cell p a =
      if left a = true then { s.cell p a with starved := 0, reported := false } else s.cell p a := by
  simp only [State.cell, State.beginAnew, Tab.get_map, Tab.get_mapIdx]
  rfl

theorem State.beginAnew_port (s : State) (left : Account → Bool) (p : Port) :
    (s.beginAnew left).ports.get p = { s.ports.get p with cells := ((s.beginAnew left).ports.get p).cells } := by
  simp only [State.beginAnew, Tab.get_map]

/-- Where one account begins anew, one cell of each port does. -/
theorem State.beginAnew_one (s : State) (a : Account) : s.beginAnew (fun x => decide (x = a)) = { s with
    ports := s.ports.map fun b =>
      { b with cells := b.cells.modify a fun c => { c with starved := 0, reported := false } } } := by
  have hcells (b : PortBlock) : (b.cells.mapIdx fun x c => if decide (x = a) = true then c.unstarved else c) =
      b.cells.modify a fun c => { c with starved := 0, reported := false } :=
    Tab.ext_get fun x => by
      rw [Tab.get_mapIdx, Tab.get_modify]
      simp only [decide_eq_true_eq, eq_comm (a := x)]
      rfl
  simp only [State.beginAnew, hcells]

section
variable {s : State} {e : Epoch} {rest : List Epoch}

theorem execConductBoundary_of (order : List Account) (h : s.conduct.owed = e :: rest) (ha : s.active = true) :
    execConductBoundary order s = .next (({ s with conduct :=
        { recs := s.conduct.recs.mapIdx fun a (r : ConductRec) => r.atBoundary (s.autoRecovery a), owed := rest } }.beginAnew fun a =>
        (s.conduct.recs.get a).recovers (s.autoRecovery a)).postAll
          ((namedFirst order).filterMap fun a => changeNotice a (s.conduct.recs.get a)
            ((s.conduct.recs.get a).atBoundary (s.autoRecovery a)) e)) := by
  simp only [execConductBoundary, h, ha, if_true, Tab.get_mapIdx]
  rfl

theorem execConductBoundary_not (order : List Account) (h : s.conduct.owed = e :: rest) (ha : ¬s.active = true) :
    execConductBoundary order s = .next s := by
  simp only [execConductBoundary, h, if_neg ha]

theorem execAutoRecovery_of {a : Account} (h : s.conduct.owed = e :: rest)
    (ha : s.active = true ∧ (s.conduct.recs.get a).recovers (s.autoRecovery a) = true) :
    execAutoRecovery a s = .next (((s.modConduct a fun r => r.recover.clearFlags).beginAnew fun x => decide (x = a)).post
      (.conductChange a .cutOff .good 0 e)) := by
  simp only [execAutoRecovery, h, if_pos ha]

theorem execAutoRecovery_not {a : Account} (h : s.conduct.owed = e :: rest)
    (ha : ¬(s.active = true ∧ (s.conduct.recs.get a).recovers (s.autoRecovery a) = true)) :
    execAutoRecovery a s = .next s := by
  simp only [execAutoRecovery, h, if_neg ha]

end

/-- Settles O40: the records by `atBoundary`, the cells by who leaves CUT_OFF, the notices by whose state changes. -/
theorem conductTakesABoundary : Obligations.ConductTakesABoundary := by
  intro s order e rest howed auto quiet recovers serves
  have hrecovers (a : Account) : (s.conduct.recs.get a).recovers (s.autoRecovery a) = true ↔ recovers a :=
    ConductRec.recovers_iff _ _
  refine ⟨fun hn => ⟨?_, fun a => ?_⟩, fun hserves => ⟨_, (exec_conductBoundary order s).trans
    (execConductBoundary_of order howed (s.active_iff.2 hserves)), ?_⟩, fun a hserves hr => ?_⟩
  · rw [exec_conductBoundary, execConductBoundary_not order howed fun h => hn (s.active_iff.1 h)]
  · rw [exec_autoRecovery, execAutoRecovery_not howed fun h => hn (s.active_iff.1 h.1)]
  · have hrec (a : Account) : ({ s with conduct :=
          { recs := s.conduct.recs.mapIdx fun a (r : ConductRec) => r.atBoundary (s.autoRecovery a), owed := rest } } :
        State).conduct.recs.get a = (s.conduct.recs.get a).atBoundary (s.autoRecovery a) := Tab.get_mapIdx _ _ _
    obtain ⟨v, hv⟩ : ∃ v : State, v = { s with conduct :=
        { recs := s.conduct.recs.mapIdx fun a (r : ConductRec) => r.atBoundary (s.autoRecovery a), owed := rest } } := ⟨_, rfl⟩
    rw [← hv] at hrec ⊢
    rw [State.postAll_eq]
    have hconduct (left : Account → Bool) : (v.beginAnew left).conduct = v.conduct := rfl
    refine ⟨by rw [hconduct, hv], fun a => ?_, fun p => ⟨?_, fun a => ⟨fun hr => ?_, fun hr => ?_⟩⟩, ?_, ?_, ?_, ?_, ?_, ?_⟩
    · simp only [hconduct, hrec]
      obtain ⟨hf, hact, hd⟩ := (s.conduct.recs.get a).atBoundary_flags (s.autoRecovery a)
      refine ⟨hf, hact, hd, ConductRec.atBoundary_serving _, fun hr => ?_, fun hc hr => ?_⟩
      · rw [ConductRec.atBoundary_recovers ((hrecovers a).2 hr)]
        exact ⟨rfl, rfl⟩
      · rw [ConductRec.atBoundary_waits hc fun h => hr ((hrecovers a).1 h)]
        exact ⟨rfl, ConductRec.nextQuiet_eq _⟩
    · have hp := v.beginAnew_port (fun a => (s.conduct.recs.get a).recovers (s.autoRecovery a)) p
      rw [show v.ports = s.ports by rw [hv]] at hp
      exact hp
    · refine (v.beginAnew_cell _ p a).trans ?_
      rw [if_pos ((hrecovers a).2 hr), hv]
      rfl
    · refine (v.beginAnew_cell _ p a).trans ?_
      rw [if_neg fun h => hr ((hrecovers a).1 h), hv]
      rfl
    · rw [filterMap_changeNotice]
      simp only [hconduct, hrec]
      rw [show (v.beginAnew _).mem = s.mem by rw [hv]; rfl]
    all_goals rw [hv]; rfl
  · rw [exec_autoRecovery, execAutoRecovery_of howed ⟨s.active_iff.2 hserves, (hrecovers a).2 hr⟩, State.post_eq,
      State.beginAnew_one]
    rfl

/-! ### The sweep (R111, R112) -/

theorem exec_sweep (s : State) : exec .sweep s = execSweep s := rfl

theorem State.yields_iff (s : State) (c : CellIx) :
    s.yields c = true ↔ s.plans.inForce.scanS ≤ (s.cellAt c).starved ∧ (s.cellAt c).reported = false := by
  rw [State.yields, Bool.and_eq_true, decide_eq_true_iff, Bool.not_eq_true']

theorem sweepOrder_length (c : CellIx) : (sweepOrder c).length = 192 := by simp [sweepOrder]

theorem sweepOrder_getElem (c : CellIx) (i : Nat) (h : i < (sweepOrder c).length) :
    (sweepOrder c)[i] = Fin.ofNat 192 (c.val + i) := by
  simp only [sweepOrder, List.getElem_map, List.getElem_range]

/-- The sweep's search is the first of the 192 places that passes. -/
theorem sweepOrder_find_some {f : CellIx → Bool} {c : CellIx} {n : Nat} (hn : n < 192)
    (h : f (Fin.ofNat 192 (c.val + n)) = true) (hfirst : ∀ m < n, ¬f (Fin.ofNat 192 (c.val + m)) = true) :
    (sweepOrder c).find? f = some (Fin.ofNat 192 (c.val + n)) := by
  refine List.find?_eq_some_iff_getElem.2 ⟨h, n, by rw [sweepOrder_length]; exact hn, sweepOrder_getElem c n _, fun j hj => ?_⟩
  rw [sweepOrder_getElem, Bool.not_eq_true']
  exact Bool.eq_false_iff.2 (hfirst j hj)

theorem sweepOrder_find_none {f : CellIx → Bool} {c : CellIx} (h : ∀ n < 192, ¬f (Fin.ofNat 192 (c.val + n)) = true) :
    (sweepOrder c).find? f = none := by
  refine List.find?_eq_none.2 fun x hx => ?_
  obtain ⟨n, hn, rfl⟩ := List.mem_map.1 hx
  exact h n (List.mem_range.1 hn)

section
variable {s : State} {e : Epoch} {rest : List Epoch}

theorem execSweep_idle (h : s.scan.owed = e :: rest) (hs : s.scan.state ≠ .sweeping) :
    execSweep s = .next { s with scan := { s.scan with owed := rest } } := by
  simp only [execSweep, h, if_neg hs]

theorem execSweep_none (h : s.scan.owed = e :: rest) (hs : s.scan.state = .sweeping)
    (hf : (sweepOrder s.scan.cursor).find? (fun c => s.yields c) = none) :
    execSweep s = .next { s with scan := { s.scan with owed := rest } } := by
  simp only [execSweep, h, if_pos hs, hf]

theorem execSweep_some {c : CellIx} (h : s.scan.owed = e :: rest) (hs : s.scan.state = .sweeping)
    (hf : (sweepOrder s.scan.cursor).find? (fun c => s.yields c) = some c) :
    execSweep s = .next (State.offerFinding { s with scan := { s.scan with owed := rest } } c e) := by
  simp only [execSweep, h, if_pos hs, hf]

end

theorem State.offerFinding_room {s : State} (h : s.mem.notices.length < 32) (c : CellIx) (e : Epoch) :
    s.offerFinding c e = { s with
      scan := { s.scan with state := .halted, cursor := c, finding := some { cell := c, position := none } }
      mem := { s.mem with notices := s.mem.notices ++ [s.findingOf c e] }
      ports := s.ports.modify (cellPort c) fun b =>
        { b with cells := b.cells.set (cellAccount c) { s.cellAt c with reported := true } } } := by
  refine (if_pos h).trans ?_
  rw [State.post_eq, posted, if_pos h]
  rfl

theorem State.offerFinding_full {s : State} (h : 32 ≤ s.mem.notices.length) (c : CellIx) (e : Epoch) :
    s.offerFinding c e = { s with scan := { s.scan with cursor := c } } :=
  if_neg (Nat.not_lt.2 h)

/-- Settles O41, by the scan's state and the first cell that yields a finding. -/
theorem sweepReportsTheFirstStarvedCell : Obligations.SweepReportsTheFirstStarvedCell := by
  intro s e rest howed
  refine ⟨fun hs => (exec_sweep s).trans (execSweep_idle howed hs), fun hs => ?_⟩
  intro yields
  have hyields (i : Nat) : s.yields (Fin.ofNat 192 i) = true ↔ yields i := s.yields_iff _
  refine ⟨fun n hn hy hfirst => ?_, fun hnone => ?_⟩
  · intro c x
    have hexec := (exec_sweep s).trans (execSweep_some howed hs
      (sweepOrder_find_some hn ((hyields _).2 hy) fun m hm h => hfirst m hm ((hyields _).1 h)))
    exact ⟨fun hroom => hexec.trans (congrArg Host.Outcome.next
        (State.offerFinding_room (s := { s with scan := { s.scan with owed := rest } }) hroom c e)),
      fun hfull => hexec.trans (congrArg Host.Outcome.next
        (State.offerFinding_full (s := { s with scan := { s.scan with owed := rest } }) hfull c e))⟩
  · exact (exec_sweep s).trans (execSweep_none howed hs
      (sweepOrder_find_none fun n hn h => hnone n hn ((hyields _).1 h)))

end Sys2Proof.Machine
end

section
/-! PROOF. The grant link's messages and the layouts of what the part writes (R68 to R70, R164, R166). -/

namespace Sys2Proof.Machine

/-! ### Bytes put together from fields (R164) -/

/-- The bytes of values one after another, each little-endian in its size. A field is its size and its value. -/
def assembled (l : List (Nat × Nat)) : List Byte := l.flatMap fun f => leBytes f.1 f.2

/-- The fields with the offsets at which they stand. -/
def placedAt : Nat → List (Nat × Nat) → List (Nat × Nat × Nat)
  | _, [] => []
  | off, f :: fs => (off, f.1, f.2) :: placedAt (off + f.1) fs

theorem assembled_cons (f : Nat × Nat) (l : List (Nat × Nat)) :
    assembled (f :: l) = leBytes f.1 f.2 ++ assembled l := List.flatMap_cons

theorem assembled_append (l m : List (Nat × Nat)) : assembled (l ++ m) = assembled l ++ assembled m := List.flatMap_append

theorem length_assembled (l : List (Nat × Nat)) : (assembled l).length = (l.map Prod.fst).sum := by
  induction l with
  | nil => rfl
  | cons f l ih => rw [assembled_cons, List.length_append, length_leBytes, ih, List.map_cons, List.sum_cons]

/-- A field reads as its value. -/
theorem field_assembled {f : Nat × Nat × Nat} {off : Nat} {l : List (Nat × Nat)} (h : f ∈ placedAt off l) :
    off ≤ f.1 ∧ field (assembled l) (f.1 - off) f.2.1 = f.2.2 % 256 ^ f.2.1 := by
  induction l generalizing off with
  | nil => cases h
  | cons g l ih =>
    rcases List.mem_cons.1 h with rfl | hf
    · rw [assembled_cons]
      exact ⟨le_rfl, by rw [Nat.sub_self]; exact field_leBytes _ _ _⟩
    · obtain ⟨hle, hv⟩ := ih hf
      refine ⟨by omega, ?_⟩
      rw [assembled_cons, field_append_right _ _ _ _ (by rw [length_leBytes]; omega), length_leBytes, Nat.sub_sub, hv]

theorem field_assembled_zero {f : Nat × Nat × Nat} {l : List (Nat × Nat)} (h : f ∈ placedAt 0 l) :
    field (assembled l) f.1 f.2.1 = f.2.2 % 256 ^ f.2.1 := (field_assembled h).2

theorem leBytes_zero (n : Nat) : leBytes n 0 = zeros n := by
  induction n with
  | zero => rfl
  | succ n ih => rw [leBytes, Nat.zero_div, ih]; rfl

theorem field_zeros (n off size : Nat) : field (zeros n) off size = 0 := by
  unfold field zeros
  rw [List.drop_replicate, List.take_replicate]
  exact leValue_zeros _

/-- Every byte belongs to a field, and one of a field of value 0 is 0. -/
theorem byte_assembled {i off : Nat} {l : List (Nat × Nat)} (h : i < (assembled l).length) :
    ∃ f ∈ placedAt off l, f.1 ≤ off + i ∧ off + i < f.1 + f.2.1 ∧ (f.2.2 = 0 → field (assembled l) i 1 = 0) := by
  induction l generalizing i off with
  | nil => exact absurd h (Nat.not_lt_zero i)
  | cons g l ih =>
    rw [assembled_cons, List.length_append, length_leBytes] at h
    by_cases hi : i < g.1
    · refine ⟨_, List.mem_cons_self, Nat.le_add_right _ _, Nat.add_lt_add_left hi off, fun hz => ?_⟩
      rw [assembled_cons, field_append_left _ _ _ _ (by rw [length_leBytes]; omega), show g.2 = 0 from hz, leBytes_zero,
        field_zeros]
    · obtain ⟨f, hf, hle, hlt, hz⟩ := ih (off := off + g.1) (i := i - g.1) (by omega)
      refine ⟨f, List.mem_cons_of_mem _ hf, by omega, by omega, fun h0 => ?_⟩
      rw [assembled_cons, field_append_right _ _ _ _ (by rw [length_leBytes]; omega), length_leBytes, hz h0]

/-- Bytes put together from fields hold those named, where every other field is 0. -/
theorem laidOut_assembled {l : List (Nat × Nat)} {fs : List (Nat × Nat × Nat)} (h : ∀ f ∈ fs, f ∈ placedAt 0 l)
    (hz : ∀ f ∈ placedAt 0 l, f ∈ fs ∨ f.2.2 = 0) : laidOut (assembled l) fs := by
  refine ⟨fun f hf => field_assembled_zero (h f hf), fun i hi hout => ?_⟩
  obtain ⟨f, hf, hle, hlt, h0⟩ := byte_assembled (off := 0) hi
  rcases hz f hf with hin | hzero
  · have := hout f hin
    omega
  · exact h0 hzero

theorem padTo_assembled (n : Nat) (l : List (Nat × Nat)) :
    padTo n (assembled l) = assembled (l ++ [(n - (l.map Prod.fst).sum, 0)]) := by
  rw [assembled_append, padTo, length_assembled, ← leBytes_zero]
  exact congrArg _ (List.append_nil _).symm

theorem recordBytes_assembled (kind : Nat) (cont : Bool) (count : Word32) (l : List (Nat × Nat)) :
    recordBytes kind cont count (assembled l) = assembled ((1, kind) :: (1, bit cont) :: (2, count.toNat) ::
      (l ++ [(28 - (l.map Prod.fst).sum, 0)])) := by
  rw [recordBytes, padTo_assembled, assembled_cons, assembled_cons, assembled_cons]
  simp only [List.append_assoc]

/-! ### The messages (R68, R69) -/

theorem byte_eq_leBytes (b : Byte) : [b] = leBytes 1 b.toNat := by simp [leBytes]

theorem withCheck_assembled (l : List (Nat × Nat)) :
    withCheck (assembled l) = assembled (l ++ [(2, (crc16 (assembled l)).toNat)]) := by
  rw [assembled_append, withCheck]
  exact congrArg _ (List.append_nil _).symm

theorem withCheck_length (l : List Byte) : (withCheck l).length = l.length + 2 := by
  rw [withCheck, List.length_append, length_leBytes]

theorem withCheck_take (l : List Byte) : (withCheck l).take ((withCheck l).length - 2) = l := by
  rw [withCheck_length, Nat.add_sub_cancel, withCheck, List.take_left]

theorem withCheck_drop (l : List Byte) :
    (withCheck l).drop ((withCheck l).length - 2) = leBytes 2 (crc16 l).toNat := by
  rw [withCheck_length, Nat.add_sub_cancel, withCheck, List.drop_left]

theorem checkPasses_iff (b : List Byte) : checkPasses b = true ↔
    2 ≤ b.length ∧ b.drop (b.length - 2) = leBytes 2 (crc16 (b.take (b.length - 2))).toNat := by
  rw [checkPasses, Bool.and_eq_true, decide_eq_true_iff, decide_eq_true_iff]
  exact and_congr_right fun _ => eq_comm

theorem checkPasses_withCheck (l : List Byte) : checkPasses (withCheck l) = true :=
  (checkPasses_iff _).2 ⟨by rw [withCheck_length]; omega, by rw [withCheck_drop, withCheck_take]⟩

theorem judgeInbound_withCheck (l : List Byte) : judgeInbound (withCheck l) = inboundFields l := by
  rw [judgeInbound, if_pos (checkPasses_withCheck l), withCheck_take]

/-! ### The judge of inbound messages (R68, R70) -/

theorem portField_iff (n : Nat) (p : Port) : portField n = some p ↔ n = p.val := by
  unfold portField
  split
  next h => exact ⟨fun e => congrArg Fin.val (Option.some.inj e), fun e => congrArg some (Fin.ext e)⟩
  next h => exact ⟨(fun e => by cases e), fun e => absurd (e ▸ p.isLt) h⟩

theorem queueField_iff (n : Nat) (q : QueueId) : queueField n = some q ↔ n = q.val := by
  unfold queueField
  split
  next h => exact ⟨fun e => congrArg Fin.val (Option.some.inj e), fun e => congrArg some (Fin.ext e)⟩
  next h => exact ⟨(fun e => by cases e), fun e => absurd (e ▸ q.isLt) h⟩

theorem laneField_iff (n : Nat) (l : Lane) : laneField n = some l ↔ n = laneCode l := by
  unfold laneField
  split
  next h => subst h; cases l <;> simp [laneCode]
  next h =>
    split
    next h1 => subst h1; cases l <;> simp [laneCode]
    next h1 => cases l <;> simp [laneCode, h, h1]

/-- The bytes before the check are those of this inbound message (R70, 13.7). -/
def fieldsCarry (b : List Byte) : InMsg → Prop
  | .bind p q src l => b.length = 8 ∧ field b 0 1 = 1 ∧ field b 1 1 = p.val ∧ field b 2 1 = q.val ∧
      field b 3 1 = laneCode l ∧ src = BitVec.ofNat 24 (field24 b 4)
  | .unbind p q => b.length = 4 ∧ field b 0 1 = 2 ∧ field b 1 1 = p.val ∧ field b 2 1 = q.val
  | .demand p q u => b.length = 6 ∧ field b 0 1 = 3 ∧ field b 1 1 = p.val ∧ field b 2 1 = q.val ∧
      u = BitVec.ofNat 16 (field b 4 2)
  | .close p t u => b.length = 6 ∧ field b 0 1 = 4 ∧ field b 1 1 = p.val ∧ t = BitVec.ofNat 8 (field b 2 1) ∧
      u = BitVec.ofNat 16 (field b 4 2)
  | .level p l => b.length = 4 ∧ field b 0 1 = 5 ∧ field b 1 1 = p.val ∧ l = BitVec.ofNat 8 (field b 2 1)

theorem fieldsCarry_of_inboundFields {b : List Byte} {m : InMsg} (h : inboundFields b = some m) : fieldsCarry b m := by
  unfold inboundFields at h
  split at h
  next hk =>
    split at h
    next hl =>
      simp only [Option.bind_eq_bind, Option.bind_eq_some_iff, pure, portField_iff, queueField_iff, laneField_iff,
        Option.some.injEq] at h
      obtain ⟨p, hp, q, hq, l, hln, rfl⟩ := h
      exact ⟨hl, hk, hp, hq, hln, rfl⟩
    · cases h
  next hk =>
    split at h
    next hl =>
      simp only [Option.bind_eq_bind, Option.bind_eq_some_iff, pure, portField_iff, queueField_iff,
        Option.some.injEq] at h
      obtain ⟨p, hp, q, hq, rfl⟩ := h
      exact ⟨hl, hk, hp, hq⟩
    · cases h
  next hk =>
    split at h
    next hl =>
      simp only [Option.bind_eq_bind, Option.bind_eq_some_iff, pure, portField_iff, queueField_iff,
        Option.some.injEq] at h
      obtain ⟨p, hp, q, hq, rfl⟩ := h
      exact ⟨hl, hk, hp, hq, rfl⟩
    · cases h
  next hk =>
    split at h
    next hl =>
      simp only [Option.bind_eq_bind, Option.bind_eq_some_iff, pure, portField_iff, Option.some.injEq] at h
      obtain ⟨p, hp, rfl⟩ := h
      exact ⟨hl, hk, hp, rfl, rfl⟩
    · cases h
  next hk =>
    split at h
    next hl =>
      simp only [Option.bind_eq_bind, Option.bind_eq_some_iff, pure, portField_iff, Option.some.injEq] at h
      obtain ⟨p, hp, rfl⟩ := h
      exact ⟨hl, hk, hp, rfl⟩
    · cases h
  · cases h

theorem inboundFields_of_fieldsCarry {b : List Byte} {m : InMsg} (h : fieldsCarry b m) : inboundFields b = some m := by
  cases m with
  | bind p q src l =>
    obtain ⟨hl, hk, hp, hq, hln, rfl⟩ := h
    simp only [inboundFields, hk, hl, if_true, (portField_iff _ _).2 hp, (queueField_iff _ _).2 hq,
      (laneField_iff _ _).2 hln]
    rfl
  | unbind p q =>
    obtain ⟨hl, hk, hp, hq⟩ := h
    simp only [inboundFields, hk, hl, if_true, (portField_iff _ _).2 hp, (queueField_iff _ _).2 hq]
    rfl
  | demand p q u =>
    obtain ⟨hl, hk, hp, hq, rfl⟩ := h
    simp only [inboundFields, hk, hl, if_true, (portField_iff _ _).2 hp, (queueField_iff _ _).2 hq]
    rfl
  | close p t u =>
    obtain ⟨hl, hk, hp, rfl, rfl⟩ := h
    simp only [inboundFields, hk, hl, if_true, (portField_iff _ _).2 hp]
    rfl
  | level p l =>
    obtain ⟨hl, hk, hp, rfl⟩ := h
    simp only [inboundFields, hk, hl, if_true, (portField_iff _ _).2 hp]
    rfl

theorem inboundFields_iff (b : List Byte) (m : InMsg) : inboundFields b = some m ↔ fieldsCarry b m :=
  ⟨fieldsCarry_of_inboundFields, inboundFields_of_fieldsCarry⟩

theorem judgeInbound_iff (b : List Byte) (m : InMsg) : judgeInbound b = some m ↔
    checkPasses b = true ∧ fieldsCarry (b.take (b.length - 2)) m := by
  rw [judgeInbound, ← inboundFields_iff]
  by_cases h : checkPasses b = true
  · rw [if_pos h]
    exact (and_iff_right h).symm
  · rw [if_neg h]
    exact ⟨(fun e => by cases e), fun hc => absurd hc.1 h⟩

theorem field_take {b : List Byte} {n off size : Nat} (h : off + size ≤ n) : field (b.take n) off size = field b off size := by
  have := field_of_part b 0 n off size h
  rwa [List.drop_zero, Nat.zero_add] at this

theorem field_prefix_eq {b : List Byte} (off size k : Nat) :
    field b off size = field b off (size + k) % 256 ^ size := by
  unfold field
  have key (l : List Byte) (n : Nat) : leValue (l.take n) = leValue (l.take (n + k)) % 256 ^ n := by
    induction n generalizing l with
    | zero => rw [List.take_zero, Nat.pow_zero, Nat.mod_one]; rfl
    | succ n ih =>
      cases l with
      | nil => simp [leValue]
      | cons x xs =>
        rw [Nat.succ_add, List.take_succ_cons, List.take_succ_cons, leValue, leValue, ih, pow_succ' 256 n, Nat.mod_mul]
        have hx := x.isLt
        have hdiv : (x.toNat + 256 * leValue (xs.take (n + k))) / 256 = leValue (xs.take (n + k)) := by omega
        rw [hdiv]
        omega
  exact key _ size

theorem eq_ofNat_iff_toNat {w v : Nat} (x : BitVec w) (h : v < 2 ^ w) : x = BitVec.ofNat w v ↔ x.toNat = v := by
  rw [← BitVec.toNat_inj, BitVec.toNat_ofNat, Nat.mod_eq_of_lt h]

/-- What the judge hands on is what the bytes carry. -/
theorem carries_iff (b : List Byte) (m : InMsg) : carries b m ↔
    checkPasses b = true ∧ fieldsCarry (b.take (b.length - 2)) m := by
  rw [checkPasses_iff, and_assoc]
  unfold carries
  refine and_congr_right fun h2 => and_congr_right fun _ => ?_
  have hlen : (b.take (b.length - 2)).length = b.length - 2 := by rw [List.length_take]; omega
  have hlength (n : Nat) : b.length = n + 2 ↔ (b.take (b.length - 2)).length = n := by rw [hlen]; omega
  have hfield (off size n : Nat) (hle : off + size ≤ n) (hb : b.length = n + 2) :
      field (b.take (b.length - 2)) off size = field b off size := field_take (by omega)
  cases m with
  | bind p q src l =>
    unfold fieldsCarry
    dsimp only
    rw [hlength 8]
    refine and_congr_right fun hl => ?_
    have hb := (hlength 8).2 hl
    have hcode : laneCode l = match l with | .urgent => 0 | .bulk => 1 := rfl
    have h24 : BitVec.ofNat 24 (field b 4 3) = BitVec.ofNat 24 (field b 4 4) := by
      apply BitVec.eq_of_toNat_eq
      rw [BitVec.toNat_ofNat, BitVec.toNat_ofNat, field_prefix_eq 4 3 1]
      exact Nat.mod_mod _ _
    rw [field24, hfield 0 1 8 (by omega) hb, hfield 1 1 8 (by omega) hb, hfield 2 1 8 (by omega) hb,
      hfield 3 1 8 (by omega) hb, hfield 4 3 8 (by omega) hb, h24]
    exact Iff.rfl
  | unbind p q =>
    unfold fieldsCarry
    dsimp only
    rw [hlength 4]
    refine and_congr_right fun hl => ?_
    have hb := (hlength 4).2 hl
    rw [hfield 0 1 4 (by omega) hb, hfield 1 1 4 (by omega) hb, hfield 2 1 4 (by omega) hb]
  | demand p q u =>
    unfold fieldsCarry
    dsimp only
    rw [hlength 6]
    refine and_congr_right fun hl => ?_
    have hb := (hlength 6).2 hl
    rw [hfield 0 1 6 (by omega) hb, hfield 1 1 6 (by omega) hb, hfield 2 1 6 (by omega) hb, hfield 4 2 6 (by omega) hb,
      eq_ofNat_iff_toNat u (field_lt b 4 2)]
  | close p t u =>
    unfold fieldsCarry
    dsimp only
    rw [hlength 6]
    refine and_congr_right fun hl => ?_
    have hb := (hlength 6).2 hl
    rw [hfield 0 1 6 (by omega) hb, hfield 1 1 6 (by omega) hb, hfield 2 1 6 (by omega) hb, hfield 4 2 6 (by omega) hb,
      eq_ofNat_iff_toNat u (field_lt b 4 2), eq_ofNat_iff_toNat t (field_lt b 2 1)]
  | level p l =>
    unfold fieldsCarry
    dsimp only
    rw [hlength 4]
    refine and_congr_right fun hl => ?_
    have hb := (hlength 4).2 hl
    rw [hfield 0 1 4 (by omega) hb, hfield 1 1 4 (by omega) hb, hfield 2 1 4 (by omega) hb,
      eq_ofNat_iff_toNat l (field_lt b 2 1)]

/-- Settles O17: the judge and the statement name the same messages, and INBOUND_DISCARD asks the judge. -/
theorem discardsAreCounted : Obligations.DiscardsAreCounted := by
  have hjudge (b : List Byte) (m : InMsg) : judgeInbound b = some m ↔ carries b m :=
    (judgeInbound_iff b m).trans (carries_iff b m).symm
  refine ⟨hjudge, fun s b => ⟨fun hn => ?_, fun m hm => ?_⟩⟩
  · have hnone : judgeInbound b = none := Option.eq_none_iff_forall_ne_some.2 fun m h => hn m ((hjudge b m).1 h)
    exact if_pos (by rw [hnone]; rfl)
  · exact if_neg (by rw [(hjudge b m).2 hm]; simp)

/-! ### Inbound messages as they are sent (13.7) -/

/-- The fields of an inbound message before its check. -/
def inboundLayout : InMsg → List (Nat × Nat)
  | .bind p q src l => [(1, 1), (1, p.val), (1, q.val), (1, laneCode l), (4, src.toNat)]
  | .unbind p q => [(1, 2), (1, p.val), (1, q.val), (1, 0)]
  | .demand p q u => [(1, 3), (1, p.val), (1, q.val), (1, 0), (2, u.toNat)]
  | .close p t u => [(1, 4), (1, p.val), (1, t.toNat), (1, 0), (2, u.toNat)]
  | .level p l => [(1, 5), (1, p.val), (1, l.toNat), (1, 0)]

theorem InMsg.wire_eq (m : InMsg) : m.wire = withCheck (assembled (inboundLayout m)) := by
  cases m
  all_goals
    refine congrArg withCheck ?_
    simp only [inboundLayout, assembled, List.flatMap_cons, List.flatMap_nil, List.append_assoc, List.append_nil,
      byte_eq_leBytes, leBytes_zero]

theorem laneCode_lt (l : Lane) : laneCode l < 256 := by cases l <;> decide

/-- The fields before the check are read back as they were sent. -/
theorem fieldsCarry_inboundLayout (m : InMsg) : fieldsCarry (assembled (inboundLayout m)) m := by
  have hport (p : Port) : p.val % 256 ^ 1 = p.val := Nat.mod_eq_of_lt (by omega)
  have hqueue (q : QueueId) : q.val % 256 ^ 1 = q.val := Nat.mod_eq_of_lt (by omega)
  have hvalue {w k : Nat} (x : BitVec w) (h : 2 ^ w ≤ 256 ^ k) : x.toNat % 256 ^ k = x.toNat :=
    Nat.mod_eq_of_lt (x.isLt.trans_le h)
  cases m with
  | bind p q src l =>
    refine ⟨length_assembled _, field_assembled_zero (f := (0, 1, 1)) ?_,
      (field_assembled_zero (f := (1, 1, p.val)) ?_).trans (hport p),
      (field_assembled_zero (f := (2, 1, q.val)) ?_).trans (hqueue q),
      (field_assembled_zero (f := (3, 1, laneCode l)) ?_).trans (Nat.mod_eq_of_lt (laneCode_lt l)), ?_⟩
    any_goals simp [inboundLayout, placedAt]
    have hsrc : field (assembled (inboundLayout (.bind p q src l))) 4 4 = src.toNat :=
      (field_assembled_zero (f := (4, 4, src.toNat)) (by simp [inboundLayout, placedAt])).trans (hvalue (k := 4) src (by decide))
    have h24 : field24 (assembled (inboundLayout (.bind p q src l))) 4 = src.toNat := by
      rw [field24, field_prefix_eq 4 3 1, hsrc]
      exact hvalue (k := 3) src (by decide)
    exact ((eq_ofNat_iff_toNat src (lt_of_eq_of_lt h24 src.isLt)).2 h24.symm)
  | unbind p q =>
    refine ⟨length_assembled _, field_assembled_zero (f := (0, 1, 2)) ?_,
      (field_assembled_zero (f := (1, 1, p.val)) ?_).trans (hport p),
      (field_assembled_zero (f := (2, 1, q.val)) ?_).trans (hqueue q)⟩
    all_goals simp [inboundLayout, placedAt]
  | demand p q u =>
    refine ⟨length_assembled _, field_assembled_zero (f := (0, 1, 3)) ?_,
      (field_assembled_zero (f := (1, 1, p.val)) ?_).trans (hport p),
      (field_assembled_zero (f := (2, 1, q.val)) ?_).trans (hqueue q),
      (eq_ofNat_iff_toNat u (field_lt _ 4 2)).2
        ((field_assembled_zero (f := (4, 2, u.toNat)) ?_).trans (hvalue (k := 2) u (by decide))).symm⟩
    all_goals simp [inboundLayout, placedAt]
  | close p t u =>
    refine ⟨length_assembled _, field_assembled_zero (f := (0, 1, 4)) ?_,
      (field_assembled_zero (f := (1, 1, p.val)) ?_).trans (hport p),
      (eq_ofNat_iff_toNat t (field_lt _ 2 1)).2
        ((field_assembled_zero (f := (2, 1, t.toNat)) ?_).trans (hvalue (k := 1) t (by decide))).symm,
      (eq_ofNat_iff_toNat u (field_lt _ 4 2)).2
        ((field_assembled_zero (f := (4, 2, u.toNat)) ?_).trans (hvalue (k := 2) u (by decide))).symm⟩
    all_goals simp [inboundLayout, placedAt]
  | level p l =>
    refine ⟨length_assembled _, field_assembled_zero (f := (0, 1, 5)) ?_,
      (field_assembled_zero (f := (1, 1, p.val)) ?_).trans (hport p),
      (eq_ofNat_iff_toNat l (field_lt _ 2 1)).2
        ((field_assembled_zero (f := (2, 1, l.toNat)) ?_).trans (hvalue (k := 1) l (by decide))).symm⟩
    all_goals simp [inboundLayout, placedAt]

/-- Settles O18: the check passes, and the fields are those sent. -/
theorem inboundMessagesRoundTrip : Obligations.InboundMessagesRoundTrip := by
  intro m
  rw [InMsg.wire_eq, judgeInbound_withCheck]
  exact (inboundFields_iff _ _).2 (fieldsCarry_inboundLayout m)

/-! ### What the part writes (13.3, 13.5 to 13.7) -/

theorem flagBits_eq (t : Tab 4 Bool) (part : Bool) : flagBits (fun p => t.get p) part = maskBits t part := by
  have hbit (b : Bool) (n : Nat) : (if b then n else 0) = n * bit b := by cases b <;> simp [bit]
  simp only [flagBits, maskBits, hbit, List.finRange_succ, List.finRange_zero, List.map_cons, List.map_nil, List.sum_cons,
    List.sum_nil]
  simp
  omega

/-- The fields of an outbound message before its check. -/
def outboundLayout : OutMsg → List (Nat × Nat)
  | .grant p t q u => [(1, 0x11), (1, p.val), (1, t.toNat), (1, q.val), (2, u)]
  | .revoke p t => [(1, 0x12), (1, p.val), (1, t.toNat), (1, 0)]
  | .refuse p q r => [(1, 0x13), (1, p.val), (1, q.val), (1, r.code)]

theorem OutMsg.wire_eq (m : OutMsg) : m.wire = withCheck (assembled (outboundLayout m)) := by
  cases m
  all_goals
    refine congrArg withCheck ?_
    simp only [outboundLayout, assembled, List.flatMap_cons, List.flatMap_nil, List.append_assoc, List.append_nil,
      byte_eq_leBytes, leBytes_zero]

/-- No outbound message is one of the inbound kinds. -/
theorem OutMsg.inboundFields (m : OutMsg) : Sys2Proof.Machine.inboundFields (assembled (outboundLayout m)) = none := by
  cases m <;> rfl

theorem OutMsg.laidOut_wire (m : OutMsg) (c : Nat) : laidOut (assembled (outboundLayout m ++ [(2, c)]))
    (messageFields m ++ [((assembled (outboundLayout m)).length, 2, c)]) := by
  rw [length_assembled]
  refine laidOut_assembled ?_ ?_
  all_goals cases m <;> simp [outboundLayout, placedAt, messageFields]

/-- The fields of a notice's body (R166). -/
def noticeLayout : Notice → List (Nat × Nat)
  | .planApplied g e t c d pd => [(4, g.toNat), (4, e.toNat), (2, t.toNat), (2, c), (1, maskBits d pd)]
  | .planRefused g e t r => [(4, g.toNat), (4, e.toNat), (2, t.toNat), (1, r.code)]
  | .deferredApplied g e none => [(4, g.toNat), (4, e.toNat), (1, 4)]
  | .deferredApplied g e (some p) => [(4, g.toNat), (4, e.toNat), (1, p.val)]
  | .conductChange a old new score e =>
    [(1, a.val), (1, old.code), (1, new.code), (1, 0), (2, score), (2, 0), (4, e.toNat)]
  | .starvationFinding p a count floor net e =>
    [(1, p.val), (1, a.val), (1, count), (1, 0), (4, floor), (4, net), (4, e.toNat)]
  | .syncChange c e prev => [(1, c.code), (3, 0), (4, e.toNat), (4, prev.toNat)]
  | .portState p left entered e => [(1, p.val), (1, left.code), (1, entered.code), (1, 0), (4, e.toNat)]
  | .memoryResumed r e => [(1, r.code), (3, 0), (4, e.toNat)]

theorem Notice.body_eq (n : Notice) : n.body = assembled (noticeLayout n) := by
  rcases n with _ | _ | ⟨_, _, _ | _⟩ | _ | _ | _ | _ | _
  all_goals
    simp only [Notice.body, noticeLayout, assembled, List.flatMap_cons, List.flatMap_nil, List.append_assoc,
      List.append_nil, leBytes_zero]

/-- The fields of a report's two bodies (R166). -/
def firstLayout (r : Report) : List (Nat × Nat) :=
  [(1, r.port.val), (1, r.mode.code), (1, r.accepted.val), (1, 0), (4, r.firstEpoch.toNat), (2, r.covered), (2, 0),
    (4, r.effective), (4, r.allocated), (4, r.issuedNet), (4, r.used)]

def continuationLayout (r : Report) : List (Nat × Nat) :=
  [(4, r.idle), (4, r.overrun), (4, r.expiries), (4, r.late), (4, r.stray), (4, r.refused), (1, r.port.val), (3, 0)]

theorem Report.firstBody_eq (r : Report) : r.firstBody = assembled (firstLayout r) := by
  simp only [Report.firstBody, firstLayout, assembled, List.flatMap_cons, List.flatMap_nil, List.append_assoc,
    List.append_nil, leBytes_zero]

theorem Report.contBody_eq (r : Report) : r.contBody = assembled (continuationLayout r) := by
  simp only [Report.contBody, continuationLayout, assembled, List.flatMap_cons, List.flatMap_nil, List.append_assoc,
    List.append_nil, leBytes_zero]

/-- A record of kind and body: 32 bytes, with the fields named where the others are 0. -/
theorem laidOut_recordBytes {kind : Nat} {cont : Bool} {count : Word32} {l : List (Nat × Nat)}
    {fs : List (Nat × Nat × Nat)} (hlen : (l.map Prod.fst).sum ≤ 28)
    (h : ∀ f ∈ fs, f ∈ placedAt 0 ((1, kind) :: (1, bit cont) :: (2, count.toNat) ::
      (l ++ [(28 - (l.map Prod.fst).sum, 0)])))
    (hz : ∀ f ∈ placedAt 0 ((1, kind) :: (1, bit cont) :: (2, count.toNat) ::
      (l ++ [(28 - (l.map Prod.fst).sum, 0)])), f ∈ fs ∨ f.2.2 = 0) :
    (recordBytes kind cont count (assembled l)).length = 32 ∧ laidOut (recordBytes kind cont count (assembled l)) fs := by
  rw [recordBytes_assembled]
  refine ⟨?_, laidOut_assembled h hz⟩
  rw [length_assembled]
  simp only [List.map_cons, List.map_append, List.map_nil, List.sum_cons, List.sum_append, List.sum_nil]
  omega

theorem JournalItem.laidOut_bytes (i : JournalItem) (count : Word32) :
    (i.bytes count).length = 32 ∧ laidOut (i.bytes count) ((2, 2, count.toNat) :: bodyFields i) := by
  rcases i with n | ⟨p, r⟩ | ⟨p, r⟩
  · rw [show (JournalItem.notice n).bytes count = recordBytes n.kind false count n.body from rfl, Notice.body_eq]
    rcases n with _ | _ | ⟨_, _, _ | _⟩ | _ | _ | _ | _ | _
    all_goals
      refine laidOut_recordBytes (by simp [noticeLayout]) ?_ ?_
      all_goals simp [noticeLayout, placedAt, bodyFields, Notice.kind, bit, flagBits_eq]
  · rw [show (JournalItem.first p r).bytes count = recordBytes reportKind false count r.firstBody from rfl,
      Report.firstBody_eq]
    refine laidOut_recordBytes (by simp [firstLayout]) ?_ ?_
    all_goals simp [firstLayout, placedAt, bodyFields, reportKind, bit]
  · rw [show (JournalItem.continuation p r).bytes count = recordBytes reportKind true count r.contBody from rfl,
      Report.contBody_eq]
    refine laidOut_recordBytes (by simp [continuationLayout]) ?_ ?_
    all_goals simp [continuationLayout, placedAt, bodyFields, reportKind, bit]

/-- The fields of the part half (R151). -/
def partHalfLayout (s : State) (mode : PartMode) : List (Nat × Nat) :=
  [(1, mode.code), (1, 0), (1, s.timer.sync.code), (1, s.deferredFlags)] ++
    ((List.finRange 4).map fun p => (1, (s.ports.get p).mode.code)) ++
    [(4, s.timer.epoch.toNat), (4, s.plans.inForce.gen.toNat), (2, s.plans.inForce.tag.toNat), (2, 0),
      (4, s.plans.appliedEpoch.toNat), (4, s.plans.fetched.toNat),
      (4, match s.plans.staged with | none => 0 | some pl => pl.gen.toNat), (4, s.mem.produced.toNat),
      (4, s.mem.lapsed.toNat), (4, s.link.discards.toNat), (20, 0)]

theorem assembled_bytes {α : Type} (l : List α) (f : α → Nat) :
    assembled (l.map fun a => (1, f a)) = l.map fun a => BitVec.ofNat 8 (f a) := by
  induction l with
  | nil => rfl
  | cons a l ih => rw [List.map_cons, assembled_cons, ih]; rfl

theorem State.partHalfBytes_eq (s : State) (mode : PartMode) :
    s.partHalfBytes mode = assembled (partHalfLayout s mode) := by
  rw [State.partHalfBytes, partHalfLayout, assembled_append, assembled_append, assembled_bytes, Tab.cells_eq, List.map_map]
  simp only [assembled, List.flatMap_cons, List.flatMap_nil, List.append_assoc, List.append_nil, leBytes_zero,
    Function.comp_def]
  cases s.plans.staged <;> rfl

theorem State.laidOut_partHalf (s : State) (mode : PartMode) : (s.partHalfBytes mode).length = 64 ∧
    laidOut (s.partHalfBytes mode) (
      ((List.finRange 4).map fun p => (4 + p.val, 1, (s.ports.get p).mode.code)) ++
      [(0, 1, mode.code), (2, 1, s.timer.sync.code), (3, 1, s.deferredFlags),
        (8, 4, s.timer.epoch.toNat), (12, 4, s.plans.inForce.gen.toNat), (16, 2, s.plans.inForce.tag.toNat),
        (20, 4, s.plans.appliedEpoch.toNat), (24, 4, s.plans.fetched.toNat),
        (28, 4, match s.plans.staged with | none => 0 | some pl => pl.gen.toNat),
        (32, 4, s.mem.produced.toNat), (36, 4, s.mem.lapsed.toNat), (40, 4, s.link.discards.toNat)]) := by
  rw [State.partHalfBytes_eq]
  refine ⟨?_, laidOut_assembled ?_ ?_⟩
  · rw [length_assembled]
    simp [partHalfLayout, List.finRange_succ]
  all_goals simp [partHalfLayout, placedAt, List.finRange_succ]

theorem usageHeader_eq (n : Word32) (e : Epoch) :
    usageHeader n e = assembled [(4, n.toNat), (4, e.toNat), (56, 0)] := by
  simp only [usageHeader, assembled, List.flatMap_cons, List.flatMap_nil, List.append_assoc, List.append_nil, leBytes_zero]

theorem Cell.row_eq (c : Cell) : c.row = assembled [(8, c.cumAllocated.toNat), (8, c.cumIssued.toNat),
    (8, c.cumUsed.toNat), (8, c.cumOverrun.toNat), (4, c.cumExpiries.toNat), (4, c.allowance), (4, c.credit),
    (2, c.ramp.weight), (1, c.starved), (17, 0)] := by
  simp only [Cell.row, assembled, List.flatMap_cons, List.flatMap_nil, List.append_assoc, List.append_nil, leBytes_zero]

theorem ConductRec.row_eq (r : ConductRec) :
    r.row = assembled [(2, r.score), (1, (stateAt r.score).code), (1, r.quiet), (12, 0)] := by
  simp only [ConductRec.row, ConductRec.state, band_eq_stateAt, assembled, List.flatMap_cons, List.flatMap_nil,
    List.append_assoc, List.append_nil, leBytes_zero]

/-- Settles O19: each written text is put together from fields, and is laid out by them. -/
theorem layoutsOfWhatThePartWrites : Obligations.LayoutsOfWhatThePartWrites := by
  refine ⟨⟨rfl, rfl, rfl, rfl, rfl, rfl, rfl, rfl, rfl, rfl⟩, fun m => ⟨?_, ?_, ?_, ?_⟩, JournalItem.laidOut_bytes,
    fun s m => ?_, fun n e => ⟨?_, ?_⟩, fun c => ⟨?_, ?_⟩, fun r => ⟨?_, ?_⟩⟩
  · rw [OutMsg.wire_eq, withCheck_length, length_assembled]
    cases m <;> rfl
  · rw [OutMsg.wire_eq]
    exact checkPasses_withCheck _
  · rw [OutMsg.wire_eq, judgeInbound_withCheck, OutMsg.inboundFields]
  · dsimp only
    rw [OutMsg.wire_eq, withCheck_take, withCheck_length, Nat.add_sub_cancel, withCheck_assembled]
    exact m.laidOut_wire _
  · have hflags : flagBits (fun p => (s.ports.get p).deferred.isSome)
        (s.plans.partDeferred.isSome || s.timer.pending.isSome) = s.deferredFlags := by
      rw [State.deferredFlags, ← flagBits_eq]
      simp only [Tab.get_map]
    rw [hflags]
    exact s.laidOut_partHalf m
  · rw [usageHeader_eq, length_assembled]
    rfl
  · rw [usageHeader_eq]
    refine laidOut_assembled ?_ ?_
    all_goals simp [placedAt]
  · rw [Cell.row_eq, length_assembled]
    rfl
  · rw [Cell.row_eq]
    refine laidOut_assembled ?_ ?_
    all_goals simp [placedAt]
  · rw [ConductRec.row_eq, length_assembled]
    rfl
  · rw [ConductRec.row_eq]
    refine laidOut_assembled ?_ ?_
    all_goals simp [placedAt]

end Sys2Proof.Machine
end

section
/-! PROOF. Part-half and signal writes complete, usage statements, and the failed access (R147, R148, R151, R158, R160,
R161). -/

namespace Sys2Proof.Machine

/-! ### Part-half writes and signal writes -/

theorem State.issueOwed_eq (s : State) : s.issueOwed = oldestIssued s := by
  unfold State.issueOwed oldestIssued
  cases s.mem.writesOwed <;> rfl

theorem oldestIssued_of_nil {s : State} (h : s.mem.writesOwed = []) : oldestIssued s = s := by
  simp only [oldestIssued, h]

theorem oldestIssued_of_cons {s : State} {final : Bool} {rest : List Bool} (h : s.mem.writesOwed = final :: rest) :
    oldestIssued s = partHalfIssued { s with mem := { s.mem with writesOwed := rest } } final := by
  simp only [oldestIssued, h]

theorem oldestIssued_takenBack (s : State) : passTakenBack s (oldestIssued s) = s := by
  unfold oldestIssued
  split
  · rfl
  next final rest h => exact passTakenBack_trans (t := { s with mem := { s.mem with writesOwed := rest } }) rfl rfl

theorem oldestIssued_keeps (s : State) :
    (oldestIssued s).win = s.win ∧ (oldestIssued s).link = s.link ∧ (oldestIssued s).conduct = s.conduct ∧
      (oldestIssued s).mem.produced = s.mem.produced ∧ (oldestIssued s).mem.notices = s.mem.notices ∧
      (oldestIssued s).mem.slots = s.mem.slots := by
  have h := oldestIssued_takenBack s
  exact ⟨(congrArg State.win h :), (congrArg State.link h :), (congrArg State.conduct h :),
    (congrArg (fun x => x.mem.produced) h :), (congrArg (fun x => x.mem.notices) h :),
    (congrArg (fun x => x.mem.slots) h :)⟩

/-- The state in which a part-half write has left flight, its signal write issued or the indication set again (R158). -/
def State.partHalfDone (s : State) (w : PartHalfWrite) : State :=
  { s with mem :=
    if w.signalling = true ∧ s.mem.armed = true then
      { s.mem with
        partHalf := none
        armed := false
        noted := w.produced
        signalWrites := s.mem.signalWrites ++
          [{ write := { addr := s.mem.signalAddr, data := leBytes 4 s.mem.signalValue.toNat }, final := w.final }] }
    else { s.mem with partHalf := none, signalDue := s.mem.signalDue || w.signalling } }

theorem State.partHalfDone_keeps (s : State) (w : PartHalfWrite) :
    (s.partHalfDone w).mem.partHalf = none ∧ (s.partHalfDone w).mem.writesOwed = s.mem.writesOwed ∧
      (s.partHalfDone w).mem.produced = s.mem.produced ∧ (s.partHalfDone w).mem.notices = s.mem.notices ∧
      (s.partHalfDone w).mem.slots = s.mem.slots := by
  unfold State.partHalfDone
  split <;> exact ⟨rfl, rfl, rfl, rfl, rfl⟩

theorem execPartHalfWriteComplete_eq {s : State} {w : PartHalfWrite} (h : s.mem.partHalf = some w) :
    exec .partHalfWriteComplete s = .next (if w.final = false then oldestIssued (s.partHalfDone w)
      else if w.signalling = true ∧ s.mem.armed = true then s.partHalfDone w else parkedNow (s.partHalfDone w)) := by
  change execPartHalfWriteComplete s = _
  simp only [execPartHalfWriteComplete, h, State.issueOwed_eq, State.park_eq, State.partHalfDone]
  by_cases hs : w.signalling = true ∧ s.mem.armed = true
  · cases hf : w.final <;> simp only [if_pos hs, if_true, Bool.false_eq_true, reduceCtorEq, if_false] <;>
      simp only [State.issueSignal, hf]
  · cases hf : w.final <;> simp only [if_neg hs, if_true, Bool.false_eq_true, reduceCtorEq, if_false]

/-- Settles O47: `execPartHalfWriteComplete_eq` gives the next state; the rest follows from what issuing a part-half write
and parking leave unchanged. -/
theorem partHalfWriteSignalsOrParks : Obligations.PartHalfWriteSignalsOrParks := by
  refine ⟨fun s w h => ?_, fun s w rest h => ?_⟩
  · intro signals done
    obtain ⟨hph, hwo, hpr, hno, hsl⟩ := s.partHalfDone_keeps w
    refine ⟨_, execPartHalfWriteComplete_eq h, rfl, ?_⟩
    cases hf : w.final with
    | false =>
      obtain ⟨hwin, hlink, hconduct, hpr', hno', hsl'⟩ := oldestIssued_keeps (s.partHalfDone w)
      simp only [if_true, Bool.false_eq_true, false_or, false_implies, true_implies, true_or]
      refine ⟨fun hnil => ?_, fun final rest hcons => ?_, trivial, hwin, hlink, hconduct, hpr'.trans hpr, hno'.trans hno,
        hsl'.trans hsl⟩
      · rw [oldestIssued_of_nil (hwo.trans hnil), hph]
      · rw [oldestIssued_of_cons (hwo.trans hcons)]
        exact ⟨rfl, rfl, _, rfl, rfl, hpr⟩
    | true =>
      by_cases hs : w.signalling = true ∧ s.mem.armed = true
      · simp only [if_pos hs, reduceCtorEq, if_false]
        exact ⟨fun _ => hph, fun _ _ hc => absurd hc (by decide), fun _ hn => absurd hs hn, fun _ => rfl, rfl, rfl, hpr, hno,
          hsl⟩
      · simp only [if_neg hs, reduceCtorEq, if_false]
        exact ⟨fun _ => rfl, fun _ _ hc => absurd hc (by decide), fun _ _ => ⟨rfl, rfl⟩,
          fun hc => absurd hc (by simp [hs, signals]), rfl, rfl, hpr, hno, hsl⟩
  · intro done
    have hexec : exec .signalWriteComplete s = .next (if w.final = true then parkedNow done else done) := by
      change execSignalWriteComplete s = _
      simp only [execSignalWriteComplete, h, State.park_eq]
      split <;> rfl
    refine ⟨_, hexec, rfl, ?_⟩
    split <;> exact ⟨rfl, rfl, rfl⟩

/-! ### Usage statements -/

theorem execStatementDue_of_cons {s : State} {e : Epoch} {rest : List Epoch} (h : s.mem.stmtOwed = e :: rest) :
    exec .statementDue s = if s.mem.stmtCount + 1 < s.plans.inForce.interval then
      .next { s with mem := { s.mem with stmtOwed := rest, stmtCount := s.mem.stmtCount + 1 } }
    else .next ({ s with mem := { s.mem with stmtOwed := rest, stmtCount := 0 } }.beginStatement e) := by
  change execStatementDue s = _
  simp only [execStatementDue, h]

theorem State.beginStatement_skips {s : State} (h : s.mem.mode = .faulted ∨ s.mem.statement.isSome = true) (e : Epoch) :
    s.beginStatement e = s := if_pos (h.imp_right Or.inl)

theorem State.beginStatement_begins {s : State} (hm : s.mem.mode = .serving) (hs : s.mem.statement = none)
    (ha : s.win.mode = .running ∨ s.win.mode = .stopping) (e : Epoch) : s.beginStatement e =
      { s with mem := { s.mem with stmtNumber := nextOdd s.mem.stmtNumber } }.issueUsage e .opening :=
  if_neg (by simp [hm, hs, s.active_iff.2 ha])

theorem nextOdd_odd (n : Word32) : (nextOdd n).toNat % 2 = 1 := by
  have hbit : n.getLsbD 0 = decide (n.toNat % 2 = 1) := by simp [BitVec.getLsbD]
  unfold nextOdd
  rw [hbit]
  split
  next h =>
    have := of_decide_eq_true h
    bv_omega
  next h =>
    have : ¬n.toNat % 2 = 1 := fun hc => h (decide_eq_true hc)
    bv_omega

theorem nextOdd_eq (n : Word32) : nextOdd n = n + 1 ∨ nextOdd n = n + 2 := by
  unfold nextOdd
  split
  · exact .inr rfl
  · exact .inl rfl

theorem execUsageWriteComplete_ends {s : State} {st : Statement} (h : s.mem.statement = some st)
    (hn : st.step.next = none) : exec .usageWriteComplete s = .next { s with mem := { s.mem with statement := none } } := by
  change execUsageWriteComplete s = _
  simp only [execUsageWriteComplete, h, hn]

theorem execUsageWriteComplete_closes {s : State} {st : Statement} (h : s.mem.statement = some st)
    (hn : st.step.next = some .closing) : exec .usageWriteComplete s =
      .next ({ s with mem := { s.mem with stmtNumber := s.mem.stmtNumber + 1 } }.issueUsage st.epoch .closing) := by
  change execUsageWriteComplete s = _
  simp only [execUsageWriteComplete, h, hn]

theorem execUsageWriteComplete_cell {s : State} {st : Statement} {i : CellIx} (h : s.mem.statement = some st)
    (hn : st.step.next = some (.cell i)) : exec .usageWriteComplete s = .next (s.issueUsage st.epoch (.cell i)) := by
  change execUsageWriteComplete s = _
  simp only [execUsageWriteComplete, h, hn]

theorem execUsageWriteComplete_account {s : State} {st : Statement} {a : Account} (h : s.mem.statement = some st)
    (hn : st.step.next = some (.account a)) : exec .usageWriteComplete s = .next (s.issueUsage st.epoch (.account a)) := by
  change execUsageWriteComplete s = _
  simp only [execUsageWriteComplete, h, hn]

theorem UsageStep.next_cell {i j : CellIx} (h : j.val = i.val + 1) : (UsageStep.cell i).next = some (.cell j) := by
  have hlt : i.val + 1 < 192 := by omega
  have hj : j = ⟨i.val + 1, hlt⟩ := Fin.ext h
  rw [hj]
  exact dif_pos hlt

theorem UsageStep.next_lastCell {i : CellIx} (h : i.val = 191) : (UsageStep.cell i).next = some (.account 0) :=
  dif_neg (by omega)

theorem UsageStep.next_account {a b : Account} (h : b.val = a.val + 1) :
    (UsageStep.account a).next = some (.account b) := by
  have hlt : a.val + 1 < 48 := by omega
  have hb : b = ⟨a.val + 1, hlt⟩ := Fin.ext h
  rw [hb]
  exact dif_pos hlt

theorem UsageStep.next_lastAccount {a : Account} (h : a.val = 47) : (UsageStep.account a).next = some .closing :=
  dif_neg (by omega)

/-- Settles O48, by the boundary's count and by the step of the statement under way. -/
theorem usageStatementsAreWrittenInOrder : Obligations.UsageStatementsAreWrittenInOrder := by
  refine ⟨fun s e rest h => ⟨fun hlt => ?_, fun hle hskip => ?_, fun hle hm hs ha => ?_⟩, fun s st h => ?_⟩
  · rw [execStatementDue_of_cons h, if_pos hlt]
  · rw [execStatementDue_of_cons h, if_neg (Nat.not_lt.2 hle)]
    exact congrArg Host.Outcome.next (State.beginStatement_skips
      (s := { s with mem := { s.mem with stmtOwed := rest, stmtCount := 0 } }) hskip e)
  · refine ⟨nextOdd s.mem.stmtNumber, nextOdd_odd _, nextOdd_eq _, ?_⟩
    rw [execStatementDue_of_cons h, if_neg (Nat.not_lt.2 hle), State.beginStatement_begins
      (s := { s with mem := { s.mem with stmtOwed := rest, stmtCount := 0 } }) hm hs ha]
    simp [State.issueUsage, UsageStep.offset, State.usageBytes]
  · intro next then'
    cases hst : st.step with
    | opening => exact execUsageWriteComplete_cell h (by rw [hst, UsageStep.next])
    | cell i =>
      exact ⟨fun j hj => execUsageWriteComplete_cell h (by rw [hst, UsageStep.next_cell hj]),
        fun hi => execUsageWriteComplete_account h (by rw [hst, UsageStep.next_lastCell hi])⟩
    | account a =>
      refine ⟨fun b hb => execUsageWriteComplete_account h (by rw [hst, UsageStep.next_account hb]), fun ha => ?_⟩
      rw [execUsageWriteComplete_closes h (by rw [hst, UsageStep.next_lastAccount ha])]
      simp [State.issueUsage, UsageStep.offset, State.usageBytes, next, then']
    | closing => exact execUsageWriteComplete_ends h (by rw [hst, UsageStep.next])

/-! ### Failed accesses -/

/-- What the report slots hold once no record is being written (R155). -/
def MemSide.slotsUnwritten (m : MemSide) : Tab 4 Slot :=
  Tab.ofFn fun p => if reportBeingWritten m p then Sys2Proof.unwritten (m.slots.get p) else m.slots.get p

/-- The port whose report is to be written again once no record is being written (R153). -/
def MemSide.toWriteAgain (m : MemSide) : Option Port :=
  match m.journalWrite.map JournalWrite.item with
  | some (.first p _) => some p
  | some (.continuation p _) => some p
  | some (.notice _) => m.rewrite
  | none => m.rewrite

theorem MemSide.slotsUnwritten_get (m : MemSide) (p : Port) : m.slotsUnwritten.get p =
    if reportBeingWritten m p then Sys2Proof.unwritten (m.slots.get p) else m.slots.get p := Tab.get_ofFn _ p

theorem MemSide.slotsUnwritten_of_none {m : MemSide} (h : ∀ p, ¬reportBeingWritten m p) : m.slotsUnwritten = m.slots :=
  Tab.ext_get fun p => by rw [MemSide.slotsUnwritten_get, if_neg (h p)]

/-- While a record of a port's report is written, that port's report is the one being written. -/
theorem reportBeingWritten_of_item {m : MemSide} {w : JournalWrite} {p : Port} {r : Report} (h : m.journalWrite = some w)
    (hi : w.item = .first p r ∨ w.item = .continuation p r) (q : Port) : reportBeingWritten m q = decide (p = q) := by
  obtain hi | hi := hi <;> simp only [reportBeingWritten, h, Option.map_some, hi]

theorem MemSide.toWriteAgain_of_item {m : MemSide} {w : JournalWrite} {p : Port} {r : Report} (h : m.journalWrite = some w)
    (hi : w.item = .first p r ∨ w.item = .continuation p r) : m.toWriteAgain = some p := by
  obtain hi | hi := hi <;> simp only [MemSide.toWriteAgain, h, Option.map_some, hi]

theorem MemSide.toWriteAgain_of_none {m : MemSide} (h : ∀ p, ¬reportBeingWritten m p) : m.toWriteAgain = m.rewrite := by
  unfold MemSide.toWriteAgain
  split
  next p r hi => exact absurd (by simp [reportBeingWritten, hi]) (h p)
  next p r hi => exact absurd (by simp [reportBeingWritten, hi]) (h p)
  next => rfl
  next => rfl

theorem MemSide.unwriteReport_eq (m : MemSide) :
    m.unwriteReport = { m with slots := m.slotsUnwritten, rewrite := m.toWriteAgain } := by
  have hflight : m.reportInFlight = none ∧ (∀ p, ¬reportBeingWritten m p) ∨
      ∃ p, m.reportInFlight = some p ∧ m.toWriteAgain = some p ∧ ∀ q, reportBeingWritten m q = decide (p = q) := by
    rcases h : m.journalWrite with _ | w
    · exact .inl ⟨by simp only [MemSide.reportInFlight, h], fun p => by simp [reportBeingWritten, h]⟩
    · cases hi : w.item with
      | notice n => exact .inl ⟨by simp only [MemSide.reportInFlight, h, hi], fun p => by simp [reportBeingWritten, h, hi]⟩
      | first p r =>
        exact .inr ⟨p, by simp only [MemSide.reportInFlight, h, hi], MemSide.toWriteAgain_of_item h (.inl hi),
          reportBeingWritten_of_item h (.inl hi)⟩
      | continuation p r =>
        exact .inr ⟨p, by simp only [MemSide.reportInFlight, h, hi], MemSide.toWriteAgain_of_item h (.inr hi),
          reportBeingWritten_of_item h (.inr hi)⟩
  obtain ⟨hr, hn⟩ | ⟨p, hr, ha, hq⟩ := hflight
  · rw [MemSide.slotsUnwritten_of_none hn, MemSide.toWriteAgain_of_none hn]
    simp only [MemSide.unwriteReport, hr]
  · have hslots : m.slots.modify p Slot.unwritten = m.slotsUnwritten := Tab.ext_get fun q => by
      simp only [Tab.get_modify, MemSide.slotsUnwritten_get, hq, decide_eq_true_eq, Slot.unwritten_eq]
    simp only [MemSide.unwriteReport, hr, hslots, ha]

theorem MemSide.keepSignal_eq (m : MemSide) :
    m.keepSignal = { m with signalDue := m.signalDue || m.partHalf.any PartHalfWrite.signalling } := by
  rcases h : m.partHalf with _ | w
  · simp only [MemSide.keepSignal, h]
    rw [Option.any_none, Bool.or_false, ← h]
  · simp only [MemSide.keepSignal, h, Option.any_some]

/-- A memory side that has entered FAULTED, before parking under way ends (R148). -/
def State.faulted (s : State) (r : Region) : State :=
  { s with
    mem := { s.mem with
      mode := .faulted, region := r, read := none, abandoned := 0, statement := none, journalWrite := none
      partHalf := none, writesOwed := [], signalWrites := [], pass := none, passQueue := []
      signalDue := s.mem.signalDue || s.mem.partHalf.any PartHalfWrite.signalling
      slots := s.mem.slotsUnwritten, rewrite := s.mem.toWriteAgain }
    plans := { s.plans with fetch := none, wanted := none } }

theorem State.enterFaulted_eq (s : State) (r : Region) :
    s.enterFaulted r = if s.win.parking = true then parkedNow (s.faulted r) else s.faulted r := by
  unfold State.enterFaulted
  dsimp only
  rw [MemSide.unwriteReport_eq, MemSide.keepSignal_eq, State.park_eq]
  rfl

theorem execMemoryAccessFailed_taken {s : State} {x : Access} (ha : s.win.mode = .running ∨ s.win.mode = .stopping)
    (hm : s.mem.mode = .serving) (hx : s.mem.inFlight x = true) :
    exec (.memoryAccessFailed x) s = .next (s.enterFaulted (accessRegion x)) := if_pos ⟨s.active_iff.2 ha, hm, hx⟩

/-- Settles O49: a failed access that is taken leaves `State.faulted`, parked where parking was under way. -/
theorem failedAccessFaultsTheMemorySide : Obligations.FailedAccessFaultsTheMemorySide := by
  refine fun s x => ⟨fun hf => if_neg fun ⟨_, h, _⟩ => absurd (hf.symm.trans h) (by decide), fun ha hm hx => ?_⟩
  intro region left
  have hin : s.mem.inFlight x = true := by
    cases x <;> simpa [MemSide.inFlight] using hx
  have hregion : accessRegion x = region := by cases x <;> rfl
  have hleft : s.faulted region = left := rfl
  have hslots : left.mem.slots = s.mem.slotsUnwritten := rfl
  have hrewrite : left.mem.rewrite = s.mem.toWriteAgain := rfl
  have hdue (w : PartHalfWrite) (h : s.mem.partHalf = some w) (hw : w.signalling = true) : left.mem.signalDue = true := by
    show (s.mem.signalDue || s.mem.partHalf.any PartHalfWrite.signalling) = true
    rw [h, Option.any_some, hw, Bool.or_true]
  have hwritten (w : JournalWrite) (p : Port) (r : Report) (h : s.mem.journalWrite = some w)
      (hi : w.item = .first p r ∨ w.item = .continuation p r) : left.mem.rewrite = some p ∧
        left.mem.slots.get p = Sys2Proof.unwritten (s.mem.slots.get p) ∧
          ∀ p', p' ≠ p → left.mem.slots.get p' = s.mem.slots.get p' := by
    simp only [hslots, hrewrite, MemSide.slotsUnwritten_get, reportBeingWritten_of_item h hi]
    exact ⟨MemSide.toWriteAgain_of_item h hi, by simp, fun p' hp' => by simp [hp'.symm]⟩
  have hnone (h : ∀ p, ¬reportBeingWritten s.mem p) :
      left.mem.slots = s.mem.slots ∧ left.mem.rewrite = s.mem.rewrite :=
    ⟨MemSide.slotsUnwritten_of_none h, MemSide.toWriteAgain_of_none h⟩
  have hexec := execMemoryAccessFailed_taken ha hm hin
  rw [State.enterFaulted_eq, hregion, hleft] at hexec
  refine ⟨_, hexec, rfl, ?_⟩
  have hidle : ∀ t : State, t = left ∨ t = parkedNow left → t.mem.idle := by
    rintro t (rfl | rfl) <;> exact ⟨rfl, rfl, rfl, rfl, rfl, rfl, rfl, rfl⟩
  cases hp : s.win.parking with
  | true =>
    simp only [if_true]
    exact ⟨rfl, rfl, hidle _ (.inr rfl), rfl, rfl, rfl, rfl, rfl, rfl, rfl, hdue, hwritten, hnone, fun _ => rfl,
      fun h => absurd h (by decide), rfl, rfl, fun p => by simp only [parkedNow, Tab.get_ofFn]; exact ⟨rfl, rfl⟩⟩
  | false =>
    simp only [Bool.false_eq_true, if_false]
    exact ⟨rfl, rfl, hidle _ (.inl rfl), rfl, rfl, rfl, rfl, rfl, rfl, rfl, hdue, hwritten, hnone,
      fun h => absurd h (by decide), fun _ => rfl, rfl, rfl, fun p => ⟨rfl, rfl⟩⟩

end Sys2Proof.Machine
end

section
/-! PROOF. A journal write completes (R113, R147, R151, R153, R155, R157, R158). -/

namespace Sys2Proof.Machine

/-! ### The writer goes on -/

theorem State.pump_takenBack (s : State) : passTakenBack s s.pump = s := pumpPasses_takenBack _ s

/-- The pass under way writes its next record, whatever passes wait. -/
theorem State.pump_writes {s : State} {pass : Pass} {i : JournalItem} (hp : s.mem.pass = some pass)
    (hi : s.mem.nextItem pass.stage = some i) : s.pump = { s with mem := { s.mem with
      pass := some { pass with stage := s.mem.stageOf pass.stage i }
      journalWrite := some (recordWrite s.mem i s.mem.produced) } } := by
  simp only [State.pump, pumpPasses, hp, hi]
  rfl

/-- With nothing left to write and no pass waiting, the pass under way ends. -/
theorem State.pump_ends {s : State} {pass : Pass} (hp : s.mem.pass = some pass) (hq : s.mem.passQueue = [])
    (hi : s.mem.nextItem pass.stage = none) : s.pump = passEnded s pass.occasion := by
  rw [State.pump, hq, pumpPasses]
  simp only [hp, hi]
  rw [pumpPasses_idle (s.endPass_mem_pass _) (by rw [State.endPass_mem_passQueue, hq]), State.endPass_eq]

theorem State.pump_idle {s : State} (hp : s.mem.pass = none) (hq : s.mem.passQueue = []) : s.pump = s :=
  pumpPasses_idle hp hq _

theorem passEnded_pass (s : State) (o : Occasion) : (passEnded s o).mem.pass = none := by
  rw [← State.endPass_eq, State.endPass_mem_pass]

theorem passEnded_passQueue (s : State) (o : Occasion) : (passEnded s o).mem.passQueue = s.mem.passQueue := by
  rw [← State.endPass_eq, State.endPass_mem_passQueue]

/-! ### The indication goes with a part-half write that is issued -/

/-- From `s` to `t` either no part-half write was issued and the signal-due indication stands, or one was, with the
indication (R151, R158). -/
def indicationFollows (s t : State) : Prop :=
  t.mem.signalAddr = s.mem.signalAddr ∧
    (t.mem.partHalf = s.mem.partHalf ∧ t.mem.signalDue = s.mem.signalDue ∨
      s.mem.partHalf = none ∧ t.mem.signalDue = false ∧ ∃ x, t.mem.partHalf = some x ∧
        x.signalling = (s.mem.signalDue && decide (s.mem.signalAddr ≠ 0)))

theorem indicationFollows_of_eq {s t : State} (ha : t.mem.signalAddr = s.mem.signalAddr)
    (hp : t.mem.partHalf = s.mem.partHalf) (hd : t.mem.signalDue = s.mem.signalDue) : indicationFollows s t :=
  ⟨ha, .inl ⟨hp, hd⟩⟩

theorem indicationFollows_trans {s t u : State} (h : indicationFollows s t) (k : indicationFollows t u) :
    indicationFollows s u := by
  obtain ⟨ha, ⟨hp, hd⟩ | ⟨hp, hd, x, hx, hsig⟩⟩ := h <;> obtain ⟨ka, ⟨kp, kd⟩ | ⟨kp, kd, y, ky, ksig⟩⟩ := k
  · exact ⟨ka.trans ha, .inl ⟨kp.trans hp, kd.trans hd⟩⟩
  · exact ⟨ka.trans ha, .inr ⟨hp.symm.trans kp, kd, y, ky, by rw [ksig, hd, ha]⟩⟩
  · exact ⟨ka.trans ha, .inr ⟨hp, kd.trans hd, x, kp.trans hx, hsig⟩⟩
  · exact absurd (hx.symm.trans kp) (by simp)

theorem passEnded_indicationFollows (s : State) (o : Occasion) : indicationFollows s (passEnded s o) := by
  unfold passEnded
  dsimp only
  split
  · exact indicationFollows_of_eq rfl rfl rfl
  · split
    next h => exact ⟨rfl, .inr ⟨h, rfl, _, rfl, rfl⟩⟩
    next => exact indicationFollows_of_eq rfl rfl rfl

theorem State.pump_indicationFollows (s : State) : indicationFollows s s.pump :=
  pumpPasses_induct (P := indicationFollows s)
    (fun t _ _ _ h => indicationFollows_trans h (State.endPass_eq t _ ▸ passEnded_indicationFollows t _))
    (fun _ _ _ _ _ h => indicationFollows_trans h (indicationFollows_of_eq rfl rfl rfl))
    (fun _ _ _ _ _ h => indicationFollows_trans h (indicationFollows_of_eq rfl rfl rfl)) _ s
    (indicationFollows_of_eq rfl rfl rfl)

/-! ### What comes next -/

/-- The first report pending from a port number on, by the ports before it (R157). -/
theorem reportFrom_eq_some {m : MemSide} {k : Nat} {p : Port} {r : Report} (hroom : 2 ≤ roomOf m) (hk : k ≤ p.val)
    (hp : (m.slots.get p).held = some r) (hbefore : ∀ q : Port, k ≤ q.val → q < p → (m.slots.get q).held = none) :
    reportFrom m k = some (.first p r) := by
  have hfind : (List.finRange 4).find? (fun q : Port => decide (k ≤ q.val) && (m.slots.get q).held.isSome) = some p := by
    refine List.find?_eq_some_iff_getElem.2 ⟨by simp [hk, hp], p.val, by simp, by simp, fun j hj => ?_⟩
    have hlt : j < 4 := hj.trans p.isLt
    by_cases hkj : k ≤ j
    · simp [hbefore ⟨j, hlt⟩ hkj hj]
    · simp [hkj]
  rw [← MemSide.nextReport_eq]
  simp only [MemSide.nextReport, hfind, hp, Option.map_some]
  exact if_pos hroom

theorem noticeOrReport_of_cons {m : MemSide} {n : Notice} {rest : List Notice} (h : m.notices = n :: rest)
    (hroom : 1 ≤ roomOf m) : noticeOrReport m = some (.notice n) := by
  simp only [noticeOrReport, h, if_pos hroom]

theorem noticeOrReport_of_nil {m : MemSide} (h : m.notices = []) : noticeOrReport m = reportFrom m 0 := by
  simp only [noticeOrReport, h]

/-! ### The state in which a record has left flight -/

/-- A record has completed, and the writer has not gone on (R113, R153, R155, R158). -/
def State.recordTaken (s : State) (w : JournalWrite) : State :=
  match w.item with
  | .notice n => { s with
      scan := if s.writesPresentFinding then s.scan.takePosition w.count else s.scan
      mem := { s.mem with
        notices := s.mem.notices.tail, produced := s.mem.produced + 1, journalWrite := none
        signalDue := s.mem.signalDue || s.mem.signalMask.getLsbD n.kind } }
  | .first p _ => { s with mem := { s.mem with
      journalWrite := none
      slots := if 2 ≤ roomOf s.mem then s.mem.slots else s.mem.slots.modify p Slot.unwritten } }
  | .continuation p _ =>
    let t := s.reportWritten p
    { t with mem := { t.mem with pass := s.mem.pass } }

/-- The signal-due indication once a record has completed (R158). -/
def State.dueAfter (s : State) (w : JournalWrite) : Bool :=
  s.mem.signalDue || match w.item with
    | .notice n => s.mem.signalMask.getLsbD n.kind
    | .first _ _ => false
    | .continuation _ _ => s.mem.signalMask.getLsbD 1

/-- What a record's completion leaves unchanged before the writer goes on. -/
theorem State.recordTaken_keeps (s : State) (w : JournalWrite) :
    { passTakenBack s (s.recordTaken w) with mem := { (passTakenBack s (s.recordTaken w)).mem with
      journalWrite := none, signalDue := s.dueAfter w } } = s.recordTaken w ∧
    (s.recordTaken w).mem.consumed = s.mem.consumed ∧ (s.recordTaken w).mem.lapsed = s.mem.lapsed ∧
    (s.recordTaken w).mem.capacity = s.mem.capacity ∧ (s.recordTaken w).mem.journalBase = s.mem.journalBase ∧
    (s.recordTaken w).mem.partHalf = s.mem.partHalf ∧ (s.recordTaken w).mem.signalDue = s.dueAfter w ∧
    (s.recordTaken w).mem.signalAddr = s.mem.signalAddr ∧ (s.recordTaken w).mem.pass = s.mem.pass ∧
    (s.recordTaken w).mem.passQueue = s.mem.passQueue := by
  unfold State.recordTaken State.dueAfter
  cases w.item with
  | notice n => exact ⟨rfl, rfl, rfl, rfl, rfl, rfl, rfl, rfl, rfl, rfl⟩
  | first p r =>
    rw [Bool.or_false]
    exact ⟨rfl, rfl, rfl, rfl, rfl, rfl, rfl, rfl, rfl, rfl⟩
  | continuation p r => exact ⟨rfl, rfl, rfl, rfl, rfl, rfl, rfl, rfl, rfl, rfl⟩

theorem State.recordTaken_blocks (s : State) (w : JournalWrite) :
    (s.recordTaken w).link = s.link ∧ (s.recordTaken w).ports = s.ports ∧ (s.recordTaken w).conduct = s.conduct ∧
      (s.recordTaken w).timer = s.timer ∧ (s.recordTaken w).plans = s.plans ∧ (s.recordTaken w).win = s.win := by
  unfold State.recordTaken
  cases w.item <;> exact ⟨rfl, rfl, rfl, rfl, rfl, rfl⟩

theorem recordTaken_undone {s t : State} {w : JournalWrite} (h : passTakenBack (s.recordTaken w) t = s.recordTaken w) :
    { passTakenBack s t with mem := { (passTakenBack s t).mem with journalWrite := none, signalDue := s.dueAfter w } } =
      s.recordTaken w := by
  rw [show passTakenBack s t = passTakenBack s (passTakenBack (s.recordTaken w) t) from rfl, h]
  exact (s.recordTaken_keeps w).1

/-- What a completed journal write leaves unchanged, and the indication, however the writer has gone on. -/
theorem recordTaken_frame {s t : State} {w : JournalWrite} (h : passTakenBack (s.recordTaken w) t = s.recordTaken w)
    (hf : indicationFollows (s.recordTaken w) t) :
    t.mem.consumed = s.mem.consumed ∧ t.mem.lapsed = s.mem.lapsed ∧ t.link = s.link ∧ t.ports = s.ports ∧
      t.conduct = s.conduct ∧ t.timer = s.timer ∧ t.plans = s.plans ∧ t.win = s.win ∧
      (t.mem.partHalf = s.mem.partHalf ∧ t.mem.signalDue = s.dueAfter w ∨
        s.mem.partHalf = none ∧ t.mem.signalDue = false ∧
          ∃ x, t.mem.partHalf = some x ∧ x.signalling = (s.dueAfter w && decide (s.mem.signalAddr ≠ 0))) := by
  obtain ⟨-, hconsumed, hlapsed, -, -, hpart, hdue, haddr, -⟩ := s.recordTaken_keeps w
  obtain ⟨hlink, hports, hconduct, htimer, hplans, hwin⟩ := s.recordTaken_blocks w
  obtain ⟨-, hf⟩ := hf
  rw [hpart, hdue, haddr] at hf
  exact ⟨(congrArg (fun x => x.mem.consumed) h :).trans hconsumed, (congrArg (fun x => x.mem.lapsed) h :).trans hlapsed,
    (congrArg State.link h :).trans hlink, (congrArg State.ports h :).trans hports,
    (congrArg State.conduct h :).trans hconduct, (congrArg State.timer h :).trans htimer,
    (congrArg State.plans h :).trans hplans, (congrArg State.win h :).trans hwin, hf⟩

/-! ### The three kinds of record -/

theorem execJournalWriteComplete_notice {s : State} {w : JournalWrite} {n : Notice} (h : s.mem.journalWrite = some w)
    (hi : w.item = .notice n) : exec .journalWriteComplete s = .next (s.recordTaken w).pump := by
  have hv : s.noticeWritten n w.count = s.recordTaken w := by
    simp only [State.recordTaken, hi]
    unfold State.noticeWritten
    split <;> rfl
  change execJournalWriteComplete s = _
  simp only [execJournalWriteComplete, h, hi, hv]

theorem execJournalWriteComplete_continuation {s : State} {w : JournalWrite} {p : Port} {r : Report}
    (h : s.mem.journalWrite = some w) (hi : w.item = .continuation p r) :
    exec .journalWriteComplete s = .next (s.reportWritten p).pump := by
  change execJournalWriteComplete s = _
  simp only [execJournalWriteComplete, h, hi]

theorem execJournalWriteComplete_first {s : State} {w : JournalWrite} {p : Port} {r : Report}
    (h : s.mem.journalWrite = some w) (hi : w.item = .first p r) (hroom : 2 ≤ roomOf s.mem) :
    exec .journalWriteComplete s = .next ((s.recordTaken w).issueRecord (.continuation p r) (w.count + 1)) := by
  have hroom' : 2 ≤ s.mem.room := hroom
  change execJournalWriteComplete s = _
  simp only [execJournalWriteComplete, h, hi, State.firstWritten, if_pos hroom', State.recordTaken, if_pos hroom]

/-- Without room for its second record a report's pass ends (log entry 10). -/
theorem execJournalWriteComplete_first_full {s : State} {w : JournalWrite} {p : Port} {r : Report}
    (h : s.mem.journalWrite = some w) (hi : w.item = .first p r) (hroom : ¬2 ≤ roomOf s.mem) :
    exec .journalWriteComplete s =
      .next (passEnded (s.recordTaken w) ((s.mem.pass.map Pass.occasion).getD (.boundary true))).pump := by
  have hroom' : ¬2 ≤ s.mem.room := hroom
  change execJournalWriteComplete s = _
  simp only [execJournalWriteComplete, h, hi, State.firstWritten, if_neg hroom', State.recordTaken, if_neg hroom,
    State.endPass_eq]

/-! ### What the writer does next -/

/-- The writer goes on with this record. -/
theorem State.pump_writes_record {v : State} {pass : Pass} {i : JournalItem} (hp : v.mem.pass = some pass)
    (hi : v.mem.nextItem pass.stage = some i) :
    v.pump.mem.journalWrite = some (recordWrite v.mem i v.mem.produced) ∧ v.pump.mem.partHalf = v.mem.partHalf ∧
      v.pump.mem.signalDue = v.mem.signalDue ∧ v.pump.mem.pass.map Pass.occasion = some pass.occasion := by
  rw [State.pump_writes hp hi]
  exact ⟨rfl, rfl, rfl, rfl⟩

theorem recordWrite_congr {m m' : MemSide} (hb : m.journalBase = m'.journalBase) (hc : m.capacity = m'.capacity)
    (i : JournalItem) (c : Word32) : recordWrite m i c = recordWrite m' i c := by
  rw [recordWrite, recordWrite, hb, hc]

theorem State.writesPresentFinding_iff {s : State} {n : Notice} {rest : List Notice} (h : s.mem.notices = n :: rest) :
    s.writesPresentFinding = true ↔ ∃ f, placesFinding s n f := by
  rcases hf : s.scan.finding with _ | f
  · simp [State.writesPresentFinding, placesFinding, h, hf]
  · simp [State.writesPresentFinding, placesFinding, h, hf, Notice.isFinding, and_assoc, and_left_comm]

/-- The scan's outstanding finding takes its position from its own record (R113; log entry 28). -/
theorem State.recordTaken_scan {s : State} {w : JournalWrite} {n : Notice} (hi : w.item = .notice n) {rest : List Notice}
    (h : s.mem.notices = n :: rest) :
    (∀ f, placesFinding s n f →
      (s.recordTaken w).scan = { s.scan with finding := some { f with position := some w.count } }) ∧
    ((∀ f, ¬placesFinding s n f) → (s.recordTaken w).scan = s.scan) := by
  have hscan : (s.recordTaken w).scan = if s.writesPresentFinding then s.scan.takePosition w.count else s.scan := by
    simp only [State.recordTaken, hi]
  rw [hscan]
  refine ⟨fun f hf => ?_, fun hf => ?_⟩
  · rw [if_pos ((State.writesPresentFinding_iff h).2 ⟨f, hf⟩)]
    obtain ⟨hfind, -⟩ := hf
    simp only [Scan.takePosition, hfind, Option.map_some]
  · exact if_neg fun hw => let ⟨f, hf'⟩ := (State.writesPresentFinding_iff h).1 hw; hf f hf'

theorem State.recordTaken_notice {s : State} {w : JournalWrite} {n : Notice} (hi : w.item = .notice n) :
    (s.recordTaken w).mem.produced = s.mem.produced + 1 ∧ (s.recordTaken w).mem.notices = s.mem.notices.tail ∧
      (s.recordTaken w).mem.slots = s.mem.slots := by
  simp only [State.recordTaken, hi, and_self]

theorem State.recordTaken_first {s : State} {w : JournalWrite} {p : Port} {r : Report} (hi : w.item = .first p r) :
    (s.recordTaken w).mem.produced = s.mem.produced ∧ (s.recordTaken w).mem.notices = s.mem.notices ∧
      (s.recordTaken w).scan = s.scan ∧ (s.recordTaken w).mem.slots =
        if 2 ≤ roomOf s.mem then s.mem.slots else s.mem.slots.modify p Slot.unwritten := by
  simp only [State.recordTaken, hi, and_self]

theorem State.recordTaken_continuation {s : State} {w : JournalWrite} {p : Port} {r : Report}
    (hi : w.item = .continuation p r) :
    (s.recordTaken w).mem.produced = s.mem.produced + 2 ∧ (s.recordTaken w).mem.notices = s.mem.notices ∧
      (s.recordTaken w).scan = s.scan ∧ (s.recordTaken w).mem.slots =
        s.mem.slots.set p { held := (s.mem.slots.get p).waiting, waiting := none } := by
  simp only [State.recordTaken, hi]
  exact ⟨rfl, rfl, rfl, rfl⟩

/-- This record is being written, by the journal's address and capacity in `s` (R153, R166). -/
theorem recordWrite_writes {s t : State} {i : JournalItem} {c : Word32} (h : t.mem.journalWrite = some (recordWrite s.mem i c)) :
    ∃ v, t.mem.journalWrite = some v ∧ v.item = i ∧ v.count = c ∧ v.write.data = i.bytes c ∧
      v.write.addr = s.mem.journalBase + BitVec.ofNat 64 (32 * (c.toNat % s.mem.capacity)) :=
  ⟨_, h, rfl, rfl, rfl, rfl⟩

/-- What the writer has not changed stands as it did once the record had left flight. -/
theorem passTakenBack_frame {v t : State} (h : passTakenBack v t = v) :
    t.mem.produced = v.mem.produced ∧ t.mem.notices = v.mem.notices ∧ t.mem.slots = v.mem.slots ∧ t.scan = v.scan :=
  ⟨(congrArg (fun x => x.mem.produced) h :), (congrArg (fun x => x.mem.notices) h :),
    (congrArg (fun x => x.mem.slots) h :), (congrArg State.scan h :)⟩

/-- A report's second record moves the pass on, and leaves it nothing else to tell `State.recordTaken` by. -/
theorem State.reportWritten_taken {s : State} {w : JournalWrite} {p : Port} {r : Report} (hi : w.item = .continuation p r) :
    passTakenBack (s.recordTaken w) (s.reportWritten p) = s.recordTaken w ∧
      indicationFollows (s.recordTaken w) (s.reportWritten p) ∧
      (s.reportWritten p).mem.signalDue = (s.recordTaken w).mem.signalDue ∧
      (∀ o, passEnded (s.reportWritten p) o = passEnded (s.recordTaken w) o) ∧
      noticeOrReport (s.reportWritten p).mem = noticeOrReport (s.recordTaken w).mem ∧
      (∀ k, reportFrom (s.reportWritten p).mem k = reportFrom (s.recordTaken w).mem k) ∧
      (∀ i c, recordWrite (s.reportWritten p).mem i c = recordWrite s.mem i c) := by
  unfold State.recordTaken
  rw [hi]
  exact ⟨rfl, indicationFollows_of_eq rfl rfl rfl, rfl, fun _ => rfl, rfl, fun _ => rfl, fun _ _ => rfl⟩

/-- The stage of a pass once a report's second record is written (R157). -/
def PassStage.afterReport (st : PassStage) (p : Port) : PassStage :=
  if st = .again then .notices else .reports (p.val + 1)

theorem State.reportWritten_pass {s : State} {pass : Pass} (h : s.mem.pass = some pass) (p : Port) :
    (s.reportWritten p).mem.pass = some { pass with stage := pass.stage.afterReport p } := by
  simp only [State.reportWritten, State.recordDone, h, Option.map_some]
  rfl

theorem MemSide.nextItem_afterReport (m : MemSide) (st : PassStage) (p : Port) : m.nextItem (st.afterReport p) =
    if st = .again then noticeOrReport m else reportFrom m (p.val + 1) := by
  unfold PassStage.afterReport
  split
  · exact m.nextNotice_eq
  · exact m.nextReport_eq _

/-- Settles O46: by the kind of record, the state in which it has left flight (`State.recordTaken`) and what the writer
does next. -/
theorem journalWriteCompletes : Obligations.JournalWriteCompletes := by
  intro s w h due
  have hdueEq : due = s.dueAfter w := rfl
  clear_value due
  subst hdueEq
  obtain ⟨-, hconsumed, -, hcap, hbase, hpart, hdue, -, hpass, hqueue⟩ := s.recordTaken_keeps w
  have hwrite (i : JournalItem) (c : Word32) : recordWrite (s.recordTaken w).mem i c = recordWrite s.mem i c :=
    recordWrite_congr hbase hcap i c
  cases hi : w.item with
  | notice n =>
    obtain ⟨hprod, hnotices, hslots⟩ := State.recordTaken_notice (s := s) hi
    have hback := (s.recordTaken w).pump_takenBack
    obtain ⟨h1, h2, h3, h4, h5, h6, h7, h8, h9⟩ := recordTaken_frame hback (s.recordTaken w).pump_indicationFollows
    have hitem {pass : Pass} (hst : pass.stage = .notices) :
        (s.recordTaken w).mem.nextItem pass.stage = noticeOrReport (s.recordTaken w).mem := by
      rw [hst, ← MemSide.nextNotice_eq, MemSide.nextItem]
    refine ⟨_, execJournalWriteComplete_notice h hi, h1, h2, h3, h4, h5, h6, h7, h8, h9, fun pass hp hq hst => ?_, ?_⟩
    · intro done u
      have hu : u = s.recordTaken w := recordTaken_undone hback
      clear_value u
      subst hu
      split
      next i hnext =>
        obtain ⟨hw, hph, hd, ho⟩ := State.pump_writes_record (hpass.trans hp) ((hitem (hst n rfl)).trans hnext)
        exact ⟨by rw [hw, hwrite, State.pump_mem_produced], hph.trans hpart, hd.trans hdue, ho⟩
      next hnext => exact State.pump_ends (hpass.trans hp) (hqueue.trans hq) ((hitem (hst n rfl)).trans hnext)
    · intro room writes
      have hroom : roomOf (s.recordTaken w).mem = room (s.mem.produced + 1) := by rw [roomOf, hcap, hprod, hconsumed]
      refine ⟨by simpa using hprod, by simpa using hnotices, by simpa using hslots, fun rest hrest => ?_, fun hst => ?_⟩
      · simpa using State.recordTaken_scan (s := s) hi hrest
      · obtain ⟨pass, hp, hst⟩ := Option.map_eq_some_iff.1 hst
        have hwrites {i : JournalItem} (hnext : noticeOrReport (s.recordTaken w).mem = some i) :
            writes i (s.mem.produced + 1) := by
          obtain ⟨hw, -⟩ := State.pump_writes_record (hpass.trans hp) ((hitem hst).trans hnext)
          exact recordWrite_writes (by rw [hw, hwrite, hprod])
        refine ⟨fun x rest hx hr => hwrites (noticeOrReport_of_cons (hnotices.trans hx) (hroom ▸ hr)),
          fun p r hx hr hheld hbefore => hwrites ?_⟩
        rw [noticeOrReport_of_nil (hnotices.trans hx)]
        exact reportFrom_eq_some (hroom ▸ hr) (Nat.zero_le _) (hslots ▸ hheld) fun q _ hq => hslots ▸ hbefore q hq
  | first p r =>
    obtain ⟨hprod, hnotices, hscan, hslots⟩ := State.recordTaken_first (s := s) hi
    have hroomOf : roomOf (s.recordTaken w).mem = roomOf s.mem := by rw [roomOf, hcap, hprod, hconsumed, roomOf]
    by_cases hroom : 2 ≤ roomOf s.mem
    · have hback : passTakenBack (s.recordTaken w)
          ((s.recordTaken w).issueRecord (.continuation p r) (w.count + 1)) = s.recordTaken w := rfl
      obtain ⟨h1, h2, h3, h4, h5, h6, h7, h8, h9⟩ := recordTaken_frame hback (indicationFollows_of_eq rfl rfl rfl)
      have hw := congrArg some (hwrite (.continuation p r) (w.count + 1))
      refine ⟨_, execJournalWriteComplete_first h hi hroom, h1, h2, h3, h4, h5, h6, h7, h8, h9,
        fun pass hp hq hst => ?_, hprod, hnotices, hscan, fun _ => ⟨hslots.trans (if_pos hroom), recordWrite_writes hw⟩,
        fun hlt => absurd hroom (Nat.not_le.2 hlt)⟩
      intro done u
      have hu : u = s.recordTaken w := recordTaken_undone hback
      clear_value u
      subst hu
      simp only [hroomOf, if_pos hroom]
      exact ⟨hw, hpart, hdue, congrArg (Option.map Pass.occasion) (hpass.trans hp)⟩
    · obtain ⟨o, ho⟩ : ∃ o, o = (s.mem.pass.map Pass.occasion).getD (.boundary true) := ⟨_, rfl⟩
      have hback : passTakenBack (s.recordTaken w) (passEnded (s.recordTaken w) o).pump = s.recordTaken w :=
        passTakenBack_trans (passEnded_takenBack _ o) (State.pump_takenBack _)
      obtain ⟨h1, h2, h3, h4, h5, h6, h7, h8, h9⟩ := recordTaken_frame hback
        (indicationFollows_trans (passEnded_indicationFollows _ o) (State.pump_indicationFollows _))
      obtain ⟨kprod, knotices, kslots, kscan⟩ := passTakenBack_frame hback
      refine ⟨_, ho ▸ execJournalWriteComplete_first_full h hi hroom, h1, h2, h3, h4, h5, h6, h7, h8, h9,
        fun pass hp hq hst => ?_, kprod.trans hprod, knotices.trans hnotices, kscan.trans hscan,
        fun hle => absurd hle hroom, fun _ p' => ?_⟩
      · intro done u
        have hu : u = s.recordTaken w := recordTaken_undone hback
        clear_value u
        subst hu
        have hoccasion : o = pass.occasion := by rw [ho, hp, Option.map_some, Option.getD_some]
        simp only [hroomOf, if_neg hroom]
        rw [State.pump_idle (passEnded_pass _ o) ((passEnded_passQueue _ o).trans (hqueue.trans hq)), hoccasion]
      · rw [kslots, hslots, if_neg hroom, Tab.get_modify]
        simp only [Slot.unwritten_eq, eq_comm (a := p)]
        split
        next hp' => rw [hp']
        next => rfl
  | continuation p r =>
    obtain ⟨hprod, hnotices, hscan, hslots⟩ := State.recordTaken_continuation (s := s) hi
    obtain ⟨hxback, hxfollows, hxdue, hxended, hxnotice, hxreport, hxwrite⟩ := State.reportWritten_taken (s := s) hi
    have hback := passTakenBack_trans hxback (State.pump_takenBack _)
    obtain ⟨h1, h2, h3, h4, h5, h6, h7, h8, h9⟩ :=
      recordTaken_frame hback (indicationFollows_trans hxfollows (State.pump_indicationFollows _))
    obtain ⟨kprod, knotices, kslots, kscan⟩ := passTakenBack_frame hback
    have hitem (pass : Pass) : (s.reportWritten p).mem.nextItem (pass.stage.afterReport p) =
        if pass.stage = .again then noticeOrReport (s.recordTaken w).mem
        else reportFrom (s.recordTaken w).mem (p.val + 1) := by
      rw [MemSide.nextItem_afterReport, hxnotice, hxreport]
    refine ⟨_, execJournalWriteComplete_continuation h hi, h1, h2, h3, h4, h5, h6, h7, h8, h9,
      fun pass hp hq hst => ?_, kprod.trans hprod, knotices.trans hnotices, kscan.trans hscan, kslots.trans hslots,
      fun k p' r' hst hlt hheld hbefore hr => ?_⟩
    · intro done u
      have hu : u = s.recordTaken w := recordTaken_undone hback
      clear_value u
      subst hu
      split
      next i hnext =>
        obtain ⟨hw, hph, hd, ho⟩ := State.pump_writes_record (State.reportWritten_pass hp p) ((hitem pass).trans hnext)
        exact ⟨by rw [hw, hxwrite, State.pump_mem_produced], hph, hd.trans (hxdue.trans hdue), ho⟩
      next hnext =>
        exact (State.pump_ends (State.reportWritten_pass hp p) hq ((hitem pass).trans hnext)).trans (hxended _)
    · obtain ⟨pass, hp, hst⟩ := Option.map_eq_some_iff.1 hst
      have hroom : 2 ≤ roomOf (s.recordTaken w).mem := by rw [roomOf, hcap, hprod, hconsumed]; exact hr
      have hslot (q : Port) (hq : p < q) : (s.recordTaken w).mem.slots.get q = s.mem.slots.get q := by
        rw [hslots, Tab.get_set, if_neg hq.ne]
      have hnext : reportFrom (s.recordTaken w).mem (p.val + 1) = some (.first p' r') :=
        reportFrom_eq_some hroom hlt (hslot p' hlt ▸ hheld) fun q hq hq' => hslot q hq ▸ hbefore q hq hq'
      obtain ⟨hw, -⟩ := State.pump_writes_record (State.reportWritten_pass hp p)
        ((hitem pass).trans ((if_neg (by simp [hst])).trans hnext))
      exact recordWrite_writes (by rw [hw, hxwrite]; rfl)

end Sys2Proof.Machine
end

section
/-! PROOF. What a read of the control page does: the plan shown, the end of a start, and the host half taken (R114, R116,
R131, R133, R144 to R146, R149 to R151, R157 to R159). -/

namespace Sys2Proof.Machine

/-! ### The control page by its offsets (13.3) -/

/-- The lowest bit of a little-endian field stands in its first byte. -/
theorem leValue_take_mod_two (l : List Byte) (n : Nat) : leValue (l.take (n + 1)) % 2 = leValue (l.take 1) % 2 := by
  cases l with
  | nil => rw [List.take_nil, List.take_nil]
  | cons b bs =>
    simp only [List.take_succ_cons, leValue]
    omega

theorem readHostHalf_eq (bytes : List Byte) : readHostHalf bytes = hostHalfOf bytes := by
  have hbit : field bytes 12 4 % 2 = field bytes 12 1 % 2 := leValue_take_mod_two _ 3
  simp only [hostHalfOf, hbit]
  rfl

theorem readPartStatic_eq (bytes : List Byte) : readPartStatic bytes = staticsOf bytes := rfl

/-! ### The plan unit is shown a generation (R131, R133) -/

theorem PlanUnit.knows_iff (u : PlanUnit) (gen : Word32) : u.knows gen = true ↔ generationKnown u gen := by
  unfold PlanUnit.knows generationKnown
  simp only [Bool.or_eq_true, decide_eq_true_eq, Option.map_eq_some_iff, or_assoc, eq_comm (a := gen)]

theorem PlanUnit.not_knows_iff (u : PlanUnit) (gen : Word32) : u.knows gen = false ↔ ¬generationKnown u gen := by
  rw [← PlanUnit.knows_iff, Bool.not_eq_true]

theorem badPlanAddress_iff (a : Word64) : badPlanAddress a = true ↔ ¬(a.toNat ≠ 0 ∧ a.toNat % 8 = 0) := by
  unfold badPlanAddress
  rw [Bool.or_eq_true, decide_eq_true_eq, decide_eq_true_eq]
  omega

theorem State.startFetch_of_bad {w : Wanted} (h : badPlanAddress w.addr = true) (s : State) : s.startFetch w =
    { s with
      plans := { s.plans with fetched := w.gen, wanted := none, refused := some w.gen }
      mem := posted s.mem (.planRefused w.gen s.timer.epoch 0 .fetchFailed) } := by
  rw [State.startFetch, if_pos h, State.refusePlan, State.post_eq]

theorem State.startFetch_of_good {w : Wanted} (h : badPlanAddress w.addr = false) (s : State) : s.startFetch w =
    { s with plans := { s.plans with fetch := some { gen := w.gen, addr := w.addr, data := [] } } } := by
  rw [State.startFetch, if_neg (by rw [h]; decide)]

/-- The notice of a plan refused at once (R133, R136). -/
def State.refusedAtOnce (s : State) (h : HostHalf) : List Notice :=
  if s.plans.knows h.planGen = false ∧ s.plans.fetch = none ∧ badPlanAddress h.planAddr = true then
    [.planRefused h.planGen s.timer.epoch 0 .fetchFailed]
  else []

theorem refusesAtOnce_iff (u : PlanUnit) (h : HostHalf) : refusesAtOnce u h ↔
    u.knows h.planGen = false ∧ u.fetch = none ∧ badPlanAddress h.planAddr = true := by
  rw [PlanUnit.not_knows_iff, badPlanAddress_iff]
  rfl

theorem State.refusedAtOnce_of {s : State} {h : HostHalf} (hr : refusesAtOnce s.plans h) :
    s.refusedAtOnce h = [.planRefused h.planGen s.timer.epoch 0 .fetchFailed] := if_pos ((refusesAtOnce_iff _ _).1 hr)

theorem State.refusedAtOnce_of_not {s : State} {h : HostHalf} (hr : ¬refusesAtOnce s.plans h) : s.refusedAtOnce h = [] :=
  if_neg fun hc => hr ((refusesAtOnce_iff _ _).2 hc)

/-- What the plan unit makes of a generation shown: its own state, and a notice where it refuses at once. -/
theorem State.showPlan_shown (s : State) (h : HostHalf) :
    s.showPlan h = { s with plans := (s.showPlan h).plans, mem := (s.refusedAtOnce h).foldl posted s.mem } ∧
      planShown s.plans (s.showPlan h).plans h := by
  have hbad := badPlanAddress_iff h.planAddr
  unfold State.refusedAtOnce planShown
  simp only [← PlanUnit.knows_iff]
  obtain ⟨hk, heq⟩ | ⟨hk, hf, heq⟩ | ⟨hk, hf, heq⟩ := s.showPlan_cases h
  · rw [heq]
    simp [hk]
  · rw [heq]
    simp [hk, Option.ne_none_iff_isSome.2 hf]
  · cases hb : badPlanAddress h.planAddr with
    | true =>
      rw [heq, State.startFetch_of_bad hb]
      simp [hk, hf, hbad.1 hb]
    | false =>
      have hgood : h.planAddr.toNat ≠ 0 ∧ h.planAddr.toNat % 8 = 0 := by
        by_contra hc
        rw [hbad.2 hc] at hb
        exact absurd hb (by decide)
      rw [heq, State.startFetch_of_good hb]
      simp [hk, hf, hgood]

theorem State.showPlan_mem_eq (s : State) (h : HostHalf) : (s.showPlan h).mem = (s.refusedAtOnce h).foldl posted s.mem :=
  congrArg State.mem (s.showPlan_shown h).1

/-! ### The end of a start (R144 to R146) -/

theorem journalCapacity_iff (n : Nat) : n ∈ [64, 128, 256, 512, 1024, 2048, 4096, 8192, 16384, 32768] ↔
    ∃ k, 6 ≤ k ∧ k ≤ 15 ∧ n = 2 ^ k := by
  have hpowers : [64, 128, 256, 512, 1024, 2048, 4096, 8192, 16384, 32768] = (List.range' 6 10).map (2 ^ ·) := by decide
  rw [hpowers, List.mem_map]
  simp only [List.mem_range'_1]
  constructor
  · rintro ⟨k, ⟨hk, hk'⟩, rfl⟩
    exact ⟨k, hk, by omega, rfl⟩
  · rintro ⟨k, hk, hk', rfl⟩
    exact ⟨k, ⟨hk, by omega⟩, rfl⟩

/-- The checks of a start end in the outcome that the order of R145 gives them. -/
theorem startFault_of_checks {st : PartStatic} {h : HostHalf} {r : Option StartRefusal} (hr : startChecks st h r) :
    startFault st h = r := by
  unfold startChecks at hr
  simp only [← journalCapacity_iff] at hr
  unfold startFault
  obtain ⟨rfl, ⟨hb, hm, hc⟩, ⟨hu, hv⟩, hz⟩ | ⟨rfl, hj⟩ | ⟨rfl, ⟨hb, hm, hc⟩, hu⟩ | ⟨rfl, ⟨hb, hm, hc⟩, ⟨hu, hv⟩, hz⟩ := hr
  · rw [if_neg (by omega), if_neg (not_not.2 hc), if_neg (by omega), if_neg (not_not.2 hz)]
  · by_cases hbase : st.journalBase.toNat = 0 ∨ st.journalBase.toNat % 32 ≠ 0
    · rw [if_pos hbase]
    · rw [if_neg hbase, if_pos fun hc => hj ⟨by omega, by omega, hc⟩]
  · rw [if_neg (by omega), if_neg (not_not.2 hc), if_pos (by omega)]
  · rw [if_neg (by omega), if_neg (not_not.2 hc), if_neg (by omega), if_pos hz]

theorem execStartReadComplete_withdrawn {s : State} (hm : s.win.mode = .starting) (hr : s.win.startRead = true)
    (hw : s.win.withdrawn = true) (r : StartRead) (now : Moment) :
    exec (.startReadComplete r now) s = .next (s.leaveStarting s.win.refusal) := by
  change execStartReadComplete r now s = _
  exact (if_pos ⟨hm, hr⟩).trans (if_pos hw)

theorem execStartReadComplete_failed {s : State} (hm : s.win.mode = .starting) (hr : s.win.startRead = true)
    (hw : s.win.withdrawn = false) (now : Moment) :
    exec (.startReadComplete .failed now) s = .next (s.leaveStarting .readFailed) := by
  change execStartReadComplete .failed now s = _
  rw [execStartReadComplete, if_pos ⟨hm, hr⟩, if_neg (by rw [hw]; decide)]

theorem execStartReadComplete_refused {s : State} (hm : s.win.mode = .starting) (hr : s.win.startRead = true)
    (hw : s.win.withdrawn = false) {hb sb : List Byte} {x : StartRefusal}
    (hc : startChecks (staticsOf sb) (hostHalfOf hb) (some x)) (now : Moment) :
    exec (.startReadComplete (.page hb sb) now) s = .next (s.leaveStarting x) := by
  change execStartReadComplete (.page hb sb) now s = _
  rw [execStartReadComplete, if_pos ⟨hm, hr⟩, if_neg (by rw [hw]; decide)]
  simp only [readHostHalf_eq, readPartStatic_eq, startFault_of_checks hc]

theorem execStartReadComplete_started {s : State} (hm : s.win.mode = .starting) (hr : s.win.startRead = true)
    (hw : s.win.withdrawn = false) {hb sb : List Byte} (hc : startChecks (staticsOf sb) (hostHalfOf hb) none)
    (now : Moment) : exec (.startReadComplete (.page hb sb) now) s =
      .next (s.enterRunning (staticsOf sb) (hostHalfOf hb) now) := by
  change execStartReadComplete (.page hb sb) now s = _
  rw [execStartReadComplete, if_pos ⟨hm, hr⟩, if_neg (by rw [hw]; decide)]
  simp only [readHostHalf_eq, readPartStatic_eq, startFault_of_checks hc]

/-- The state in which a start has passed its checks, before the writing pass of the occasion begins (R146). -/
def State.started (s : State) (st : PartStatic) (h : HostHalf) (now : Moment) : State :=
  let s1 := { s with
    win := { s.win with mode := .running, startRead := false, withdrawn := false }
    mem := s.mem.restart st }
  let s2 := s1.showPlan h
  { s2 with
    mem := { s2.mem with signalMask := h.mask }
    scan := s2.scan.restart
    timer := s2.timer.start now }

theorem State.enterRunning_eq (s : State) (st : PartStatic) (h : HostHalf) (now : Moment) :
    s.enterRunning st h now = (s.started st h now).startPass .entry := rfl

/-- The memory side of a started part (R146, R153). -/
theorem State.started_mem (s : State) (st : PartStatic) (h : HostHalf) (now : Moment) :
    (s.started st h now).mem = (s.refusedAtOnce h).foldl posted { s.mem.restart st with signalMask := h.mask } := by
  have hmem : (s.started st h now).mem =
      { (s.refusedAtOnce h).foldl posted (s.mem.restart st) with signalMask := h.mask } :=
    congrArg (fun m : MemSide => { m with signalMask := h.mask }) (State.showPlan_mem_eq _ h)
  rw [hmem]
  unfold State.refusedAtOnce
  split
  · rw [List.foldl_cons, List.foldl_nil, List.foldl_cons, List.foldl_nil, posted, posted]
    split <;> rfl
  · rfl

theorem State.started_shown (s : State) (st : PartStatic) (h : HostHalf) (now : Moment) :
    planShown s.plans (s.started st h now).plans h :=
  (State.showPlan_shown { s with
    win := { s.win with mode := .running, startRead := false, withdrawn := false }
    mem := s.mem.restart st } h).2

theorem startSync_eq (r : SyncRole) :
    startSync r = match r with | .alone => SyncState.alone | .leader => .leading | .follower => .seeking := by
  cases r <;> rfl

/-- Settles O8, by the outcome of the checks; a start that passes is `State.started`, and its pass falls due. -/
theorem startReadEndsTheStart : Obligations.StartReadEndsTheStart := by
  intro s now hm hr parked
  refine ⟨fun hw r => execStartReadComplete_withdrawn hm hr hw r now,
    fun hw => execStartReadComplete_failed hm hr hw now, fun hb sb hw => ?_⟩
  intro st h
  refine ⟨fun r hc => execStartReadComplete_refused hm hr hw hc now, fun hc => ?_⟩
  intro signalAddr timing mem
  have hmem := s.started_mem st h now
  have hscan : (s.started st h now).scan = s.scan.restart := congrArg Scan.restart (State.showPlan_scan _ h)
  refine ⟨s.started st h now, _, execStartReadComplete_started hm hr hw hc now, State.startPass_fallsDue _ _,
    State.showPlan_win _ h, fun href => ?_, fun href => ?_, s.started_shown st h now, fun f q hs hf hq => ?_,
    fun hs => ?_, ?_, State.showPlan_link _ h, State.showPlan_ports _ h, State.showPlan_conduct _ h,
    State.showPlan_pending _ h⟩
  · rw [hmem, State.refusedAtOnce_of href]
    rfl
  · rw [hmem, State.refusedAtOnce_of_not href]
    rfl
  · rw [hscan]
    simp only [Scan.restart, hf, hs, hq, Option.isSome_some, and_self, if_true, Scan.resume, nextCell]
  · rw [hscan, Scan.restart]
    split
    · rfl
    next f hf =>
      refine if_neg fun ⟨hh, hp⟩ => hs.elim (fun hn => hn hh) fun hn => ?_
      rw [hf, Option.bind_some] at hn
      exact absurd hp (by rw [hn]; decide)
  · have htimer : (s.started st h now).timer = s.timer.start now :=
      congrArg (fun t : Timer => t.start now) (State.showPlan_timer _ h)
    rw [htimer, Timer.start]
    simp only [startSync_eq]
    rfl

end Sys2Proof.Machine
end

section
/-! PROOF. A read of the host half is taken (R114, R131, R149 to R151, R157 to R159). -/

namespace Sys2Proof.Machine

/-- The consumed count after a read, under the sanity test (R150). -/
def MemSide.consumedAfter (m : MemSide) (c : Word32) : Word32 :=
  if (m.produced - c).toNat ≤ m.capacity then c else m.consumed

/-- The memory side once the read in flight is taken, but for its notices (R150, R159). -/
def MemSide.readTaken (m : MemSide) (h : HostHalf) : MemSide :=
  { m with
    signalMask := h.mask
    consumed := m.consumedAfter h.consumed
    armed := m.armed || decide ((m.produced - m.consumedAfter h.consumed).toNat ≤ (m.produced - m.noted).toNat) }

theorem MemSide.rearm_takeConsumed (m : MemSide) (h : HostHalf) :
    ({ m with signalMask := h.mask }.takeConsumed h.consumed).rearm = m.readTaken h := by
  have htake : { m with signalMask := h.mask }.takeConsumed h.consumed =
      { m with signalMask := h.mask, consumed := m.consumedAfter h.consumed } := by
    unfold MemSide.takeConsumed MemSide.consumedAfter
    dsimp only
    split <;> rfl
  rw [htake]
  unfold MemSide.rearm MemSide.readTaken
  dsimp only
  cases harmed : m.armed with
  | true => simp
  | false =>
    by_cases hle : m.produced - m.consumedAfter h.consumed ≤ m.produced - m.noted
    · rw [if_pos ⟨rfl, hle⟩, decide_eq_true (BitVec.le_def.1 hle), Bool.or_true]
    · rw [if_neg fun hc => hle hc.2, decide_eq_false fun hc => hle (BitVec.le_def.2 hc), Bool.or_false]

/-- Offering notices changes the notice queue and the count of lapsed ones, and nothing else. -/
theorem foldl_posted_eq (ns : List Notice) (m : MemSide) :
    ns.foldl posted m = { m with notices := (ns.foldl posted m).notices, lapsed := (ns.foldl posted m).lapsed } := by
  induction ns generalizing m with
  | nil => rfl
  | cons n ns ih =>
    rw [List.foldl_cons, ih]
    unfold posted
    split <;> rfl

/-- Notices posted and a read taken touch different parts of the memory side. -/
theorem posted_readTaken (m : MemSide) (h : HostHalf) (n : Notice) : posted (m.readTaken h) n = (posted m n).readTaken h := by
  by_cases hlt : m.notices.length < 32
  · have hlt' : (m.readTaken h).notices.length < 32 := hlt
    rw [posted, if_pos hlt', posted, if_pos hlt]
    rfl
  · have hlt' : ¬(m.readTaken h).notices.length < 32 := hlt
    rw [posted, if_neg hlt', posted, if_neg hlt]
    rfl

theorem foldl_posted_readTaken (ns : List Notice) (m : MemSide) (h : HostHalf) :
    ns.foldl posted (m.readTaken h) = (ns.foldl posted m).readTaken h := by
  induction ns generalizing m with
  | nil => rfl
  | cons n ns ih => rw [List.foldl_cons, posted_readTaken, ih, List.foldl_cons]

/-- The state in which the read in flight has ended. -/
def State.readEnded (s : State) : State := { s with mem := { s.mem with read := none } }

/-- The notices of a read taken: a plan refused at once, and a resumption (R133, R149). -/
def State.readNotices (s : State) (r : HostRead) (h : HostHalf) : List Notice :=
  s.readEnded.refusedAtOnce h ++ if r.resumption = true then [.memoryResumed s.mem.region s.timer.epoch] else []

/-- The state in which a read is taken, before the pass of its occasion (R149, R150). -/
def State.readTaken (s : State) (r : HostRead) (h : HostHalf) : State :=
  { s with
    plans := (s.readEnded.showPlan h).plans
    mem := (s.readNotices r h).foldl posted (s.readEnded.mem.readTaken h)
    scan := s.scan.checkConsumed s.mem.produced (s.mem.consumedAfter h.consumed) }

theorem State.takeHostHalf_eq (s : State) (h : HostHalf) : s.takeHostHalf h = { s with
    plans := (s.showPlan h).plans
    mem := (s.refusedAtOnce h).foldl posted (s.mem.readTaken h)
    scan := s.scan.checkConsumed s.mem.produced (s.mem.consumedAfter h.consumed) } := by
  have hmem := foldl_posted_eq (s.refusedAtOnce h) (s.mem.readTaken h)
  have hprod : ((s.refusedAtOnce h).foldl posted (s.mem.readTaken h)).produced = s.mem.produced :=
    (congrArg MemSide.produced hmem :)
  have hcons : ((s.refusedAtOnce h).foldl posted (s.mem.readTaken h)).consumed = s.mem.consumedAfter h.consumed :=
    (congrArg MemSide.consumed hmem :)
  unfold State.takeHostHalf
  dsimp only
  rw [MemSide.rearm_takeConsumed, State.showPlan_mem_eq, ← foldl_posted_readTaken, hprod, hcons]
  conv_lhs => rw [(s.showPlan_shown h).1]

theorem State.completeRead_eq (s : State) (r : HostRead) (h : HostHalf) : s.completeRead r h =
    (s.readTaken r h).startPass (if r.resumption then .resumption else .boundary r.writes) := by
  have hregion : ((s.readEnded.refusedAtOnce h).foldl posted (s.readEnded.mem.readTaken h)).region = s.mem.region :=
    (congrArg MemSide.region (foldl_posted_eq _ _) :)
  have htaken : (s.readEnded.takeHostHalf h).mem.region = s.mem.region ∧
      (s.readEnded.takeHostHalf h).timer = s.timer := by
    rw [State.takeHostHalf_eq]
    exact ⟨hregion, rfl⟩
  have hread : (if r.resumption then (s.readEnded.takeHostHalf h).post (.memoryResumed s.mem.region s.timer.epoch)
      else s.readEnded.takeHostHalf h) = s.readTaken r h := by
    rw [State.takeHostHalf_eq]
    unfold State.readTaken State.readNotices
    rw [List.foldl_append]
    split
    · rw [State.post_eq]
      rfl
    · rfl
  have hcomplete : s.completeRead r h = (if r.resumption then (s.readEnded.takeHostHalf h).post
        (.memoryResumed (s.readEnded.takeHostHalf h).mem.region (s.readEnded.takeHostHalf h).timer.epoch)
      else s.readEnded.takeHostHalf h).startPass (if r.resumption then .resumption else .boundary r.writes) := rfl
  rw [hcomplete, htaken.1, htaken.2, hread]

theorem execHostHalfReadComplete_taken {s : State} {r : HostRead} (h : s.mem.read = some r) (bytes : List Byte) :
    exec (.hostHalfReadComplete false bytes) s = .next ((s.readTaken r (hostHalfOf bytes)).startPass
      (if r.resumption then .resumption else .boundary r.writes)) := by
  change execHostHalfReadComplete false bytes s = _
  simp only [execHostHalfReadComplete, Bool.false_eq_true, if_false, h, readHostHalf_eq, State.completeRead_eq]

/-! ### What a read taken leaves -/

/-- The memory side of a read taken: what it takes, its notices, and all else as it was. -/
theorem State.readTaken_mem (s : State) (r : HostRead) (h : HostHalf) : (s.readTaken r h).mem =
    { s.readEnded.mem.readTaken h with
      notices := ((s.readNotices r h).foldl posted s.mem).notices
      lapsed := ((s.readNotices r h).foldl posted s.mem).lapsed } := by
  obtain ⟨hn, hl⟩ := foldl_posted_congr (s.readNotices r h) (m := s.readEnded.mem.readTaken h) (n := s.mem) rfl rfl
  rw [← hn, ← hl]
  exact foldl_posted_eq _ _

/-- A scan that has halted goes on once its finding has been consumed (R114). -/
theorem Scan.checkConsumed_of_position {sc : Scan} {f : Finding} {q : Word32} (hs : sc.state = .halted)
    (hf : sc.finding = some f) (hq : f.position = some q) (p c : Word32) :
    sc.checkConsumed p c = if (p - c).toNat < (p - q).toNat then
      { state := .sweeping, cursor := Fin.ofNat 192 (f.cell.val + 1), finding := none, owed := sc.owed } else sc := by
  simp only [Scan.checkConsumed, hf, hq, hs, true_and, BitVec.lt_def]
  rfl

theorem Scan.checkConsumed_of_no_position {sc : Scan} {f : Finding} (hf : sc.finding = some f) (hq : f.position = none)
    (p c : Word32) : sc.checkConsumed p c = sc := by
  simp only [Scan.checkConsumed, hf, hq]

theorem Scan.checkConsumed_of_not_halted {sc : Scan} (h : sc.state ≠ .halted ∨ sc.finding = none) (p c : Word32) :
    sc.checkConsumed p c = sc := by
  unfold Scan.checkConsumed
  split
  · rfl
  next f hf =>
    split
    · rfl
    · exact if_neg fun hc => h.elim (fun hn => hn hc.1) fun hn => by rw [hf] at hn; cases hn

/-- After a failed record the pass begins with the report to be written again (R153; log entry 36). -/
theorem firstOfPass_of_rewrite {m : MemSide} {p : Port} {r : Report} (hw : m.rewrite = some p)
    (hp : (m.slots.get p).held = some r) (hroom : 2 ≤ roomOf m) : firstOfPass m = some (.first p r, .again) := by
  simp only [firstOfPass, hw, Option.bind_some, hp, Option.map_some, if_pos hroom]

/-- With nothing to write a pass ends at once (R157). -/
theorem firstOfPass_of_nothing {m : MemSide} (hn : m.notices = []) (hs : ∀ p, (m.slots.get p).held = none) :
    firstOfPass m = none := by
  have hagain : (m.rewrite.bind fun p => (m.slots.get p).held.map (JournalItem.first p)) = none :=
    Option.bind_eq_none_iff.2 fun p _ => by rw [hs, Option.map_none]
  have hreport : reportFrom m 0 = none := by
    unfold reportFrom
    split
    · exact List.findSome?_eq_none_iff.2 fun p _ => by rw [hs, Option.map_none]
    · rfl
  simp only [firstOfPass, hagain, noticeOrReport_of_nil hn, hreport, Option.map_none]

theorem passBegun_of_none {s : State} (h : firstOfPass s.mem = none) (o : Occasion) : passBegun s o = passEnded s o := by
  simp only [passBegun, h]

theorem passBegun_of_some {s : State} {i : JournalItem} {stage : PassStage} (h : firstOfPass s.mem = some (i, stage))
    (o : Occasion) : (passBegun s o).mem.journalWrite = some (recordWrite s.mem i s.mem.produced) := by
  simp only [passBegun, h]

/-- The end of a boundary's pass with nothing in flight issues the boundary's part-half write (R151). -/
theorem passEnded_boundary {s : State} (hp : s.mem.partHalf = none) (hw : s.mem.writesOwed = [])
    (hs : s.mem.signalWrites = []) : passEnded s (.boundary true) =
      partHalfIssued { s with mem := { s.mem with pass := none } } false := by
  unfold passEnded
  dsimp only
  rw [if_neg (by simp [hp, hw, hs]), if_pos hp]
  rfl

/-- Settles O45: `State.readTaken` says what a read takes, and the pass of its occasion falls due in that state. -/
theorem hostHalfReadIsTaken : Obligations.HostHalfReadIsTaken := by
  refine fun s bytes => ⟨fun r hr => ?_, rfl⟩
  intro h consumed refuses
  have hconsumed : s.mem.consumedAfter h.consumed = consumed := rfl
  have hmem := s.readTaken_mem r h
  have hprod : (s.readTaken r h).mem.produced = s.mem.produced := (congrArg MemSide.produced hmem :)
  have hcons : (s.readTaken r h).mem.consumed = consumed := (congrArg MemSide.consumed hmem :)
  have hcap : (s.readTaken r h).mem.capacity = s.mem.capacity := (congrArg MemSide.capacity hmem :)
  have hpass : (s.readTaken r h).mem.pass = s.mem.pass := (congrArg MemSide.pass hmem :)
  have hqueue : (s.readTaken r h).mem.passQueue = s.mem.passQueue := (congrArg MemSide.passQueue hmem :)
  have hrewrite : (s.readTaken r h).mem.rewrite = s.mem.rewrite := (congrArg MemSide.rewrite hmem :)
  have hslots : (s.readTaken r h).mem.slots = s.mem.slots := (congrArg MemSide.slots hmem :)
  have hnotices : (s.readTaken r h).mem.notices = ((s.readNotices r h).foldl posted s.mem).notices :=
    (congrArg MemSide.notices hmem :)
  have hlapsed : (s.readTaken r h).mem.lapsed = ((s.readNotices r h).foldl posted s.mem).lapsed :=
    (congrArg MemSide.lapsed hmem :)
  have hundone : passTakenBack s ((s.readTaken r h).startPass (if r.resumption then .resumption else .boundary r.writes)) =
      s.readTaken r h := by
    have hback := (s.readTaken r h).startPass_takenBack (if r.resumption then .resumption else .boundary r.writes)
    refine (congrArg (passTakenBack s) hback).trans ?_
    have hown : passTakenBack s (s.readTaken r h) = { s.readTaken r h with mem := { s.readEnded.mem.readTaken h with
        notices := ((s.readNotices r h).foldl posted s.mem).notices
        lapsed := ((s.readNotices r h).foldl posted s.mem).lapsed } } := by
      rw [passTakenBack, hmem]
      rfl
    rw [hown, ← hmem]
  refine ⟨_, execHostHalfReadComplete_taken hr bytes, ?_, ?_, ?_, ?_, ?_, ?_, ?_, fun f q hs hf hq => ?_, fun f hf hq => ?_,
    fun hs => ?_, ⟨s.readEnded.refusedAtOnce h, State.refusedAtOnce_of, State.refusedAtOnce_of_not, ?_, ?_⟩,
    fun p x hw hx hp hq hroom => ?_, ?_, fun hwrites hp hq hn hheld hres href hph hwo hsw => ?_, ?_⟩
  · rw [State.startPass_mem_read]
    exact (congrArg MemSide.read hmem :)
  · rw [State.startPass_plans]
    exact (s.readEnded.showPlan_shown h).2
  · rw [State.startPass_mem_signalMask]
    exact (congrArg MemSide.signalMask hmem :)
  · rw [State.startPass_mem_consumed, hcons]
  · rw [State.startPass_mem_produced, hprod]
  · rw [State.startPass_mem_noted]
    exact (congrArg MemSide.noted hmem :)
  · rw [State.startPass_mem_armed]
    exact (congrArg MemSide.armed hmem :)
  · rw [State.startPass_scan]
    exact Scan.checkConsumed_of_position hs hf hq _ _
  · rw [State.startPass_scan]
    exact Scan.checkConsumed_of_no_position hf hq _ _
  · rw [State.startPass_scan]
    exact Scan.checkConsumed_of_not_halted hs _ _
  · rw [State.startPass_mem_notices, hnotices]
    rfl
  · rw [State.startPass_mem_lapsed, hlapsed]
    rfl
  · have hfirst := firstOfPass_of_rewrite (hrewrite.trans hw) (hslots ▸ hx) (by rw [roomOf, hcap, hprod, hcons]; exact hroom)
    rw [State.startPass_idle (hpass.trans hp) (hqueue.trans hq), passBegun_of_some hfirst]
    exact ⟨_, rfl, rfl, hprod⟩
  · rw [hundone]
    exact State.startPass_fallsDue _ _
  · have hnone : s.readNotices r h = [] := by
      rw [State.readNotices, State.refusedAtOnce_of_not (s := s.readEnded) href, hres]
      rfl
    have hfirst : firstOfPass (s.readTaken r h).mem = none :=
      firstOfPass_of_nothing (by rw [hnotices, hnone]; exact hn) (by rw [hslots]; exact hheld)
    have hend := passEnded_boundary (s := s.readTaken r h) ((congrArg MemSide.partHalf hmem :).trans hph)
      ((congrArg MemSide.writesOwed hmem :).trans hwo) ((congrArg MemSide.signalWrites hmem :).trans hsw)
    rw [State.startPass_idle (hpass.trans hp) (hqueue.trans hq), passBegun_of_none hfirst, hres, hwrites]
    simp only [Bool.false_eq_true, if_false]
    rw [hend]
    refine ⟨?_, rfl, (congrArg MemSide.journalWrite hmem :)⟩
    have hdue : (s.readTaken r h).mem.signalDue = s.mem.signalDue := (congrArg MemSide.signalDue hmem :)
    have haddr : (s.readTaken r h).mem.signalAddr = s.mem.signalAddr := (congrArg MemSide.signalAddr hmem :)
    simp only [partHalfIssued, hdue, haddr, hprod]
    rfl
  · rw [State.startPass_link, State.startPass_ports, State.startPass_conduct, State.startPass_timer, State.startPass_win]
    exact ⟨rfl, rfl, rfl, rfl, rfl⟩

end Sys2Proof.Machine
end

section
/-! PROOF. The stages of a port close as the statements describe them (R19 to R23, R34, R41, R43, R61). -/

namespace Sys2Proof.Machine

/-! ### Stages 1 to 3 (R20 to R22) -/

theorem creditTable_eq (st : Conduct) (served : Bool) (n f g k b : Nat) :
    min b (creditTable st served n f g k b) = creditAfterClose st served n f g k b := by
  unfold creditTable creditAfterClose
  by_cases hc : st = .cutOff
  · rw [if_pos hc, if_pos (.inl hc)]
  · by_cases hs : served = false
    · rw [if_neg hc, if_pos hs, if_pos (.inr hs)]
    · rw [if_neg hc, if_neg hs, if_neg (not_or.2 ⟨hc, hs⟩)]

/-- A cell was starved in the ending epoch (R22). -/
def Cell.starves (c : Cell) (share : Option Share) (st : Conduct) (served : Bool) : Bool :=
  served && share.isSome && decide (st ≠ .cutOff) && decide (0 < c.demand) && decide (c.issued < min c.epochFloor c.demand)

/-- Stages 1 to 3 of the close on one cell, field by field. -/
theorem Cell.closeStages_eq (c : Cell) (share : Option Share) (st : Conduct) (served : Bool) :
    c.closeStages share st served = { c with
      cumAllocated := c.cumAllocated + BitVec.ofNat 64 c.allowance
      cumIssued := c.cumIssued + BitVec.ofNat 64 c.issued
      lastFloor := c.epochFloor, lastNet := c.issued, allowance := 0, issued := 0
      credit := (match share with
        | none => 0
        | some sh => creditAfterClose st served c.issued c.epochFloor c.claim c.credit sh.burst)
      starved := if c.starves share st served then min 63 (c.starved + 1) else 0
      reported := c.starves share st served && c.reported } := by
  have hcredit : c.settle.updateCredit share st served = { c.settle with
      credit := (match share with
        | none => 0
        | some sh => creditAfterClose st served c.issued c.epochFloor c.claim c.credit sh.burst) } := by
    cases share with
    | none => rfl
    | some sh => exact congrArg (fun k => { c.settle with credit := k }) (creditTable_eq _ _ _ _ _ _ _)
  have hstarves : (c.settle.updateCredit share st served).wasStarved share st served = c.starves share st served := by
    rw [hcredit]
    rfl
  unfold Cell.closeStages Cell.updateStarved
  rw [hstarves, hcredit]
  cases c.starves share st served with
  | true =>
    simp only [if_true, Bool.true_and, Nat.min_comm 63]
    rfl
  | false => rfl

/-- The port as stage 4 begins its examinations (R20 to R22, R61). -/
theorem settledPort_eq (s : State) (p : Port) (e : Epoch) :
    ((s.ports.get p).closeStages e (s.plans.inForce.share p) s.conductOf).ageTable = settledPort s p e := by
  have hcells : ((s.ports.get p).cells.mapIdx fun a c =>
      c.closeStages (s.plans.inForce.share p a) (s.conductOf a) (s.ports.get p).served) = (settledPort s p e).cells :=
    Tab.ext_get fun a => by
      rw [Tab.get_mapIdx, Cell.closeStages_eq, settledPort, Tab.get_ofFn, State.conductOf, ConductRec.state,
        band_eq_stateAt]
      rfl
  unfold PortBlock.ageTable PortBlock.closeStages
  rw [hcells]
  rfl

/-! ### Stage 4 in turn (R61) -/

theorem State.examine_examined (s : State) (p : Port) (x : Exam) : examined s (s.examine p x) p x.tag := by
  unfold examined State.examine
  change match (s.ports.get p).entry x.tag with | none => _ | some e => _
  cases hfind : (s.ports.get p).entry x.tag with
  | none => rfl
  | some e =>
    dsimp only
    by_cases hage : e.age < (s.ports.get p).values.life
    · rw [if_pos hage]
      cases hst : e.state with
      | live => exact State.expireEntry_of_not _ hfind fun h => absurd h.2 (Nat.not_le.2 hage)
      | lapsed => exact State.removeLapsed_of_not hfind fun h => absurd h.2 (Nat.not_le.2 hage)
    · rw [if_neg hage]
      cases hst : e.state with
      | live =>
        dsimp only
        rw [State.expireEntry_of_reached x.sched hfind hst (Nat.not_lt.1 hage)]
        exact State.charge_charged _ _ _ _
      | lapsed => exact State.removeLapsed_of_reached hfind hst (Nat.not_lt.1 hage)

theorem examinedInTurn_foldl (p : Port) (l : List Exam) (s : State) :
    examinedInTurn p (l.map Exam.tag) s (l.foldl (fun s x => s.examine p x) s) := by
  induction l generalizing s with
  | nil => rfl
  | cons x l ih => exact ⟨_, s.examine_examined p x, ih _⟩

theorem fullExams_tags (exams : List Exam) (table : List Entry) : (fullExams exams table).map Exam.tag =
    exams.map Exam.tag ++ (table.map Entry.tag).filter fun g => decide (g ∉ exams.map Exam.tag) := by
  rw [fullExams, List.map_append, List.map_map, List.filter_map]
  rfl

/-! ### The close (R19) -/

/-- A port that owes the close of epoch `e`, and can take it. -/
def PortBlock.owesClose (b : PortBlock) (e : Epoch) (rest : List Epoch) : Prop :=
  b.closeOwed = e :: rest ∧ b.inFlight = none ∧ b.mode ≠ .standby

/-- The state in which stage 4 has examined every entry. -/
def State.stageFour (s : State) (p : Port) (exams : List Exam) (e : Epoch) : State :=
  (s.modPort p fun b => b.closeStages e (s.plans.inForce.share p) s.conductOf).ageAndExamine p exams

/-- The state in which the cells are settled and every entry's age has risen. -/
def State.settledFor (s : State) (p : Port) (e : Epoch) : State := { s with ports := s.ports.set p (settledPort s p e) }

theorem State.stageFour_inTurn (s : State) (p : Port) (exams : List Exam) (e : Epoch) :
    examinedInTurn p (exams.map Exam.tag ++
      ((s.ports.get p).table.map Entry.tag).filter fun g => decide (g ∉ exams.map Exam.tag))
      (s.settledFor p e) (s.stageFour p exams e) := by
  have htable : ((s.modPort p fun b => b.closeStages e (s.plans.inForce.share p) s.conductOf).ports.get p).table =
      (s.ports.get p).table := by rw [State.modPort_ports_self]; rfl
  have hstart : (s.modPort p fun b => b.closeStages e (s.plans.inForce.share p) s.conductOf).modPort p
      PortBlock.ageTable = s.settledFor p e := by
    rw [State.modPort_modPort, State.modPort_eq_set, settledPort_eq]
    rfl
  rw [← fullExams_tags, ← hstart, State.stageFour, State.ageAndExamine, htable]
  exact examinedInTurn_foldl p _ _

/-- Stages 5 and 6 of a close that began in state `s` (R23, R34, R41). -/
def State.closeDone (s w : State) (p : Port) (rest : List Epoch) : State :=
  let c := w.ports.get p
  let f := c.filter.sample (s.plans.inForce.ports.get p).depth
  { w with
    mem := reportHanded w.mem p (epochReport p (s.ports.get p) c c.mode f.accepted)
    ports := w.ports.set p { c with
      filter := f, served := false, totals := { effective := 0, allocated := 0, idle := 0 }
      counts := { used := 0, overrun := 0, expiries := 0, late := 0, stray := 0 }, refused := 0
      mode := if c.mode = .granting then .allocating else c.mode, closeOwed := rest, allocDue := true } }

theorem State.closeDone_eq (s w : State) (p : Port) (rest : List Epoch) :
    (((w.modPort p fun b => b.sampleLevel (s.portRecord p).depth).handOver
      (formReport p (s.ports.get p) ((w.modPort p fun b => b.sampleLevel (s.portRecord p).depth).ports.get p))).modPort p
        fun b => b.afterClose rest) = s.closeDone w p rest := by
  have hports : (w.modPort p fun b => b.sampleLevel (s.portRecord p).depth).modPort p (fun b => b.afterClose rest) =
      w.modPort p fun b => (b.sampleLevel (s.portRecord p).depth).afterClose rest := State.modPort_modPort _ _ _ _
  rw [State.handOver_eq, formReport_eq, State.modPort_ports_self]
  refine Eq.trans (congrArg (fun x : State => { x with
    mem := reportHanded w.mem p (epochReport p (s.ports.get p) ((w.ports.get p).sampleLevel (s.portRecord p).depth)
      (w.ports.get p).mode ((w.ports.get p).filter.sample (s.portRecord p).depth).accepted) }) hports) ?_
  rw [State.modPort_eq_set]
  rfl

theorem execPortClose_eq {s : State} {p : Port} {exams : List Exam} {e : Epoch} {rest : List Epoch}
    (h : (s.ports.get p).owesClose e rest) :
    exec (.portClose p exams) s = .next ((s.closeDone (s.stageFour p exams e) p rest).restIfDrained p) := by
  obtain ⟨ho, hf, hm⟩ := h
  have hready : (s.ports.get p).closeReady = true := (PortBlock.closeReady_iff _).2 ⟨hm, hf, by rw [ho]; simp⟩
  change execPortClose p exams s = _
  simp only [execPortClose, ho, hready, if_true]
  exact congrArg (fun x : State => Host.Outcome.next (x.restIfDrained p)) (s.closeDone_eq _ p rest)

theorem State.closeDone_port (s w : State) (p : Port) (rest : List Epoch) :
    (s.closeDone w p rest).ports.get p = { w.ports.get p with
      filter := (w.ports.get p).filter.sample (s.plans.inForce.ports.get p).depth
      served := false, totals := { effective := 0, allocated := 0, idle := 0 }
      counts := { used := 0, overrun := 0, expiries := 0, late := 0, stray := 0 }, refused := 0
      mode := if (w.ports.get p).mode = .granting then .allocating else (w.ports.get p).mode
      closeOwed := rest, allocDue := true } := Tab.get_set_self _ _ _

theorem State.closeDone_drained (s w : State) (p : Port) (rest : List Epoch) :
    (((s.closeDone w p rest).ports.get p).mode = .draining ∧ ((s.closeDone w p rest).ports.get p).table = []) ↔
      (w.ports.get p).mode = .draining ∧ (w.ports.get p).table = [] := by
  rw [State.closeDone_port]
  dsimp only
  cases (w.ports.get p).mode <;> simp

theorem State.closeDone_ended (s w : State) (p : Port) (rest : List Epoch) :
    closeEnded s w ((s.closeDone w p rest).restIfDrained p) p rest := by
  have hdrained := s.closeDone_drained w p rest
  unfold closeEnded
  dsimp only
  split
  next h =>
    obtain ⟨hm, ht⟩ := hdrained.2 h
    rw [State.restIfDrained_of hm ht]
    exact State.enterStandby_enters _ p
  next h => exact State.restIfDrained_of_not fun hc => h (hdrained.1 hc)

/-! ### Where no expiry cuts an account off -/

/-- What stage 4's examination leaves of an entry whose age has risen already (R61). -/
def examinedEntry (life : Nat) (x : Entry) : Option Entry :=
  if x.age < life then some x
  else
    match x.state with
    | .live => some { x with state := .lapsed, age := 0 }
    | .lapsed => none

/-- The entry is LIVE, the account's, and stage 4 finds it expired (R61). -/
def Entry.expires (x : Entry) (life : Nat) (a : Account) : Prop := x.state = .live ∧ x.account = a ∧ life ≤ x.age

/-- A table after the examination of the entries with these tags. -/
def tableExamined (table : List Entry) (life : Nat) (gs : List Tag) : List Entry :=
  table.filterMap fun x => if x.tag ∈ gs then examinedEntry life x else some x

/-- The account's entries that the examination of these tags finds expired. -/
def expiredOf (table : List Entry) (life : Nat) (gs : List Tag) (a : Account) : Nat :=
  table.countP fun x => decide (x.state = .live ∧ x.account = a ∧ life ≤ x.age ∧ x.tag ∈ gs)

theorem examinedEntry_tag {life : Nat} {x y : Entry} (h : examinedEntry life x = some y) : y.tag = x.tag := by
  unfold examinedEntry at h
  split at h
  · cases h
    rfl
  · split at h <;> cases h
    rfl

theorem examinedOr_tag {life : Nat} {gs : List Tag} {x y : Entry}
    (h : (if x.tag ∈ gs then examinedEntry life x else some x) = some y) : y.tag = x.tag := by
  split at h
  · exact examinedEntry_tag h
  · cases h
    rfl

/-- An entry examined once is younger than the lifetime (R61). -/
theorem examinedEntry_young {life : Nat} (hlife : 1 ≤ life) {x y : Entry} (h : examinedEntry life x = some y) :
    y.age < life := by
  unfold examinedEntry at h
  split at h
  next hage =>
    cases h
    exact hage
  · split at h <;> cases h
    exact hlife

/-- The table holds an entry at most once under its tag. -/
theorem eq_of_tag_eq {table : List Entry} (hn : (table.map Entry.tag).Nodup) {x y : Entry} (hx : x ∈ table)
    (hy : y ∈ table) (h : x.tag = y.tag) : x = y := List.inj_on_of_nodup_map hn hx hy h

theorem mem_tableExamined {table : List Entry} {life : Nat} {gs : List Tag} {y : Entry} :
    y ∈ tableExamined table life gs ↔
      ∃ x ∈ table, (if x.tag ∈ gs then examinedEntry life x else some x) = some y := List.mem_filterMap

theorem tableExamined_tag {table : List Entry} {life : Nat} {gs : List Tag} {y : Entry}
    (h : y ∈ tableExamined table life gs) : ∃ x ∈ table, x.tag = y.tag ∧
      (y.tag ∈ gs → examinedEntry life x = some y) ∧ (y.tag ∉ gs → x = y) := by
  obtain ⟨x, hx, hy⟩ := mem_tableExamined.1 h
  split at hy
  next hg =>
    have htag := examinedEntry_tag hy
    exact ⟨x, hx, htag.symm, fun _ => hy, fun hn => absurd (htag ▸ hg) hn⟩
  next hg =>
    cases hy
    exact ⟨_, hx, rfl, fun hc => absurd hc hg, fun _ => rfl⟩

theorem mem_append_singleton_of_mem {α : Type} {l : List α} {a : α} (h : a ∈ l) (x : α) : x ∈ l ++ [a] ↔ x ∈ l := by
  rw [List.mem_append, List.mem_singleton]
  exact ⟨fun hx => hx.elim id fun e => e ▸ h, .inl⟩

section
variable {table : List Entry} {life : Nat} {gs : List Tag} {g : Tag} {e : Entry}

/-- Another examination of the same tag finds nothing more. -/
theorem tableExamined_of_mem (h : g ∈ gs) : tableExamined table life (gs ++ [g]) = tableExamined table life gs := by
  simp only [tableExamined, mem_append_singleton_of_mem h]

theorem expiredOf_of_mem (h : g ∈ gs) (a : Account) : expiredOf table life (gs ++ [g]) a = expiredOf table life gs a := by
  simp only [expiredOf, mem_append_singleton_of_mem h]

/-- An examination of a tag that no entry carries finds nothing. -/
theorem tableExamined_of_absent (h : ∀ x ∈ table, x.tag ≠ g) :
    tableExamined table life (gs ++ [g]) = tableExamined table life gs :=
  List.filterMap_congr fun x hx => by simp only [List.mem_append, List.mem_singleton, h x hx, or_false]

theorem expiredOf_of_absent (h : ∀ x ∈ table, x.tag ≠ g) (a : Account) :
    expiredOf table life (gs ++ [g]) a = expiredOf table life gs a :=
  List.countP_congr fun x hx => by simp only [List.mem_append, List.mem_singleton, h x hx, or_false]

/-- What an examination of one more tag does with one entry, where the tag is that of `e` alone. -/
theorem examinedStep (hn : (table.map Entry.tag).Nodup) (he : e ∈ table) (htag : e.tag = g) {x : Entry}
    (hx : x ∈ table) : (if x.tag ∈ gs ++ [g] then examinedEntry life x else some x) =
      if x = e then examinedEntry life e else if x.tag ∈ gs then examinedEntry life x else some x := by
  by_cases hxe : x = e
  · rw [if_pos hxe, if_pos (by rw [hxe, htag]; simp), hxe]
  · have hne : x.tag ≠ g := fun h => hxe (eq_of_tag_eq hn hx he (h.trans htag.symm))
    simp only [if_neg hxe, List.mem_append, List.mem_singleton, hne, or_false]

theorem tableExamined_of_young (hn : (table.map Entry.tag).Nodup) (hg : g ∉ gs) (he : e ∈ table) (htag : e.tag = g)
    (hage : e.age < life) : tableExamined table life (gs ++ [g]) = tableExamined table life gs :=
  List.filterMap_congr fun x hx => by
    rw [examinedStep hn he htag hx]
    split
    next hxe => rw [hxe, htag, if_neg hg, examinedEntry, if_pos hage]
    next => rfl

theorem tableExamined_of_live (hn : (table.map Entry.tag).Nodup) (hg : g ∉ gs) (he : e ∈ table) (htag : e.tag = g)
    (hlive : e.state = .live) (hage : life ≤ e.age) : tableExamined table life (gs ++ [g]) =
      (tableExamined table life gs).map fun x => if x.tag = g then { x with state := .lapsed, age := 0 } else x := by
  rw [tableExamined, tableExamined, List.map_filterMap]
  refine List.filterMap_congr fun x hx => ?_
  rw [examinedStep hn he htag hx]
  split
  next hxe =>
    rw [hxe, htag, if_neg hg, Option.map_some, if_pos htag]
    simp only [examinedEntry, if_neg (Nat.not_lt.2 hage), hlive]
  next hxe =>
    have hne : x.tag ≠ g := fun h => hxe (eq_of_tag_eq hn hx he (h.trans htag.symm))
    cases hy : (if x.tag ∈ gs then examinedEntry life x else some x) with
    | none => rfl
    | some y =>
      have hytag := examinedOr_tag hy
      rw [Option.map_some, if_neg (hytag ▸ hne)]

theorem tableExamined_of_lapsed (hn : (table.map Entry.tag).Nodup) (hg : g ∉ gs) (he : e ∈ table) (htag : e.tag = g)
    (hlapsed : e.state = .lapsed) (hage : life ≤ e.age) : tableExamined table life (gs ++ [g]) =
      (tableExamined table life gs).filter fun x => decide (x.tag ≠ g) := by
  rw [tableExamined, tableExamined, List.filter_filterMap]
  refine List.filterMap_congr fun x hx => ?_
  rw [examinedStep hn he htag hx]
  split
  next hxe =>
    rw [hxe, htag, if_neg hg, Option.filter_some]
    simp [examinedEntry, if_neg (Nat.not_lt.2 hage), hlapsed, htag]
  next hxe =>
    have hne : x.tag ≠ g := fun h => hxe (eq_of_tag_eq hn hx he (h.trans htag.symm))
    cases hy : (if x.tag ∈ gs then examinedEntry life x else some x) with
    | none => rfl
    | some y =>
      have hytag := examinedOr_tag hy
      simp [Option.filter_some, hytag, hne]

/-- Of the entries of a table with different tags, one more is expired where the entry of the new tag is. -/
theorem expiredOf_of_entry (hn : (table.map Entry.tag).Nodup) (hg : g ∉ gs) (he : e ∈ table) (htag : e.tag = g)
    (a : Account) : expiredOf table life (gs ++ [g]) a =
      expiredOf table life gs a + if e.state = .live ∧ e.account = a ∧ life ≤ e.age then 1 else 0 := by
  have hcount : table.countP (fun x => decide (x = e)) = 1 := by
    have := List.count_eq_one_of_mem (List.Nodup.of_map _ hn) he
    rw [List.count] at this
    rw [← this]
    exact List.countP_congr fun x _ => by simp
  unfold expiredOf
  rw [List.countP_eq_countP_filter_add _ _ fun x => decide (x.tag ∈ gs), List.countP_filter, List.countP_filter]
  refine congrArg₂ (· + ·) (List.countP_congr fun x _ => ?_) ?_
  · simp only [List.mem_append, List.mem_singleton, Bool.and_eq_true, decide_eq_true_eq]
    tauto
  · have hnew (x : Entry) (hx : x ∈ table) : (decide (x.state = .live ∧ x.account = a ∧ life ≤ x.age ∧ x.tag ∈ gs ++ [g]) &&
        !decide (x.tag ∈ gs)) = true ↔ x = e ∧ e.state = .live ∧ e.account = a ∧ life ≤ e.age := by
      simp only [List.mem_append, List.mem_singleton, Bool.and_eq_true, decide_eq_true_eq, Bool.not_eq_true',
        decide_eq_false_iff_not]
      constructor
      · rintro ⟨⟨h1, h2, h3, h4⟩, h5⟩
        have hxe := eq_of_tag_eq hn hx he ((h4.resolve_left h5).trans htag.symm)
        exact ⟨hxe, hxe ▸ h1, hxe ▸ h2, hxe ▸ h3⟩
      · rintro ⟨rfl, h1, h2, h3⟩
        exact ⟨⟨h1, h2, h3, .inr htag⟩, htag ▸ hg⟩
    split
    next hex =>
      rw [← hcount]
      exact List.countP_congr fun x hx => by rw [hnew x hx, decide_eq_true_eq, and_iff_left hex]
    next hex => exact List.countP_eq_zero.2 fun x hx hc => hex ((hnew x hx).1 hc).2

end

theorem expiredOf_le (table : List Entry) (life : Nat) (gs : List Tag) (a : Account) :
    expiredOf table life gs a ≤ table.countP fun x => decide (x.state = .live ∧ x.account = a ∧ life ≤ x.age) :=
  List.countP_mono_left fun x _ h => by
    rw [decide_eq_true_eq] at h ⊢
    exact ⟨h.1, h.2.1, h.2.2.1⟩

end Sys2Proof.Machine
end

section
/-! PROOF. A port close in which no expiry cuts an account off (R19 to R23, R34, R41, R43, R61, R98). -/

namespace Sys2Proof.Machine

/-! ### A conduct record and a port after expiries -/

/-- A record charged 4 for each of `k` expiries, none of which reaches CUT_OFF (R98). -/
def ConductRec.afterExpiries (r : ConductRec) (k : Nat) : ConductRec :=
  { r with score := if r.score < 256 then r.score + 4 * k else r.score, fault := r.fault || decide (0 < k) }

theorem ConductRec.afterExpiries_zero (r : ConductRec) : r.afterExpiries 0 = r := by
  simp [ConductRec.afterExpiries]

theorem ConductRec.afterExpiries_succ (r : ConductRec) (k : Nat) (h : 256 ≤ r.score ∨ r.score + 4 * (k + 1) < 256) :
    r.afterExpiries (k + 1) = { r.afterExpiries k with
      score := if 256 ≤ (r.afterExpiries k).score then (r.afterExpiries k).score else (r.afterExpiries k).score + 4
      fault := true } := by
  have hfault : (r.fault || decide (0 < k + 1)) = true := by simp
  unfold ConductRec.afterExpiries
  dsimp only
  rw [hfault]
  by_cases hs : r.score < 256
  · have hlt : ¬256 ≤ r.score + 4 * k := by omega
    rw [if_pos hs, if_pos hs, if_neg hlt]
    rfl
  · rw [if_neg hs, if_neg hs, if_pos (Nat.not_lt.1 hs)]

/-- The expiries of a port's entries among these tags, for one account. -/
def PortBlock.expiries (b : PortBlock) (gs : List Tag) (a : Account) : Nat := expiredOf b.table b.values.life gs a

/-- All the expiries of a port's entries among these tags. -/
def PortBlock.allExpiries (b : PortBlock) (gs : List Tag) : Nat := ((List.finRange 48).map (b.expiries gs)).sum

/-- An expiry count raised by `n`, saturating (R60). -/
def raisedBy (count n : Nat) : Nat := if n = 0 then count else min (count + n) 4294967295

theorem raisedBy_succ (count n : Nat) : raisedBy count (n + 1) = min (raisedBy count n + 1) 4294967295 := by
  unfold raisedBy
  rw [if_neg (Nat.succ_ne_zero n)]
  split <;> omega

/-- A port whose entries with these tags have been examined (R61). -/
def PortBlock.afterExams (b : PortBlock) (gs : List Tag) : PortBlock :=
  { b with
    table := tableExamined b.table b.values.life gs
    counts := { b.counts with expiries := raisedBy b.counts.expiries (b.allExpiries gs) }
    cells := Tab.ofFn fun a =>
      { b.cells.get a with cumExpiries := (b.cells.get a).cumExpiries + BitVec.ofNat 32 (b.expiries gs a) } }

/-- `w` is `v` with the entries of port `p` that carry these tags examined, no account having been cut off. -/
structure ExaminedSo (v w : State) (p : Port) (gs : List Tag) : Prop where
  port : w.ports.get p = (v.ports.get p).afterExams gs
  others : ∀ q, q ≠ p → w.ports.get q = v.ports.get q
  recs : ∀ a, w.conduct.recs.get a = (v.conduct.recs.get a).afterExpiries ((v.ports.get p).expiries gs a)
  rest : w = { v with
    ports := w.ports
    conduct := { v.conduct with recs := w.conduct.recs }
    mem := { v.mem with notices := w.mem.notices, lapsed := w.mem.lapsed } }
  notices : v.mem.notices <+: w.mem.notices
  quiet : (∀ a, (v.ports.get p).expiries gs a = 0) → w.mem = v.mem

theorem PortBlock.afterExams_congr {b : PortBlock} {gs hs : List Tag}
    (ht : tableExamined b.table b.values.life hs = tableExamined b.table b.values.life gs)
    (hk : ∀ a, b.expiries hs a = b.expiries gs a) : b.afterExams hs = b.afterExams gs := by
  simp only [PortBlock.afterExams, PortBlock.allExpiries, ht, hk]
  rw [show b.expiries hs = b.expiries gs from funext hk]

theorem ExaminedSo.congr {v w : State} {p : Port} {gs hs : List Tag} (h : ExaminedSo v w p gs)
    (ht : tableExamined (v.ports.get p).table (v.ports.get p).values.life hs =
      tableExamined (v.ports.get p).table (v.ports.get p).values.life gs)
    (hk : ∀ a, (v.ports.get p).expiries hs a = (v.ports.get p).expiries gs a) : ExaminedSo v w p hs where
  port := h.port.trans (PortBlock.afterExams_congr ht hk).symm
  others := h.others
  recs a := by rw [hk a, h.recs a]
  rest := h.rest
  notices := h.notices
  quiet hq := h.quiet fun a => (hk a).symm.trans (hq a)

theorem examinedSo_nil (v : State) (p : Port) : ExaminedSo v v p [] := by
  have hk (a : Account) : (v.ports.get p).expiries [] a = 0 := List.countP_eq_zero.2 fun x _ => by simp
  have hall : (v.ports.get p).allExpiries [] = 0 := by
    rw [PortBlock.allExpiries, show (v.ports.get p).expiries [] = fun _ => 0 from funext hk]
    decide
  refine ⟨?_, fun _ _ => rfl, fun a => by rw [hk, ConductRec.afterExpiries_zero], rfl, List.prefix_refl _, fun _ => rfl⟩
  have htable : tableExamined (v.ports.get p).table (v.ports.get p).values.life [] = (v.ports.get p).table := by
    simp [tableExamined]
  have hcells : (Tab.ofFn fun a => { (v.ports.get p).cells.get a with
      cumExpiries := ((v.ports.get p).cells.get a).cumExpiries + BitVec.ofNat 32 ((v.ports.get p).expiries [] a) }) =
      (v.ports.get p).cells := Tab.ext_get fun a => by rw [Tab.get_ofFn, hk]; simp
  rw [PortBlock.afterExams, htable, hcells, hall]
  rfl

/-! ### One examination more -/

/-- A charge of 4 that does not reach CUT_OFF (R98). -/
theorem charged_short {s t : State} {a : Account} (h : charged s t a 4)
    (hsafe : 256 ≤ (s.conduct.recs.get a).score ∨ (s.conduct.recs.get a).score + 4 < 256) :
    ∃ m, (m = s.mem ∨ ∃ n, m = posted s.mem n) ∧ t = { s with
      conduct := { s.conduct with recs := s.conduct.recs.set a { s.conduct.recs.get a with
        score := if 256 ≤ (s.conduct.recs.get a).score then (s.conduct.recs.get a).score
          else (s.conduct.recs.get a).score + 4
        fault := true } }
      mem := m } := by
  unfold charged at h
  dsimp only at h
  by_cases hs : 256 ≤ (s.conduct.recs.get a).score
  · rw [if_pos hs] at h
    exact ⟨s.mem, .inl rfl, by rw [h, if_pos hs]⟩
  · rw [if_neg hs, if_neg (Nat.not_le.2 (hsafe.resolve_left hs))] at h
    rw [h, if_neg hs]
    split
    · exact ⟨_, .inl rfl, rfl⟩
    · exact ⟨_, .inr ⟨_, rfl⟩, rfl⟩

/-- One account's expiry more is one expiry more in all. -/
theorem PortBlock.allExpiries_succ {b : PortBlock} {gs hs : List Tag} {x : Account}
    (h : ∀ a, b.expiries hs a = b.expiries gs a + if x = a then 1 else 0) :
    b.allExpiries hs = b.allExpiries gs + 1 := by
  have hone : ((List.finRange 48).map fun a => if x = a then 1 else 0).sum = 1 := by
    rw [← Fin.sum_univ_def, Finset.sum_ite_eq, if_pos (Finset.mem_univ x)]
  rw [PortBlock.allExpiries, show b.expiries hs = fun a => b.expiries gs a + if x = a then 1 else 0 from funext h,
    List.sum_map_add, hone, PortBlock.allExpiries]

section
variable {v w w' : State} {p : Port} {gs : List Tag} {g : Tag}

theorem ExaminedSo.table (h : ExaminedSo v w p gs) :
    (w.ports.get p).table = tableExamined (v.ports.get p).table (v.ports.get p).values.life gs := by
  rw [h.port]
  rfl

theorem ExaminedSo.life (h : ExaminedSo v w p gs) : (w.ports.get p).values.life = (v.ports.get p).values.life := by
  rw [h.port]
  rfl

/-- A LAPSED entry is removed. -/
theorem ExaminedSo.removed (h : ExaminedSo v w p gs) (hn : ((v.ports.get p).table.map Entry.tag).Nodup) (hg : g ∉ gs)
    {e : Entry} (he : e ∈ (v.ports.get p).table) (htag : e.tag = g) (hst : e.state = .lapsed)
    (hage : (v.ports.get p).values.life ≤ e.age) : ExaminedSo v (entryRemoved w p g) p (gs ++ [g]) := by
  have hk (a : Account) : (v.ports.get p).expiries (gs ++ [g]) a = (v.ports.get p).expiries gs a :=
    (expiredOf_of_entry hn hg he htag a).trans (by rw [if_neg (by simp [hst])]; rfl)
  have hall : (v.ports.get p).allExpiries (gs ++ [g]) = (v.ports.get p).allExpiries gs := by
    rw [PortBlock.allExpiries, show (v.ports.get p).expiries (gs ++ [g]) = (v.ports.get p).expiries gs from funext hk]
    rfl
  refine ⟨?_, fun q hq => ?_, fun a => ?_, ?_, h.notices, fun hq => h.quiet fun a => (hk a).symm.trans (hq a)⟩
  · rw [entryRemoved, Tab.get_set_self, h.table, ← tableExamined_of_lapsed hn hg he htag hst hage, h.port]
    simp only [PortBlock.afterExams, hk, hall]
  · rw [entryRemoved, Tab.get_set, if_neg hq.symm, h.others q hq]
  · rw [hk a]
    exact h.recs a
  · rw [entryRemoved]
    conv_lhs => rw [h.rest]

/-- A LIVE entry expires, and its account is charged. -/
theorem ExaminedSo.lapsed (h : ExaminedSo v w p gs) (hn : ((v.ports.get p).table.map Entry.tag).Nodup) (hg : g ∉ gs)
    {e : Entry} (he : e ∈ (v.ports.get p).table) (htag : e.tag = g) (hst : e.state = .live)
    (hage : (v.ports.get p).values.life ≤ e.age)
    (hsafe : 256 ≤ (v.conduct.recs.get e.account).score ∨
      (v.conduct.recs.get e.account).score + 4 * ((v.ports.get p).expiries (gs ++ [g]) e.account) < 256)
    (hc : charged (expired w p e) w' e.account 4) : ExaminedSo v w' p (gs ++ [g]) := by
  have hk (a : Account) : (v.ports.get p).expiries (gs ++ [g]) a =
      (v.ports.get p).expiries gs a + if e.account = a then 1 else 0 := by
    have hcond : (e.state = .live ∧ e.account = a ∧ (v.ports.get p).values.life ≤ e.age) ↔ e.account = a := by
      simp [hst, hage]
    exact (expiredOf_of_entry hn hg he htag a).trans (by simp only [hcond]; rfl)
  have hself : (v.ports.get p).expiries (gs ++ [g]) e.account = (v.ports.get p).expiries gs e.account + 1 := by
    rw [hk, if_pos rfl]
  rw [hself] at hsafe
  have hrec := h.recs e.account
  have hsucc := ConductRec.afterExpiries_succ (v.conduct.recs.get e.account) _ hsafe
  have hshort : 256 ≤ (w.conduct.recs.get e.account).score ∨ (w.conduct.recs.get e.account).score + 4 < 256 := by
    rw [hrec]
    unfold ConductRec.afterExpiries
    dsimp only
    split <;> omega
  obtain ⟨m, hm, heq⟩ := charged_short hc hshort
  have hprefix : v.mem.notices <+: m.notices := by
    obtain rfl | ⟨n, rfl⟩ := hm
    · exact h.notices
    · exact h.notices.trans (posted_prefix _ _)
  have hmrest : m = { v.mem with notices := m.notices, lapsed := m.lapsed } := by
    have hwm : w.mem = { v.mem with notices := w.mem.notices, lapsed := w.mem.lapsed } := congrArg State.mem h.rest
    obtain rfl | ⟨n, rfl⟩ := hm
    · exact hwm
    · rw [show (expired w p e).mem = w.mem from rfl, hwm]
      exact foldl_posted_eq [n] _
  subst heq
  refine ⟨?_, fun q hq => ?_, fun a => ?_, ?_, hprefix, fun hq => ?_⟩
  · show (expired w p e).ports.get p = _
    rw [expired_port, htag, h.table, ← tableExamined_of_live hn hg he htag hst hage, h.port]
    have hcells : ((v.ports.get p).afterExams gs).cells.modify e.account
        (fun c => { c with cumExpiries := c.cumExpiries + 1 }) = ((v.ports.get p).afterExams (gs ++ [g])).cells :=
      Tab.ext_get fun a => by
        simp only [Tab.get_modify, PortBlock.afterExams, Tab.get_ofFn, hk]
        split
        · rw [BitVec.ofNat_add, BitVec.add_assoc]
          rfl
        · rfl
    rw [hcells]
    simp only [PortBlock.afterExams, PortBlock.allExpiries_succ hk, raisedBy_succ]
  · show (expired w p e).ports.get q = _
    rw [expired, Tab.get_set, if_neg hq.symm, h.others q hq]
  · show (w.conduct.recs.set e.account _).get a = _
    rw [Tab.get_set]
    split
    next ha =>
      subst ha
      rw [hself, hsucc, ← hrec]
      rfl
    next ha => rw [hk, if_neg ha, Nat.add_zero, h.recs a]
  · rw [expired]
    conv_lhs => rw [h.rest, hmrest]
  · exact absurd (hq e.account) (by rw [hself]; exact Nat.succ_ne_zero _)

/-- One examination keeps what is known of the entries examined, whatever the tag. -/
theorem ExaminedSo.step (h : ExaminedSo v w p gs) (hn : ((v.ports.get p).table.map Entry.tag).Nodup)
    (hlife : ∀ x ∈ (v.ports.get p).table, 1 ≤ (v.ports.get p).values.life)
    (hsafe : ∀ a, (v.ports.get p).expiries (gs ++ [g]) a = 0 ∨ 256 ≤ (v.conduct.recs.get a).score ∨
      (v.conduct.recs.get a).score + 4 * ((v.ports.get p).expiries (gs ++ [g]) a) < 256)
    (hx : examined w w' p g) : ExaminedSo v w' p (gs ++ [g]) := by
  have htable := h.table
  unfold examined at hx
  rw [h.life] at hx
  by_cases hg : g ∈ gs
  · have hsame : w' = w := by
      split at hx
      · exact hx
      next e hfind =>
        obtain ⟨hmem, htag⟩ := PortBlock.entry_some (b := w.ports.get p) hfind
        rw [htable] at hmem
        obtain ⟨x, hxm, -, hex, -⟩ := tableExamined_tag hmem
        rwa [if_pos (examinedEntry_young (hlife x hxm) (hex (htag ▸ hg)))] at hx
    rw [hsame]
    exact h.congr (tableExamined_of_mem hg) (expiredOf_of_mem hg)
  · split at hx
    next hfind =>
      have habsent : ∀ x ∈ (v.ports.get p).table, x.tag ≠ g := fun x hxm htag => by
        have hmem : x ∈ (w.ports.get p).table :=
          htable ▸ mem_tableExamined.2 ⟨x, hxm, if_neg (htag ▸ hg)⟩
        exact absurd (List.find?_eq_none.1 hfind x hmem) (by simp [htag])
      rw [hx]
      exact h.congr (tableExamined_of_absent habsent) (expiredOf_of_absent habsent)
    next e hfind =>
      obtain ⟨hmem, htag⟩ := PortBlock.entry_some (b := w.ports.get p) hfind
      rw [htable] at hmem
      obtain ⟨x, hxm, -, -, hxe⟩ := tableExamined_tag hmem
      have he : e ∈ (v.ports.get p).table := hxe (htag ▸ hg) ▸ hxm
      split at hx
      next hyoung =>
        rw [hx]
        refine h.congr (tableExamined_of_young hn hg he htag hyoung) fun a => ?_
        exact (expiredOf_of_entry hn hg he htag a).trans (by rw [if_neg fun hc => absurd hc.2.2 (Nat.not_le.2 hyoung)]; rfl)
      next hold =>
        have hage := Nat.not_lt.1 hold
        cases hst : e.state with
        | live =>
          rw [hst] at hx
          have hpos : (v.ports.get p).expiries (gs ++ [g]) e.account ≠ 0 := by
            rw [PortBlock.expiries, expiredOf_of_entry hn hg he htag, if_pos ⟨hst, rfl, hage⟩]
            exact Nat.succ_ne_zero _
          exact h.lapsed hn hg he htag hst hage ((hsafe e.account).resolve_left hpos) hx
        | lapsed =>
          rw [hst] at hx
          dsimp only at hx
          rw [hx]
          exact h.removed hn hg he htag hst hage

end

theorem PortBlock.expiries_prefix_le (b : PortBlock) (gs hs : List Tag) (a : Account) :
    b.expiries gs a ≤ b.expiries (gs ++ hs) a :=
  List.countP_mono_left fun x _ h => by
    rw [decide_eq_true_eq] at h ⊢
    obtain ⟨hlive, ha, hage, hg⟩ := h
    exact ⟨hlive, ha, hage, List.mem_append_left _ hg⟩

/-- Stage 4 as a whole, where no expiry cuts an account off. -/
theorem ExaminedSo.inTurn {v w w' : State} {p : Port} {gs : List Tag} (h : ExaminedSo v w p gs) {hs : List Tag}
    (hn : ((v.ports.get p).table.map Entry.tag).Nodup)
    (hlife : ∀ x ∈ (v.ports.get p).table, 1 ≤ (v.ports.get p).values.life)
    (hsafe : ∀ a, (v.ports.get p).expiries (gs ++ hs) a = 0 ∨ 256 ≤ (v.conduct.recs.get a).score ∨
      (v.conduct.recs.get a).score + 4 * ((v.ports.get p).expiries (gs ++ hs) a) < 256)
    (hx : examinedInTurn p hs w w') : ExaminedSo v w' p (gs ++ hs) := by
  induction hs generalizing gs w with
  | nil =>
    have hw : w' = w := hx
    rw [hw, List.append_nil]
    exact h
  | cons g hs ih =>
    obtain ⟨u, hu, hrest⟩ := hx
    have happ : gs ++ g :: hs = gs ++ [g] ++ hs := by simp
    rw [happ] at hsafe ⊢
    have hle (a : Account) := (v.ports.get p).expiries_prefix_le (gs ++ [g]) hs a
    refine ih (h.step hn hlife (fun a => ?_) hu) hsafe hrest
    have ha := hle a
    rcases hsafe a with hz | hhigh | hlow
    · exact .inl (Nat.le_zero.1 (hz ▸ ha))
    · exact .inr (.inl hhigh)
    · exact .inr (.inr (by omega))

/-! ### All the examinations of a close -/

/-- The tags a close examines: those the command names, then the others of the table (log entry 2). -/
def closeTags (b : PortBlock) (exams : List Exam) : List Tag :=
  exams.map Exam.tag ++ (b.table.map Entry.tag).filter fun g => decide (g ∉ exams.map Exam.tag)

theorem mem_closeTags (exams : List Exam) {b : PortBlock} {x : Entry} (h : x ∈ b.table) : x.tag ∈ closeTags b exams := by
  by_cases hx : x.tag ∈ exams.map Exam.tag
  · exact List.mem_append_left _ hx
  · exact List.mem_append_right _ (List.mem_filter.2 ⟨List.mem_map_of_mem h, decide_eq_true hx⟩)

/-- An entry whose age has risen, examined (R61). -/
theorem examinedEntry_aged (life : Nat) (x : Entry) : examinedEntry life { x with age := x.age + 1 } = aged life x := by
  unfold examinedEntry aged
  cases x.state <;> rfl

theorem settledPort_tableExamined (s : State) (p : Port) (e : Epoch) (exams : List Exam) :
    tableExamined (settledPort s p e).table (settledPort s p e).values.life (closeTags (s.ports.get p) exams) =
      (s.ports.get p).table.filterMap (aged (s.ports.get p).values.life) := by
  show tableExamined ((s.ports.get p).table.map fun x => { x with age := x.age + 1 }) (s.ports.get p).values.life _ = _
  rw [tableExamined, List.filterMap_map]
  refine List.filterMap_congr fun x hx => ?_
  exact (if_pos (mem_closeTags exams hx)).trans (examinedEntry_aged _ x)

theorem settledPort_expiries (s : State) (p : Port) (e : Epoch) (exams : List Exam) (a : Account) :
    (settledPort s p e).expiries (closeTags (s.ports.get p) exams) a =
      expiring (s.ports.get p).table (s.ports.get p).values.life a := by
  show expiredOf ((s.ports.get p).table.map fun x => { x with age := x.age + 1 }) (s.ports.get p).values.life _ a = _
  rw [expiredOf, expiring, List.countP_map, ← List.countP_eq_length_filter]
  refine List.countP_congr fun x hx => ?_
  simp only [Function.comp_apply, mem_closeTags exams hx, and_true]

/-- No expiry of this close cuts an account off, and the table holds its tags apart. -/
structure State.closesUncut (s : State) (p : Port) : Prop where
  tags : ((s.ports.get p).table.map Entry.tag).Nodup
  life : ∀ x ∈ (s.ports.get p).table, 1 ≤ (s.ports.get p).values.life
  scores : ∀ a, expiring (s.ports.get p).table (s.ports.get p).values.life a = 0 ∨
    256 ≤ (s.conduct.recs.get a).score ∨
    (s.conduct.recs.get a).score + 4 * expiring (s.ports.get p).table (s.ports.get p).values.life a < 256

/-- A port after stages 1 to 4 of a close that cuts no account off (R20 to R22, R61). -/
def examinedPort (s : State) (p : Port) (e : Epoch) : PortBlock :=
  let b := s.ports.get p
  let k (a : Account) : Nat := expiring b.table b.values.life a
  { settledPort s p e with
    table := b.table.filterMap (aged b.values.life)
    counts := { b.counts with expiries := raisedBy b.counts.expiries ((List.finRange 48).map k).sum }
    cells := Tab.ofFn fun a => { (settledPort s p e).cells.get a with
      cumExpiries := ((settledPort s p e).cells.get a).cumExpiries + BitVec.ofNat 32 (k a) } }

/-- What stage 4 leaves of a close that cuts no account off. -/
structure UncutClose (s w : State) (p : Port) (e : Epoch) : Prop where
  port : w.ports.get p = examinedPort s p e
  others : ∀ q, q ≠ p → w.ports.get q = s.ports.get q
  recs : ∀ a, w.conduct.recs.get a = (s.conduct.recs.get a).afterExpiries
    (expiring (s.ports.get p).table (s.ports.get p).values.life a)
  rest : w = { s with
    ports := w.ports
    conduct := { s.conduct with recs := w.conduct.recs }
    mem := { s.mem with notices := w.mem.notices, lapsed := w.mem.lapsed } }
  notices : s.mem.notices <+: w.mem.notices
  quiet : (∀ a, expiring (s.ports.get p).table (s.ports.get p).values.life a = 0) → w.mem = s.mem

theorem State.stageFour_uncut {s : State} {p : Port} (h : s.closesUncut p) (exams : List Exam) (e : Epoch) :
    UncutClose s (s.stageFour p exams e) p e := by
  have hport : (s.settledFor p e).ports.get p = settledPort s p e := Tab.get_set_self _ _ _
  have hk (a : Account) := settledPort_expiries s p e exams a
  have hall := congrArg List.sum (List.map_congr_left (l := List.finRange 48) fun a _ => hk a)
  have htags : (settledPort s p e).table.map Entry.tag = (s.ports.get p).table.map Entry.tag := by
    show ((s.ports.get p).table.map fun x => { x with age := x.age + 1 }).map Entry.tag = _
    rw [List.map_map]
    rfl
  have hlife : ∀ x ∈ (settledPort s p e).table, 1 ≤ (settledPort s p e).values.life := fun x hx => by
    obtain ⟨y, hy, -⟩ := List.mem_map.1 hx
    exact h.life y hy
  have hso := (examinedSo_nil (s.settledFor p e) p).inTurn (hs := closeTags (s.ports.get p) exams)
    (by rw [hport, htags]; exact h.tags) (by rw [hport]; exact hlife)
    (fun a => by rw [hport, List.nil_append, hk]; exact h.scores a) (s.stageFour_inTurn p exams e)
  rw [List.nil_append] at hso
  refine ⟨?_, fun q hq => ?_, fun a => ?_, hso.rest, hso.notices, fun hq => hso.quiet fun a => ?_⟩
  · rw [hso.port, hport]
    simp only [PortBlock.afterExams, settledPort_tableExamined, hk, PortBlock.allExpiries, hall]
    rfl
  · rw [hso.others q hq, State.settledFor, Tab.get_set, if_neg hq.symm]
  · rw [hso.recs, hport, hk]
    rfl
  · rw [hport, hk]
    exact hq a

end Sys2Proof.Machine
end

section
/-! PROOF. What a port close settles and the report it hands over (R19 to R23, R34, R41, R43, R44, R61, R155). -/

namespace Sys2Proof.Machine

/-! ### What the entry to STANDBY leaves of the part -/

theorem enteredStandby_epoch (s : State) (p : Port) :
    (enteredStandby s p).timer.epoch = s.timer.epoch ∧ (enteredStandby s p).plans.inForce = s.plans.inForce := by
  unfold enteredStandby
  dsimp only
  generalize (if ∀ p', ((s.ports.set p (portAtRest (s.ports.get p))).get p').mode = .standby then s.plans.partDeferred
    else none) = part
  cases part <;> exact ⟨rfl, rfl⟩

theorem State.parkIfDone_epoch (s : State) :
    s.parkIfDone.timer.epoch = s.timer.epoch ∧ s.parkIfDone.plans.inForce = s.plans.inForce := by
  rcases s.parkIfDone_or with e | ⟨-, -, -, -, e⟩ | ⟨-, -, -, -, e⟩
  · rw [e]
    exact ⟨rfl, rfl⟩
  · rw [e]
    exact ⟨rfl, rfl⟩
  · rw [e, State.startPass_timer, State.startPass_plans]
    exact ⟨rfl, rfl⟩

theorem State.enterStandby_epoch (s : State) (p : Port) :
    (s.enterStandby p).timer.epoch = s.timer.epoch ∧ (s.enterStandby p).plans.inForce = s.plans.inForce := by
  obtain ⟨he, hp⟩ := (enteredStandby s p).parkIfDone_epoch
  obtain ⟨he', hp'⟩ := enteredStandby_epoch s p
  rw [State.enterStandby_eq, State.standbyEntered_eq]
  exact ⟨he.trans he', hp.trans hp'⟩

/-- PORT_STATE is the first notice of the entry to STANDBY (R43; log entry 14). -/
theorem State.enterStandby_first_notice {s : State} {p : Port} (hm : (s.ports.get p).mode = .draining)
    (h : s.mem.notices.length < 32) :
    (s.mem.notices ++ [.portState p .draining .standby s.timer.epoch] : List Notice) <+: (s.enterStandby p).mem.notices := by
  obtain ⟨⟨hnotices, -⟩, -⟩ := State.enterStandby_slotsTaken hm
  have hfirst (x : Notice) : (posted s.mem x).notices = s.mem.notices ++ [x] := by rw [posted, if_pos h]
  rw [hnotices, List.foldl_append, List.foldl_append, ← hfirst]
  exact (foldl_posted_prefix _ _).trans (foldl_posted_prefix _ _)

/-- The deferred slots tell what is offered and handed over, and the notice queue as it stands. -/
theorem slotsTaken_congr {s u t : State} {p : Port} (h : slotsTaken u t p) (hn : u.mem.notices = s.mem.notices)
    (hl : u.mem.lapsed = s.mem.lapsed) (htimer : u.timer = s.timer) (hplans : u.plans = s.plans)
    (hd : (u.ports.get p).deferred = (s.ports.get p).deferred)
    (hothers : ∀ q, q ≠ p → (u.ports.get q).mode = (s.ports.get q).mode) : slotsTaken s t p := by
  have hrest : (∀ p', p' ≠ p → (u.ports.get p').mode = .standby) ↔ ∀ p', p' ≠ p → (s.ports.get p').mode = .standby :=
    forall_congr' fun p' => forall_congr' fun hp' => by rw [hothers p' hp']
  unfold slotsTaken at h ⊢
  simp only [hrest, htimer, hplans, hd] at h
  obtain ⟨⟨h1, h2⟩, h3⟩ := h
  exact ⟨⟨h1.trans (foldl_posted_congr _ hn hl).1, h2.trans (foldl_posted_congr _ hn hl).2⟩, h3⟩

/-! ### The settled cells -/

theorem settledPort_cell (s : State) (p : Port) (e : Epoch) (a : Account) : (settledPort s p e).cells.get a =
    ((s.ports.get p).cells.get a).closeStages (s.plans.inForce.share p a) (s.conductOf a) (s.ports.get p).served := by
  rw [← settledPort_eq, PortBlock.ageTable, PortBlock.closeStages]
  exact Tab.get_mapIdx _ _ _

/-- A cell after a close that cuts no account off: stages 1 to 3, with its expiries counted (R20 to R22, R61). -/
theorem examinedPort_cell (s : State) (p : Port) (e : Epoch) (a : Account) :
    let x := (s.ports.get p).cells.get a
    let share := s.plans.inForce.share p a
    let st := stateAt (s.conduct.recs.get a).score
    let served := (s.ports.get p).served
    (examinedPort s p e).cells.get a = { x with
      cumAllocated := x.cumAllocated + BitVec.ofNat 64 x.allowance
      cumIssued := x.cumIssued + BitVec.ofNat 64 x.issued
      lastFloor := x.epochFloor, lastNet := x.issued, allowance := 0, issued := 0
      cumExpiries := x.cumExpiries +
        BitVec.ofNat 32 (expiring (s.ports.get p).table (s.ports.get p).values.life a)
      credit := (match share with
        | none => 0
        | some sh => creditAfterClose st served x.issued x.epochFloor x.claim x.credit sh.burst)
      starved := if x.starves share st served then min 63 (x.starved + 1) else 0
      reported := x.starves share st served && x.reported } := by
  intro x share st served
  have hst : s.conductOf a = st := band_eq_stateAt _
  unfold examinedPort
  dsimp only
  rw [Tab.get_ofFn, settledPort_cell, hst]
  exact congrArg (fun c : Cell => { c with
    cumExpiries := c.cumExpiries + BitVec.ofNat 32 (expiring (s.ports.get p).table (s.ports.get p).values.life a) })
    (Cell.closeStages_eq x share st served)

theorem Cell.starves_iff (c : Cell) (share : Option Share) (st : Conduct) (served : Bool) :
    c.starves share st served = true ↔
      served = true ∧ share.isSome = true ∧ st ≠ .cutOff ∧ 0 < c.demand ∧ c.issued < min c.epochFloor c.demand := by
  simp only [Cell.starves, Bool.and_eq_true, decide_eq_true_eq, and_assoc]

/-- Where stage 4 leaves no entry, none has expired: an expired one stays, LAPSED (R61). -/
theorem expiring_of_aged_nil {table : List Entry} {life : Nat} (h : table.filterMap (aged life) = []) (a : Account) :
    expiring table life a = 0 := by
  rw [expiring, List.length_eq_zero_iff, List.filter_eq_nil_iff]
  intro x hx hc
  obtain ⟨hlive, -, hage⟩ := of_decide_eq_true hc
  have hnone := List.filterMap_eq_nil_iff.1 h x hx
  simp only [aged, if_neg (Nat.not_lt.2 hage), hlive] at hnone
  cases hnone

/-! ### The port as the close leaves it -/

section
variable {s w : State} {p : Port} {e : Epoch} {rest : List Epoch}

theorem UncutClose.done_port (h : UncutClose s w p e) : (s.closeDone w p rest).ports.get p = { examinedPort s p e with
    filter := (s.ports.get p).filter.sample (s.plans.inForce.ports.get p).depth
    served := false, totals := { effective := 0, allocated := 0, idle := 0 }
    counts := { used := 0, overrun := 0, expiries := 0, late := 0, stray := 0 }, refused := 0
    mode := if (s.ports.get p).mode = .granting then .allocating else (s.ports.get p).mode
    closeOwed := rest, allocDue := true } := by
  rw [State.closeDone_port, h.port]
  rfl

theorem UncutClose.done_others (h : UncutClose s w p e) (q : Port) (hq : q ≠ p) :
    (s.closeDone w p rest).ports.get q = s.ports.get q := by
  rw [State.closeDone, Tab.get_set, if_neg hq.symm, h.others q hq]

/-- What stages 5 and 6 leave as stage 4 left it. -/
theorem UncutClose.done_rest (h : UncutClose s w p e) :
    (s.closeDone w p rest).link = s.link ∧ (s.closeDone w p rest).timer = s.timer ∧
      (s.closeDone w p rest).plans = s.plans ∧ (s.closeDone w p rest).win = s.win ∧
      (s.closeDone w p rest).conduct = w.conduct ∧ (s.closeDone w p rest).mem.notices = w.mem.notices ∧
      (s.closeDone w p rest).mem.lapsed = w.mem.lapsed :=
  ⟨(congrArg State.link h.rest :), (congrArg State.timer h.rest :), (congrArg State.plans h.rest :),
    (congrArg State.win h.rest :), rfl, rfl, rfl⟩

/-- The close brings the port to STANDBY where it is DRAINING and stage 4 leaves it no entry. -/
theorem UncutClose.drained_iff (h : UncutClose s w p e) :
    (((s.closeDone w p rest).ports.get p).mode = .draining ∧ ((s.closeDone w p rest).ports.get p).table = []) ↔
      (s.ports.get p).mode = .draining ∧ (s.ports.get p).table.filterMap (aged (s.ports.get p).values.life) = [] := by
  rw [State.closeDone_drained, h.port]
  rfl

end

/-- What a close that cuts no account off makes of a cell, by R20 to R22 and R61: `rests` tells whether the port goes on to
STANDBY. -/
def cellClosed (s : State) (p : Port) (rests : Prop) (y : Cell) (a : Account) : Prop :=
  let b := s.ports.get p
  let x := b.cells.get a
  let share := s.plans.inForce.share p a
  let st := stateAt (s.conduct.recs.get a).score
  y.allowance = 0 ∧ y.issued = 0 ∧ y.lastFloor = x.epochFloor ∧
  y.cumAllocated = x.cumAllocated + BitVec.ofNat 64 x.allowance ∧
  y.cumIssued = x.cumIssued + BitVec.ofNat 64 x.issued ∧
  y.cumUsed = x.cumUsed ∧ y.cumExpiries = x.cumExpiries + BitVec.ofNat 32 (expiring b.table b.values.life a) ∧
  y.ramp = x.ramp ∧
  y.credit = (match share with
    | none => 0
    | some sh => creditAfterClose st b.served x.issued x.epochFloor x.claim x.credit sh.burst) ∧
  (¬rests → y.lastNet = x.issued ∧
    if b.served = true ∧ share.isSome = true ∧ st ≠ .cutOff ∧ 0 < x.demand ∧ x.issued < min x.epochFloor x.demand then
      y.starved = min 63 (x.starved + 1) ∧ y.reported = x.reported
    else y.starved = 0 ∧ y.reported = false)

theorem cellClosed_examined (s : State) (p : Port) (e : Epoch) (rests : Prop) (a : Account) :
    cellClosed s p rests ((examinedPort s p e).cells.get a) a := by
  have hcell := examinedPort_cell s p e a
  dsimp only at hcell
  rw [hcell]
  refine ⟨rfl, rfl, rfl, rfl, rfl, rfl, rfl, rfl, rfl, fun _ => ⟨rfl, ?_⟩⟩
  dsimp only
  simp only [← Cell.starves_iff]
  split
  next h => simp only [h, Bool.true_and, and_self]
  next h => simp only [Bool.eq_false_of_not_eq_true h, Bool.false_and, and_self]

theorem portAtRest_cell (b : PortBlock) (a : Account) : (portAtRest b).cells.get a = { b.cells.get a with
    cumAllocated := (b.cells.get a).cumAllocated + BitVec.ofNat 64 (b.cells.get a).allowance
    cumIssued := (b.cells.get a).cumIssued + BitVec.ofNat 64 (b.cells.get a).issued
    lastFloor := (b.cells.get a).epochFloor, lastNet := (b.cells.get a).issued, allowance := 0, issued := 0, starved := 0
    reported := false } := Tab.get_ofFn _ a

/-- The entry to STANDBY that follows settles the cell again, with nothing allowed and nothing issued (R43). -/
theorem cellClosed_rested (s : State) (p : Port) (e : Epoch) {rests : Prop} (hr : rests) (a : Account) :
    let y := (examinedPort s p e).cells.get a
    cellClosed s p rests { y with
      cumAllocated := y.cumAllocated + BitVec.ofNat 64 y.allowance
      cumIssued := y.cumIssued + BitVec.ofNat 64 y.issued
      lastFloor := y.epochFloor, lastNet := y.issued, allowance := 0, issued := 0, starved := 0, reported := false } a := by
  have hcell := examinedPort_cell s p e a
  dsimp only at hcell
  intro y
  have hy : y = _ := hcell
  rw [hy]
  exact ⟨rfl, rfl, rfl, BitVec.add_zero _, BitVec.add_zero _, rfl, rfl, rfl, rfl, fun hn => absurd hr hn⟩

/-- A part of O30's statement: what the close leaves of a port that stays in service of its grants. -/
theorem UncutClose.stays {s w : State} {p : Port} {e : Epoch} {rest : List Epoch} (h : UncutClose s w p e)
    (hm : (s.ports.get p).mode ≠ .standby) :
    let b := s.ports.get p
    let c := (s.closeDone w p rest).ports.get p
    c.closeOwed = rest ∧ c.allocDue = true ∧ c.mode = (if b.mode = .draining then .draining else .allocating) ∧
      c.filter = b.filter.sample (s.plans.inForce.ports.get p).depth ∧ c.queues = b.queues ∧
      (∀ l a, c.list l a = b.list l a) ∧ c.values = b.values ∧ c.deferred = b.deferred := by
  intro b c
  have hc : c = _ := h.done_port
  rw [hc]
  refine ⟨rfl, rfl, ?_, rfl, rfl, fun l a => by cases l <;> rfl, rfl, rfl⟩
  dsimp only
  cases hb : b.mode with
  | standby => exact absurd hb hm
  | _ => rfl

/-- Settles O30. In general the stages follow one another (`State.stageFour_inTurn`, `State.closeDone_ended`); where no
expiry cuts an account off, `UncutClose` says what stage 4 leaves. -/
theorem portCloseSettlesTheEpoch : Obligations.PortCloseSettlesTheEpoch := by
  intro s p exams e rest ho hf hm b named
  have hexec := execPortClose_eq (exams := exams) ⟨ho, hf, hm⟩
  refine ⟨⟨s.stageFour p exams e, _, hexec, s.closeDone_ended _ p rest, s.stageFour_inTurn p exams e⟩, ?_⟩
  intro hn hlife k table rests hsafe
  have hun : UncutClose s (s.stageFour p exams e) p e :=
    State.stageFour_uncut ⟨hn, fun _ _ => hlife, hsafe⟩ exams e
  generalize hw : s.stageFour p exams e = w at hexec hun
  clear hw
  obtain ⟨hlink, htimer, hplans, hwin, hconduct, hnotices, hlapsed⟩ := hun.done_rest (rest := rest)
  have hport := hun.done_port (rest := rest)
  have hrests : _ ↔ rests := hun.drained_iff (rest := rest)
  have hrecs (a : Account) : (s.closeDone w p rest).conduct.recs.get a =
      (s.conduct.recs.get a).afterExpiries (k a) := by rw [hconduct]; exact hun.recs a
  by_cases hr : rests
  · obtain ⟨hdm, hdt⟩ := hrests.2 hr
    have hquiet := hun.quiet (expiring_of_aged_nil hr.2)
    obtain ⟨x, y, z, hc⟩ := (s.closeDone w p rest).enterStandby_port p
    obtain ⟨hepoch, hinForce⟩ := (s.closeDone w p rest).enterStandby_epoch p
    rw [State.restIfDrained_of hdm hdt] at hexec
    have hslots := slotsTaken_congr (State.enterStandby_slotsTaken hdm) (hnotices.trans (congrArg MemSide.notices hquiet))
      (hlapsed.trans (congrArg MemSide.lapsed hquiet)) htimer hplans (by rw [hport]; rfl)
      fun q hq => by rw [hun.done_others q hq]
    refine ⟨_, hexec, ?_⟩
    dsimp only
    rw [hc, hport]
    refine ⟨rfl, rfl, rfl, rfl, rfl, rfl, fun a => ?_, fun a => ?_, fun hn => absurd hr hn, fun _ => ⟨rfl, fun l a => ?_,
      fun q => ?_, fun a => ?_, rfl, rfl, rfl, fun hlt => ?_, fun _ => hslots, fun q hq => ?_⟩, ?_, ?_, ?_⟩
    · show cellClosed s p rests ((portAtRest _).cells.get a) a
      rw [portAtRest_cell]
      exact cellClosed_rested s p e hr a
    · rw [State.enterStandby_conduct, hrecs]
      rfl
    · cases l <;> exact Tab.get_fill _ _
    · exact Tab.get_ofFn _ _
    · simp only [portAtRest, Tab.get_ofFn, and_self]
    · have hfirst := State.enterStandby_first_notice hdm (by rw [hnotices, hquiet]; exact hlt)
      rwa [hnotices, hquiet, htimer] at hfirst
    · rw [State.enterStandby_ports_mode, if_neg (Ne.symm hq), hun.done_others q hq]
    · rw [State.enterStandby_link, hlink]
    · rw [hepoch, htimer]
    · rw [hinForce, hplans]
  · rw [State.restIfDrained_of_not fun hc => hr (hrests.1 hc)] at hexec
    obtain ⟨hco, had, hmode, hfilter, hqueues, hlists, hvalues, hdef⟩ := hun.stays (rest := rest) hm
    refine ⟨_, hexec, ?_⟩
    dsimp only
    refine ⟨by rw [hport]; rfl, by rw [hport]; rfl, by rw [hport], by rw [hport], by rw [hport], by rw [hport],
      fun a => ?_, fun a => (hrecs a).trans rfl, fun _ => ⟨hco, had, hmode, hfilter, hqueues, hlists, hvalues, hdef,
        hnotices ▸ hun.notices, fun hk => ?_, htimer, hwin, hun.done_others⟩, fun h => absurd h hr, hlink,
      by rw [htimer], by rw [hplans]⟩
    · rw [hport]
      exact cellClosed_examined s p e rests a
    · rw [hnotices, hun.quiet hk]

/-! ### The report of the close -/

theorem reportHanded_slots {m : MemSide} (p : Port) (r : Report) :
    (¬reportBeingWritten m p → (reportHanded m p r).slots.get p =
      { held := some (mergedInto (m.slots.get p).held r), waiting := (m.slots.get p).waiting }) ∧
    (reportBeingWritten m p → (reportHanded m p r).slots.get p =
      { held := (m.slots.get p).held, waiting := some (mergedInto (m.slots.get p).waiting r) }) ∧
    ∀ q, q ≠ p → (reportHanded m p r).slots.get q = m.slots.get q := by
  refine ⟨fun h => ?_, fun h => ?_, fun q hq => ?_⟩
  · rw [reportHanded, Tab.get_set_self, if_neg h]
  · rw [reportHanded, Tab.get_set_self, if_pos h]
  · rw [reportHanded, Tab.get_set, if_neg hq.symm]

/-- The report of a close that cuts no account off, field by field (R23, R60, R61). -/
theorem closeReport_fields (s : State) (p : Port) (e : Epoch) (level : Level) :
    let b := s.ports.get p
    let r := epochReport p b (examinedPort s p e) (examinedPort s p e).mode level
    r.port = p ∧ r.mode = b.mode ∧ r.firstEpoch = b.openEpoch ∧ r.covered = 1 ∧ r.accepted = level ∧
      r.effective = min b.totals.effective 4294967295 ∧ r.allocated = min (b.sumCells Cell.allowance) 4294967295 ∧
      r.issuedNet = min (b.sumCells Cell.issued) 4294967295 ∧
      r.idle = min (b.totals.effective - b.sumCells Cell.allowance) 4294967295 ∧
      r.used = b.counts.used ∧ r.overrun = b.counts.overrun ∧
      r.expiries = raisedBy b.counts.expiries ((List.finRange 48).map (expiring b.table b.values.life)).sum ∧
      r.late = b.counts.late ∧ r.stray = b.counts.stray ∧ r.refused = b.refused := by
  intro b r
  have hcounts : (examinedPort s p e).counts = { b.counts with
    expiries := raisedBy b.counts.expiries ((List.finRange 48).map (expiring b.table b.values.life)).sum } := rfl
  have hr : r = epochReport p b (examinedPort s p e) (examinedPort s p e).mode level := rfl
  clear_value r
  rw [PortBlock.sumCells_finRange, PortBlock.sumCells_finRange, hr]
  unfold epochReport
  dsimp only
  rw [hcounts]
  dsimp only
  exact ⟨rfl, rfl, rfl, rfl, rfl, rfl, rfl, rfl, rfl, rfl, rfl, rfl, rfl, rfl, rfl⟩

/-- Settles O31: the report is formed of the port as stage 4 leaves it, and no other report follows. -/
theorem closeHandsOverItsReport : Obligations.CloseHandsOverItsReport := by
  intro s p exams e rest ho hf hm b old k expiries hsound hsafe hstays
  have hexec := execPortClose_eq (exams := exams) ⟨ho, hf, hm⟩
  have huncut : s.closesUncut p := by
    obtain hnil | ⟨hn, hlife⟩ := hsound
    · exact ⟨by rw [show (s.ports.get p).table = [] from hnil]; exact List.nodup_nil,
        (fun x hx => by rw [show (s.ports.get p).table = [] from hnil] at hx; cases hx), hsafe⟩
    · exact ⟨hn, fun _ _ => hlife, hsafe⟩
  have hun := State.stageFour_uncut huncut exams e
  generalize hw : s.stageFour p exams e = w at hexec hun
  clear hw
  rw [State.restIfDrained_of_not fun hc => hstays (hun.drained_iff.1 hc)] at hexec
  have hslots : w.mem.slots = s.mem.slots := (congrArg (fun x => x.mem.slots) hun.rest :)
  have hwriting : reportBeingWritten w.mem p = reportBeingWritten s.mem p :=
    (congrArg (fun x => reportBeingWritten x.mem p) hun.rest :)
  obtain ⟨r, hr⟩ : ∃ r, r = epochReport p (s.ports.get p) (w.ports.get p) (w.ports.get p).mode
    ((w.ports.get p).filter.sample (s.plans.inForce.ports.get p).depth).accepted := ⟨_, rfl⟩
  have hmem : (s.closeDone w p rest).mem = reportHanded w.mem p r := by rw [hr]; rfl
  have haccepted : r.accepted = ((s.closeDone w p rest).ports.get p).filter.accepted := by
    rw [hr, State.closeDone_port]
    rfl
  obtain ⟨hplaced, hmerged, hothers⟩ := reportHanded_slots (m := w.mem) p r
  rw [hslots, hwriting, ← hmem] at hplaced hmerged
  refine ⟨_, r, hexec, hplaced, hmerged, fun q hq => by rw [hmem, hothers q hq, hslots], ?_⟩
  rw [hun.port] at hr
  obtain ⟨h1, h2, h3, h4, -, h5, h6, h7, h8, h9, h10, h11, h12, h13, h14⟩ := closeReport_fields s p e
    ((examinedPort s p e).filter.sample (s.plans.inForce.ports.get p).depth).accepted
  rw [← hr] at h1 h2 h3 h4 h5 h6 h7 h8 h9 h10 h11 h12 h13 h14
  exact ⟨h1, h2, h3, h4, haccepted, h5, h6, h7, h8, fun (hmax : (s.ports.get p).totals.effective ≤ _)
    (hle : (s.ports.get p).sumCells Cell.allowance ≤ (s.ports.get p).totals.effective) => by rw [h5, h6, h8]; omega, h9, h10, h11, h12, h13, h14⟩

end Sys2Proof.Machine
end

section
/-! PROOF. The reads of a plan fetch (R131 to R137, R165). -/

namespace Sys2Proof.Machine

/-! ### How a read ends a fetch (R134, R165) -/

section
variable {f : Fetch} {bytes : List Byte}

theorem Fetch.endWith_first (hd : f.data = []) (hlen : bytes.length = 144) :
    f.endWith bytes = (firstReadFault f.gen bytes).map fun x => .refused (planTag bytes) x := by
  have hnext : bytes.length = nextReadLength f.data := by rw [hd, hlen]; rfl
  rw [Fetch.endWith, if_neg (not_not.2 hnext), if_pos hd]

theorem nextReadLength_tail {b : List Byte} (h : 144 ≤ b.length) (ht : planTailOffset b ≤ b.length) :
    nextReadLength b = 4 := by
  have hentries : 144 + 24 * planEntryCount b ≤ planTailOffset b := Nat.le_add_right _ _
  rw [nextReadLength, if_neg (by omega), if_neg (by omega), if_neg (by omega)]

theorem nextReadLength_middle {b : List Byte} (h : 144 ≤ b.length) (ht : b.length < planTailOffset b) :
    nextReadLength b =
      if b.length < 144 + 24 * planEntryCount b then 24 * planEntryCount b else 16 * planRuleCount b := by
  rw [nextReadLength, if_neg (by omega)]
  simp only [if_pos ht]

theorem Fetch.endWith_middle (hlong : 144 ≤ f.data.length) (ht : f.data.length < planTailOffset f.data) :
    f.endWith bytes = none := by
  have hdata : f.data ≠ [] := fun h => by rw [h] at hlong; simp at hlong
  have htail : f.atTail = false := by simp [Fetch.atTail, ht]
  unfold Fetch.endWith
  rw [if_neg hdata, htail]
  split <;> rfl

theorem Fetch.endWith_tail (hlong : 144 ≤ f.data.length) (ht : planTailOffset f.data ≤ f.data.length)
    (hlen : bytes.length = 4) : f.endWith bytes =
      match planFault f.data (BitVec.ofNat 32 (field bytes 0 4)) with
      | some x => some (.refused (planTag f.data) x)
      | none => some (.passed (readPlan f.data).clamped) := by
  have hdata : f.data ≠ [] := fun h => by rw [h] at hlong; simp at hlong
  have htail : f.atTail = true := by simp [Fetch.atTail, hlong, ht]
  refine (if_neg (not_not.2 (hlen.trans (nextReadLength_tail hlong ht).symm))).trans
    ((if_neg hdata).trans ((if_pos htail).trans ?_))
  cases planFault f.data (BitVec.ofNat 32 (field bytes 0 4)) <;> rfl

theorem firstReadFault_torn {gen : Word32} (h : BitVec.ofNat 32 (field bytes 0 4) ≠ gen) :
    firstReadFault gen bytes = some .torn := if_pos h

theorem countsInRange_iff (b : List Byte) : countsInRange b = true ↔ field b 136 2 ≤ 192 ∧ field b 138 2 ≤ 24 := by
  rw [countsInRange, Bool.and_eq_true, decide_eq_true_eq, decide_eq_true_eq]
  rfl

theorem firstReadFault_count {gen : Word32} (h : BitVec.ofNat 32 (field bytes 0 4) = gen)
    (hc : 192 < field bytes 136 2 ∨ 24 < field bytes 138 2) : firstReadFault gen bytes = some .count := by
  have hlead : planLead bytes = gen := h
  rw [firstReadFault, if_neg (not_not.2 hlead), if_neg fun hr => ?_]
  obtain ⟨he, hr⟩ := (countsInRange_iff bytes).1 hr
  omega

theorem firstReadFault_none {gen : Word32} (h : BitVec.ofNat 32 (field bytes 0 4) = gen)
    (he : field bytes 136 2 ≤ 192) (hr : field bytes 138 2 ≤ 24) : firstReadFault gen bytes = none := by
  have hlead : planLead bytes = gen := h
  rw [firstReadFault, if_neg (not_not.2 hlead), if_pos ((countsInRange_iff bytes).2 ⟨he, hr⟩)]

end

/-! ### The two commands -/

section
variable {s : State} {f : Fetch} {bytes : List Byte}

theorem exec_planReadComplete_kept (hf : s.plans.fetch = some f) (hlen : bytes.length = nextReadLength f.data)
    (he : f.endWith bytes = none) : exec (.planReadComplete bytes) s =
      .next { s with plans := { s.plans with fetch := some { f with data := f.data ++ bytes } } } := by
  change execPlanReadComplete bytes s = _
  simp only [execPlanReadComplete, hf, if_pos (And.intro hlen he)]

theorem exec_planFetchComplete_failed (hf : s.plans.fetch = some f) :
    exec (.planFetchComplete .failed) s = .next (s.finishFetch f (.refused f.tagRead .fetchFailed)) := by
  change execPlanFetchComplete .failed s = _
  simp only [execPlanFetchComplete, hf]

theorem exec_planFetchComplete_data {e : FetchEnd} (hf : s.plans.fetch = some f) (he : f.endWith bytes = some e) :
    exec (.planFetchComplete (.data bytes)) s = .next (s.finishFetch f e) := by
  change execPlanFetchComplete (.data bytes) s = _
  simp only [execPlanFetchComplete, hf, he]

/-- The fetch's generation is still wanted, and its plan is refused (R132, R136). -/
theorem State.finishFetch_refused (hw : s.plans.wanted.map Wanted.gen = some f.gen) (tag : Word16) (x : PlanFault) :
    s.finishFetch f (.refused tag x) = { s with
      plans := { s.plans with fetch := none, fetched := f.gen, wanted := none, refused := some f.gen }
      mem := posted s.mem (.planRefused f.gen s.timer.epoch tag x) } := by
  unfold State.finishFetch
  rw [if_pos hw]
  dsimp only
  rw [State.refusePlan, State.post_eq]

theorem State.finishFetch_passed (hw : s.plans.wanted.map Wanted.gen = some f.gen) (pl : Plan) :
    s.finishFetch f (.passed pl) = { s with plans := { s.plans with
      fetch := none, fetched := f.gen, wanted := none, staged := some pl
      owed := s.plans.owed.map fun d => { d with ripe := false } } } := by
  unfold State.finishFetch
  rw [if_pos hw]
  rfl

/-- A fetch whose generation is no longer wanted is dropped (R132). -/
theorem State.finishFetch_unwanted (hw : s.plans.wanted = none) (r : FetchEnd) :
    s.finishFetch f r = { s with plans := { s.plans with fetch := none, fetched := f.gen } } := by
  unfold State.finishFetch
  rw [if_neg (by rw [hw]; exact fun h => by cases h)]
  simp only [hw]

theorem State.finishFetch_superseded {w : Wanted} (hw : s.plans.wanted = some w) (hg : w.gen ≠ f.gen) (r : FetchEnd) :
    s.finishFetch f r = State.startFetch { s with plans := { s.plans with fetch := none, fetched := f.gen } } w := by
  unfold State.finishFetch
  rw [if_neg (by rw [hw]; exact fun h => hg (Option.some.inj h))]
  simp only [hw]

/-- What ends a fetch of 13.4 ends the plan unit's fetch: a failed read, a first read with a fault, or the tail's read. -/
theorem exec_planFetchComplete_ends (hf : s.plans.fetch = some f) {r : PlanRead} (h : r = .failed ∨ r = .data bytes ∧
    (f.data = [] ∧ bytes.length = 144 ∧
        (BitVec.ofNat 32 (field bytes 0 4) ≠ f.gen ∨ 192 < field bytes 136 2 ∨ 24 < field bytes 138 2) ∨
      144 ≤ f.data.length ∧ planTailOffset f.data ≤ f.data.length ∧ bytes.length = 4)) :
    ∃ e, exec (.planFetchComplete r) s = .next (s.finishFetch f e) := by
  obtain rfl | ⟨rfl, ⟨hd, hlen, hfault⟩ | ⟨hlong, ht, hlen⟩⟩ := h
  · exact ⟨_, exec_planFetchComplete_failed hf⟩
  · have hfirst : ∃ x, firstReadFault f.gen bytes = some x := by
      by_cases hg : BitVec.ofNat 32 (field bytes 0 4) = f.gen
      · exact ⟨_, firstReadFault_count hg (hfault.resolve_left (not_not.2 hg))⟩
      · exact ⟨_, firstReadFault_torn hg⟩
    obtain ⟨x, hx⟩ := hfirst
    exact ⟨_, exec_planFetchComplete_data hf (by rw [Fetch.endWith_first hd hlen, hx]; rfl)⟩
  · have hend := Fetch.endWith_tail (f := f) hlong ht hlen
    cases hp : planFault f.data (BitVec.ofNat 32 (field bytes 0 4)) <;> rw [hp] at hend <;>
      exact ⟨_, exec_planFetchComplete_data hf hend⟩

end

/-- Settles O43, by what the read shows of the plan and by what is still wanted. -/
theorem planFetchIsStagedOrRefused : Obligations.PlanFetchIsStagedOrRefused := by
  intro s f bytes hf ended ends
  refine ⟨fun hd hlen hg he hr => ?_, fun hlong ht hlen => ?_, fun hw => ⟨fun w hd hlen htag => ⟨fun hg => ?_, fun hg hc => ?_⟩,
    fun hlong ht hlen => ⟨fun x hx => ?_, fun hx => ?_⟩, ?_⟩, fun hw r hr => ?_, fun w r hw hg hr => ?_⟩
  · have hkept := exec_planReadComplete_kept hf (hlen.trans (by rw [hd]; rfl))
      (by rw [Fetch.endWith_first hd hlen, firstReadFault_none hg he hr, Option.map_none])
    rwa [hd, List.nil_append] at hkept
  · exact exec_planReadComplete_kept hf (hlen.trans (nextReadLength_middle hlong ht).symm) (Fetch.endWith_middle hlong ht)
  · rw [exec_planFetchComplete_data hf (by rw [Fetch.endWith_first hd hlen, firstReadFault_torn hg]; rfl),
      State.finishFetch_refused hw, htag]
    rfl
  · rw [exec_planFetchComplete_data hf (by rw [Fetch.endWith_first hd hlen, firstReadFault_count hg hc]; rfl),
      State.finishFetch_refused hw, htag]
    rfl
  · rw [exec_planFetchComplete_data hf (by rw [Fetch.endWith_tail hlong ht hlen, hx]), State.finishFetch_refused hw]
    rfl
  · rw [exec_planFetchComplete_data hf (by rw [Fetch.endWith_tail hlong ht hlen, hx]), State.finishFetch_passed hw]
  · rw [exec_planFetchComplete_failed hf, State.finishFetch_refused hw]
    rfl
  · obtain ⟨e, he⟩ := exec_planFetchComplete_ends hf hr
    rw [he, State.finishFetch_unwanted hw]
  · obtain ⟨e, he⟩ := exec_planFetchComplete_ends hf hr
    rw [he, State.finishFetch_superseded hw hg]
    have hbad := badPlanAddress_iff w.addr
    refine ⟨fun ha => ?_, fun ha => ?_⟩
    · rw [State.startFetch_of_good (Bool.eq_false_of_not_eq_true fun hc => hbad.1 hc ha)]
    · rw [State.startFetch_of_bad (hbad.2 (by omega))]

end Sys2Proof.Machine
end

section
/-! PROOF. The checks of a plan and the values read from it (R134, R135, 13.4). -/

namespace Sys2Proof.Machine

/-! ### The records of a plan by their offsets (13.4) -/

theorem field_portRecordAt (b : List Byte) (p : Nat) {off size : Nat} (h : off + size ≤ 16) :
    field (portRecordAt b p) off size = field b (24 + 16 * p + off) size := field_of_part b _ _ _ _ h

theorem field_shareAt (b : List Byte) (i : Nat) {off size : Nat} (h : off + size ≤ 24) :
    field (shareAt b i) off size = field b (144 + 24 * i + off) size := field_of_part b _ _ _ _ h

theorem field_ruleAt (b : List Byte) (i : Nat) {off size : Nat} (h : off + size ≤ 16) :
    field (ruleAt b i) off size = field b (144 + 24 * field b 136 2 + 16 * i + off) size := field_of_part b _ _ _ _ h

/-! ### The checks (R134) -/

theorem any_range_iff {n : Nat} {f : Nat → Bool} {P : Nat → Prop} (h : ∀ i, f i = true ↔ P i) :
    (List.range n).any f = true ↔ ∃ i < n, P i := by
  simp only [List.any_eq_true, List.mem_range, h]

theorem indexFault_iff (b : List Byte) : indexFault b = true ↔ indexFaulty b := by
  have hport := any_range_iff (n := 4) (f := fun p => decide (1 < field (portRecordAt b p) 1 1))
    (P := fun p => 1 < field b (25 + 16 * p) 1) fun p => by
      rw [decide_eq_true_eq, field_portRecordAt b p (by decide), show 24 + 16 * p + 1 = 25 + 16 * p by omega]
  have hshare := any_range_iff (n := planEntryCount b)
    (f := fun i => decide (47 < field (shareAt b i) 0 1) || decide (3 < field (shareAt b i) 1 1))
    (P := fun i => 47 < field b (144 + 24 * i) 1 ∨ 3 < field b (145 + 24 * i) 1) fun i => by
      rw [Bool.or_eq_true, decide_eq_true_eq, decide_eq_true_eq, field_shareAt b i (by decide),
        field_shareAt b i (by decide), Nat.add_zero, show 144 + 24 * i + 1 = 145 + 24 * i by omega]
  have hrule := any_range_iff (n := planRuleCount b)
    (f := fun i => decide (15 < field (ruleAt b i) 8 1) || decide (47 < field (ruleAt b i) 9 1)
      || decide (2 < field (ruleAt b i) 10 1))
    (P := fun i => let rule := 144 + 24 * field b 136 2 + 16 * i
      15 < field b (rule + 8) 1 ∨ 47 < field b (rule + 9) 1 ∨ 2 < field b (rule + 10) 1) fun i => by
      simp only [Bool.or_eq_true, decide_eq_true_eq, or_assoc, field_ruleAt b i (show 8 + 1 ≤ 16 by decide),
        field_ruleAt b i (show 9 + 1 ≤ 16 by decide), field_ruleAt b i (show 10 + 1 ≤ 16 by decide)]
  unfold indexFault indexFaulty
  rw [Bool.or_eq_true, Bool.or_eq_true, Bool.or_eq_true, decide_eq_true_eq, hport, hshare, hrule, or_assoc, or_assoc]
  rfl

/-- Two share entries of a plan without a code out of its table name one cell exactly where their bytes do. -/
theorem readShare_cell_eq_iff {b : List Byte} (h : ¬indexFaulty b) {i j : Nat} (hi : i < field b 136 2)
    (hj : j < field b 136 2) :
    ((readShare (shareAt b i)).account, (readShare (shareAt b i)).port) =
      ((readShare (shareAt b j)).account, (readShare (shareAt b j)).port) ↔
    field b (144 + 24 * i) 1 = field b (144 + 24 * j) 1 ∧ field b (145 + 24 * i) 1 = field b (145 + 24 * j) 1 := by
  have hcodes (k : Nat) (hk : k < field b 136 2) : field b (144 + 24 * k) 1 < 48 ∧ field b (145 + 24 * k) 1 < 4 := by
    by_contra hc
    exact h (.inr (.inr (.inl ⟨k, hk, by omega⟩)))
  have hread (k : Nat) : (readShare (shareAt b k)).account = Fin.ofNat 48 (field b (144 + 24 * k) 1) ∧
      (readShare (shareAt b k)).port = Fin.ofNat 4 (field b (145 + 24 * k) 1) := by
    constructor
    · exact congrArg (Fin.ofNat 48) (field_shareAt b k (by decide))
    · exact congrArg (Fin.ofNat 4) ((field_shareAt b k (by decide)).trans
        (by rw [show 144 + 24 * k + 1 = 145 + 24 * k by omega]))
  obtain ⟨hi1, hi2⟩ := hcodes i hi
  obtain ⟨hj1, hj2⟩ := hcodes j hj
  rw [(hread i).1, (hread i).2, (hread j).1, (hread j).2, Prod.mk.injEq, Fin.ext_iff, Fin.ext_iff]
  simp only [Fin.ofNat, Nat.mod_eq_of_lt hi1, Nat.mod_eq_of_lt hi2, Nat.mod_eq_of_lt hj1, Nat.mod_eq_of_lt hj2]

theorem duplicateCell_iff {b : List Byte} (h : ¬indexFaulty b) :
    duplicateCell (readPlan b) = true ↔ duplicateFaulty b := by
  have hshares : (readPlan b).shares.map (fun e => (e.account, e.port)) =
      (List.range (field b 136 2)).map fun i => ((readShare (shareAt b i)).account, (readShare (shareAt b i)).port) :=
    List.map_map
  unfold duplicateCell duplicateFaulty
  rw [decide_eq_true_eq, hshares, List.nodup_map_iff_inj_on List.nodup_range]
  constructor
  · intro hn
    push Not at hn
    obtain ⟨i, hi, j, hj, heq, hne⟩ := hn
    rw [List.mem_range] at hi hj
    have hbytes := (readShare_cell_eq_iff h hi hj).1 heq
    rcases Nat.lt_or_gt_of_ne hne with hlt | hgt
    · exact ⟨j, hj, i, hlt, hbytes⟩
    · exact ⟨i, hi, j, hgt, hbytes.1.symm, hbytes.2.symm⟩
  · rintro ⟨j, hj, i, hlt, hbytes⟩ hinj
    exact absurd (hinj i (List.mem_range.2 (hlt.trans hj)) j (List.mem_range.2 hj)
      ((readShare_cell_eq_iff h (hlt.trans hj) hj).2 hbytes)) (Nat.ne_of_lt hlt)

theorem readPlan_port (b : List Byte) (p : Port) : (readPlan b).ports.get p = readPortRecord (portRecordAt b p.val) :=
  Tab.get_ofFn _ p

theorem capacityZero_iff (b : List Byte) : capacityZero (readPlan b) = true ↔ capacityFaulty b := by
  have hrecord (p : Port) : (((readPlan b).ports.get p).inService = true ∧ ((readPlan b).ports.get p).cnom = 0) ↔
      field b (24 + 16 * p.val) 1 % 2 = 1 ∧ field b (28 + 16 * p.val) 3 = 0 := by
    rw [readPlan_port]
    simp only [readPortRecord, field24, decide_eq_true_eq, field_portRecordAt b p.val (show 0 + 1 ≤ 16 by decide),
      field_portRecordAt b p.val (show 4 + 3 ≤ 16 by decide), Nat.add_zero]
    rw [show 24 + 16 * p.val + 4 = 28 + 16 * p.val by omega]
  unfold capacityZero capacityFaulty
  rw [Tab.cells_eq, List.any_map, List.any_eq_true]
  simp only [Function.comp_apply, Bool.and_eq_true, decide_eq_true_eq, hrecord, List.mem_finRange, true_and]
  exact ⟨fun ⟨p, hp⟩ => ⟨p.val, p.isLt, hp⟩, fun ⟨p, hlt, hp⟩ => ⟨⟨p, hlt⟩, hp⟩⟩

theorem capacityZero_of_port {pl : Plan} {p : Port} (hs : (pl.ports.get p).inService = true)
    (hc : (pl.ports.get p).cnom = 0) : capacityZero pl = true := by
  rw [capacityZero, Tab.cells_eq, List.any_map, List.any_eq_true]
  exact ⟨p, List.mem_finRange p, by simp [hs, hc]⟩

/-- A plan that passes carries its tail generation, and no port in service has Cnom 0 (R134). -/
theorem planFault_none {b : List Byte} {tail : Word32} (h : planFault b tail = none) :
    tail = planLead b ∧ capacityZero (readPlan b) = false := by
  unfold planFault at h
  split at h
  · cases h
  next hlead =>
    refine ⟨not_not.1 hlead, Bool.eq_false_of_not_eq_true fun hc => ?_⟩
    rw [hc] at h
    split at h
    · cases h
    · split at h <;> cases h

/-! ### The values brought into range (R135) -/

/-- A value is counted where bringing it into its range changes it. -/
theorem clampCount_eq {lo hi : Nat} (h : lo ≤ hi) (v : Nat) :
    clampCount lo hi v = if lo ≤ v ∧ v ≤ hi then 0 else 1 := by
  have hchanged : clampTo lo hi v ≠ v ↔ ¬(lo ≤ v ∧ v ≤ hi) := by
    unfold clampTo
    omega
  rw [clampCount, bit]
  simp only [decide_eq_true_eq, hchanged, ite_not]

theorem bit_above_eq (hi v : Nat) : bit (decide (hi < v)) = if 0 ≤ v ∧ v ≤ hi then 0 else 1 := by
  rw [bit]
  split
  next h => rw [if_neg (by have := of_decide_eq_true h; omega)]
  next h => rw [if_pos (by have := of_decide_eq_false (Bool.eq_false_of_not_eq_true h); omega)]

theorem readPortRecord_clamped (b : List Byte) (p : Nat) :
    let port (off size : Nat) : Nat := field b (24 + 16 * p + off) size
    let into (lo hi v : Nat) : Nat := max lo (min hi v)
    (readPortRecord (portRecordAt b p)).clamped =
      { inService := decide (port 0 1 % 2 = 1), curve := if port 1 1 = 0 then .linear else .steep
        depth := into 1 4 (port 2 1), life := into 1 15 (port 3 1), cnom := max 1 (port 4 3)
        quantum := into 1 4096 (port 8 2), derate1 := into 0 256 (port 10 2), derate2 := into 0 256 (port 12 2)
        derate3 := into 0 256 (port 14 2) } := by
  simp [readPortRecord, PortRecord.clamped, clampTo, field24, field_portRecordAt]

theorem readPortRecord_clampCount (b : List Byte) (p : Nat) :
    let port (off size : Nat) : Nat := field b (24 + 16 * p + off) size
    let changed (lo hi v : Nat) : Nat := if lo ≤ v ∧ v ≤ hi then 0 else 1
    (readPortRecord (portRecordAt b p)).clampCount = changed 1 4 (port 2 1) + changed 1 15 (port 3 1) +
      (if port 4 3 = 0 then 1 else 0) + changed 1 4096 (port 8 2) + changed 0 256 (port 10 2) +
      changed 0 256 (port 12 2) + changed 0 256 (port 14 2) := by
  intro port changed
  unfold PortRecord.clampCount
  rw [clampCount_eq (by decide), clampCount_eq (by decide), clampCount_eq (by decide), bit_above_eq, bit_above_eq,
    bit_above_eq]
  simp [readPortRecord, bit, field24, field_portRecordAt, port, changed]

theorem readShare_clamped (b : List Byte) (i : Nat) :
    let entry (off size : Nat) : Nat := field b (144 + 24 * i + off) size
    let into (lo hi v : Nat) : Nat := max lo (min hi v)
    (readShare (shareAt b i)).clamped =
      { account := Fin.ofNat 48 (entry 0 1), port := Fin.ofNat 4 (entry 1 1), weight := into 0 4095 (entry 2 2)
        floor := entry 4 3, ceiling := max (entry 4 3) (entry 8 3), burst := entry 12 3, rise := entry 16 1
        fall := entry 17 1 } := by
  simp [readShare, Share.clamped, field24, field_shareAt]

theorem readShare_clampCount (b : List Byte) (i : Nat) :
    let entry (off size : Nat) : Nat := field b (144 + 24 * i + off) size
    let changed (lo hi v : Nat) : Nat := if lo ≤ v ∧ v ≤ hi then 0 else 1
    (readShare (shareAt b i)).clampCount =
      changed 0 4095 (entry 2 2) + if entry 8 3 < entry 4 3 then 1 else 0 := by
  intro entry changed
  rw [Share.clampCount, bit_above_eq 4095, Nat.add_comm]
  simp [readShare, bit, field24, field_shareAt, entry, changed]

theorem readRule_eq (b : List Byte) (i : Nat) :
    let rule (off size : Nat) : Nat := field b (144 + 24 * field b 136 2 + 16 * i + off) size
    readRule (ruleAt b i) =
      { value := BitVec.ofNat 24 (rule 0 3), mask := BitVec.ofNat 24 (rule 4 3)
        ports := Tab.ofFn fun p => (rule 8 1).testBit p.val, account := Fin.ofNat 48 (rule 9 1)
        treatment := match rule 10 1 with | 0 => .asBound | 1 => .urgent | _ => .bulk } := by
  simp only [readRule, field24, field_ruleAt b i (show 0 + 3 ≤ 16 by decide), field_ruleAt b i (show 4 + 3 ≤ 16 by decide),
    field_ruleAt b i (show 8 + 1 ≤ 16 by decide), field_ruleAt b i (show 9 + 1 ≤ 16 by decide),
    field_ruleAt b i (show 10 + 1 ≤ 16 by decide)]
  rfl

/-- The clamp count of a plan as read (R135). -/
theorem readPlan_clampTotal (b : List Byte) : (readPlan b).clampTotal = (planOf b).clamps := by
  have hports : ((readPlan b).ports.cells.map PortRecord.clampCount) =
      (List.range 4).map fun p => (readPortRecord (portRecordAt b p)).clampCount := by
    rw [Tab.cells_eq, List.map_map, ← List.map_coe_finRange_eq_range, List.map_map]
    exact List.map_congr_left fun p _ => congrArg PortRecord.clampCount (readPlan_port b p)
  have hshares : ((readPlan b).shares.map Share.clampCount) =
      (List.range (field b 136 2)).map fun i => (readShare (shareAt b i)).clampCount := List.map_map
  unfold Plan.clampTotal
  rw [hports, hshares, clampCount_eq (by decide), clampCount_eq (by decide), bit_above_eq]
  simp only [readPortRecord_clampCount, readShare_clampCount]
  unfold planOf
  dsimp only [readPlan]
  congr 1
  ac_rfl

theorem roleOfCode_eq (n : Nat) : roleOfCode n = match n with | 0 => SyncRole.alone | 1 => .leader | _ => .follower := rfl

/-- A plan's bytes brought into range are the plan of 13.4's layout (R135). -/
theorem readPlan_clamped_eq (b : List Byte) : (readPlan b).clamped = planOf b := by
  have hports : (readPlan b).ports.map PortRecord.clamped = (planOf b).ports := Tab.ext_get fun p => by
    rw [Tab.get_map, readPlan_port, readPortRecord_clamped]
    unfold planOf
    dsimp only
    rw [Tab.get_ofFn]
  have hshares : (readPlan b).shares.map Share.clamped = (planOf b).shares := by
    show ((List.range (planEntryCount b)).map fun i => readShare (shareAt b i)).map Share.clamped = _
    rw [List.map_map]
    exact List.map_congr_left fun i _ => readShare_clamped b i
  have hrules : (readPlan b).rules = (planOf b).rules := List.map_congr_left fun i _ => readRule_eq b i
  have hscan : min 63 (readPlan b).scanS = (planOf b).scanS := (Nat.zero_max _).symm
  unfold Plan.clamped
  rw [hports, hshares, readPlan_clampTotal, hscan, hrules]
  rfl

/-- Settles O44: each check is its condition on the bytes, and the values are those of the layout. -/
theorem stagedPlansAreInRange : Obligations.StagedPlansAreInRange := by
  intro b tail torn
  have hindex := indexFault_iff b
  have hcapacity := capacityZero_iff b
  refine ⟨fun h => if_pos h, fun (h : ¬tail ≠ planLead b) hi => ?_, fun (h : ¬tail ≠ planLead b) hi hd => ?_,
    fun (h : ¬tail ≠ planLead b) hi hd hc => ?_, fun (h : ¬tail ≠ planLead b) hi hd hc => ?_, fun h => ?_⟩
  · rw [planFault, if_neg h, if_pos (hindex.2 hi)]
  · rw [planFault, if_neg h, if_neg fun hx => hi (hindex.1 hx), if_pos ((duplicateCell_iff hi).2 hd)]
  · rw [planFault, if_neg h, if_neg fun hx => hi (hindex.1 hx), if_neg fun hx => hd ((duplicateCell_iff hi).1 hx),
      if_pos (hcapacity.2 hc)]
  · rw [planFault, if_neg h, if_neg fun hx => hi (hindex.1 hx), if_neg fun hx => hd ((duplicateCell_iff hi).1 hx),
      if_neg fun hx => hc (hcapacity.1 hx)]
  · obtain ⟨hlead, hzero⟩ := planFault_none h
    refine ⟨readPlan_clamped_eq b, clamped_inRange_of_planFault h, fun p hp => Nat.pos_of_ne_zero fun hc => ?_, hlead.symm⟩
    exact absurd (capacityZero_of_port hp hc) (by rw [hzero]; decide)

end Sys2Proof.Machine
end

section
/-! PROOF. The queues of a port under a new plan (R81, R82, R91 to R93). -/

namespace Sys2Proof.Machine

/-! ### One queue (R92, R93) -/

theorem classify_eq_ruleFor (pl : Plan) (p : Port) (x : Queue) : pl.classify p x.source = ruleFor pl p x := rfl

theorem effectiveLane_eq_laneFor (pl : Plan) (r : Rule) (x : Queue) : pl.effectiveLane r x.requested = laneFor pl r x := by
  unfold Plan.effectiveLane laneFor
  cases r.treatment <;> rfl

/-- A queue's entry on a port under a new plan, by the accounts' conduct states. -/
def PortBlock.queueUnder (b : PortBlock) (pl : Plan) (c : Account → Conduct) (p : Port) (q : QueueId) : Queue :=
  reclassified pl (fun a => decide (c a = .cutOff)) p (b.queues.get q)

/-- The queue keeps its place in its list under the new plan. -/
def PortBlock.keepsUnder (b : PortBlock) (pl : Plan) (c : Account → Conduct) (p : Port) (q : QueueId) : Bool :=
  keepsPlace (b.queues.get q) (b.queueUnder pl c p q)

/-- The queue waits under the new plan in a list that it has yet to join. -/
def PortBlock.joinsUnder (b : PortBlock) (pl : Plan) (c : Account → Conduct) (p : Port) (q : QueueId) : Bool :=
  (b.queueUnder pl c p q).bound && (b.queueUnder pl c p q).waiting && !b.keepsUnder pl c p q

/-- The queue is bound, and no rule of the new plan matches it. -/
def PortBlock.refusedUnder (b : PortBlock) (pl : Plan) (p : Port) (q : QueueId) : Bool :=
  (b.queues.get q).bound && (ruleFor pl p (b.queues.get q)).isNone

theorem PortBlock.modQueue_const {b : PortBlock} {q : QueueId} {f : Queue → Queue} {y : Queue}
    (h : f (b.queues.get q) = y) : b.modQueue q f = b.modQueue q fun _ => y := by
  unfold PortBlock.modQueue
  congr 1
  refine Tab.ext_get fun r => ?_
  simp only [Tab.get_modify]
  split
  next hr => exact hr ▸ h
  next => rfl

theorem PortBlock.modQueue_modQueue (b : PortBlock) (q : QueueId) (f g : Queue → Queue) :
    (b.modQueue q f).modQueue q g = b.modQueue q fun x => g (f x) := by
  unfold PortBlock.modQueue
  congr 1
  refine Tab.ext_get fun r => ?_
  simp only [Tab.get_modify]
  split <;> rfl

section
variable (b : PortBlock) (pl : Plan) (c : Account → Conduct) (p : Port) (q : QueueId)

/-- The three things that can come of a queue: it stays as it is, it leaves its list, or it joins the list of its new account
and lane. -/
theorem PortBlock.reclassify_port :
    ((b.reclassify pl c p q).1 = b ∧ b.queueUnder pl c p q = b.queues.get q ∧
      ((b.queues.get q).bound = true → b.keepsUnder pl c p q = true)) ∨
    ((b.reclassify pl c p q).1 = (b.withdraw q).modQueue q (fun _ => b.queueUnder pl c p q) ∧
      b.keepsUnder pl c p q = false ∧ (b.queueSound q → b.joinsUnder pl c p q = false)) ∨
    ((b.reclassify pl c p q).1 = ((b.withdraw q).modQueue q fun _ => b.queueUnder pl c p q).joinList
        (b.queueUnder pl c p q).lane (b.queueUnder pl c p q).account q ∧
      b.keepsUnder pl c p q = false ∧ b.joinsUnder pl c p q = true) := by
  unfold PortBlock.joinsUnder PortBlock.keepsUnder PortBlock.queueUnder
  rw [PortBlock.reclassify]
  dsimp only
  rw [PortBlock.withdraw_eq, PortBlock.unbindQueue_eq, classify_eq_ruleFor]
  by_cases hb : (b.queues.get q).bound = false
  · left
    simp [hb, reclassified]
  · rw [Bool.not_eq_false] at hb
    have hself : (b.withdraw q).queues.get q = b.queues.get q := by rw [PortBlock.withdraw_queues]
    cases hr : ruleFor pl p (b.queues.get q) with
    | none =>
      right; left
      have hy : reclassified pl (fun a => decide (c a = .cutOff)) p (b.queues.get q) =
          { b.queues.get q with bound := false, tally := 0, waiting := false } := by simp [reclassified, hb, hr]
      rw [hy]
      simp only [hb, Bool.true_eq_false, if_false]
      refine ⟨PortBlock.modQueue_const ?_, ?_, fun _ => ?_⟩
      · rw [hself]; rfl
      · rfl
      · rfl
    | some r =>
      simp only [hb, Bool.true_eq_false, if_false, effectiveLane_eq_laneFor]
      by_cases hsame : r.account = (b.queues.get q).account ∧ laneFor pl r (b.queues.get q) = (b.queues.get q).lane
      · left
        simp [reclassified, keepsPlace, hb, hr, hsame]
      · right
        by_cases ht : (b.queues.get q).tally = 0
        · left
          have hy : reclassified pl (fun a => decide (c a = .cutOff)) p (b.queues.get q) =
              { b.queues.get q with account := r.account, lane := laneFor pl r (b.queues.get q) } := by
            simp [reclassified, hb, hr, hsame, ht]
          rw [hy, if_neg hsame, if_pos ht]
          refine ⟨PortBlock.modQueue_const (by rw [hself]), by simpa [keepsPlace, hb] using hsame, fun hs => ?_⟩
          have hw : (b.queues.get q).waiting = false := by rw [hs.waits, ht]; rfl
          simp [hw]
        · by_cases hc : c r.account = .cutOff
          · left
            have hy : reclassified pl (fun a => decide (c a = .cutOff)) p (b.queues.get q) =
                { b.queues.get q with
                  account := r.account, lane := laneFor pl r (b.queues.get q), tally := 0, waiting := false } := by
              simp [reclassified, hb, hr, hsame, ht, hc]
            rw [hy, if_neg hsame, if_neg ht, if_pos hc, PortBlock.modQueue_modQueue]
            refine ⟨PortBlock.modQueue_const (by rw [hself]; rfl), by simpa [keepsPlace, hb] using hsame, fun _ => ?_⟩
            simp
          · right
            have hy : reclassified pl (fun a => decide (c a = .cutOff)) p (b.queues.get q) =
                { b.queues.get q with
                  account := r.account, lane := laneFor pl r (b.queues.get q), waiting := true } := by
              simp [reclassified, hb, hr, hsame, ht, hc]
            rw [hy, if_neg hsame, if_neg ht, if_neg hc, PortBlock.modQueue_modQueue]
            have hkeeps : keepsPlace (b.queues.get q) { b.queues.get q with
                account := r.account, lane := laneFor pl r (b.queues.get q), waiting := true } = false := by
              simpa [keepsPlace, hb] using hsame
            refine ⟨congrArg (PortBlock.joinList · _ _ q) (PortBlock.modQueue_const (by rw [hself])), hkeeps, ?_⟩
            rw [hkeeps]
            simp [hb]

theorem PortBlock.reclassify_messages : (b.reclassify pl c p q).2 =
    if b.refusedUnder pl p q then [OutMsg.refuse p q .unclassified] else [] := by
  unfold PortBlock.refusedUnder
  rw [PortBlock.reclassify]
  dsimp only
  rw [classify_eq_ruleFor]
  by_cases hb : (b.queues.get q).bound = false
  · simp [hb]
  · rw [Bool.not_eq_false] at hb
    cases hr : ruleFor pl p (b.queues.get q) with
    | none => simp [hb]
    | some r =>
      simp only [hb, Bool.true_eq_false, if_false, Option.isNone_some, Bool.and_false]
      split
      · rfl
      · split
        · rfl
        · split <;> rfl

theorem PortBlock.reclassify_queue (r : QueueId) : (b.reclassify pl c p q).1.queues.get r =
    if q = r then b.queueUnder pl c p q else b.queues.get r := by
  rcases b.reclassify_port pl c p q with ⟨e, hy, -⟩ | ⟨e, -, -⟩ | ⟨e, -, -⟩
  · rw [e]
    split
    next hr => rw [← hr, hy]
    next => rfl
  · rw [e, PortBlock.modQueue_get, PortBlock.withdraw_queues]
  · rw [e, PortBlock.joinList_queues, PortBlock.modQueue_get, PortBlock.withdraw_queues]

variable {b q} in
theorem PortBlock.reclassify_list (h : b.queueSound q) (l : Lane) (a : Account) :
    (b.reclassify pl c p q).1.list l a =
      (if b.keepsUnder pl c p q then b.list l a else (b.list l a).filter (· ≠ q)) ++
        if b.joinsUnder pl c p q = true ∧ (b.queueUnder pl c p q).account = a ∧ (b.queueUnder pl c p q).lane = l then [q]
        else [] := by
  rcases b.reclassify_port pl c p q with ⟨e, hy, hk⟩ | ⟨e, hk, hj⟩ | ⟨e, hk, hj⟩
  · rw [e]
    cases hb : (b.queues.get q).bound with
    | true =>
      rw [if_pos (hk hb), if_neg fun hc => ?_, List.append_nil]
      simp [PortBlock.joinsUnder, hk hb] at hc
    | false =>
      have hjoins : b.joinsUnder pl c p q = false := by simp [PortBlock.joinsUnder, hy, hb]
      have hkeeps : b.keepsUnder pl c p q = false := by simp [PortBlock.keepsUnder, keepsPlace, hy, hb]
      have hwaits : (b.queues.get q).waiting = false := by
        rw [h.waits]
        exact decide_eq_false fun ht => absurd (h.bound ht) (by simp [hb])
      have hout : q ∉ b.list l a := fun hq => by simpa [hwaits] using ((h.mem l a).1 hq).1
      simp only [hjoins, hkeeps, Bool.false_eq_true, if_false, false_and, List.append_nil]
      have hne (r : QueueId) (hr : r ∈ b.list l a) : r ≠ q := fun e => hout (e ▸ hr)
      exact (List.filter_eq_self.2 fun r hr => decide_eq_true (hne r hr)).symm
  · simp only [hk, hj h, Bool.false_eq_true, if_false, false_and, List.append_nil]
    rw [e, PortBlock.modQueue_list, PortBlock.withdraw_list h]
  · simp only [hk, hj, Bool.false_eq_true, if_false, true_and]
    rw [e, PortBlock.joinList_list, PortBlock.modQueue_list, PortBlock.modQueue_list, PortBlock.withdraw_list h,
      PortBlock.withdraw_list h]
    by_cases hown : (b.queueUnder pl c p q).lane = l ∧ (b.queueUnder pl c p q).account = a
    · rw [if_pos hown, if_pos hown.symm, hown.1, hown.2]
    · rw [if_neg hown, if_neg fun hc => hown hc.symm, List.append_nil]

/-- Of a port, reclassifying changes queues and lists alone. -/
theorem PortBlock.reclassify_frame : ∃ x y z,
    (b.reclassify pl c p q).1 = { b with queues := x, urgentLists := y, bulkLists := z } := by
  have hlist (d : PortBlock) (l : Lane) (a : Account) (k : List QueueId) :
      ∃ y z, d.setList l a k = { d with urgentLists := y, bulkLists := z } := by
    cases l <;> exact ⟨_, _, rfl⟩
  have hwithdraw : ∃ y z, b.withdraw q = { b with urgentLists := y, bulkLists := z } := by
    unfold PortBlock.withdraw
    split
    · exact hlist b _ _ _
    · exact ⟨_, _, rfl⟩
  obtain ⟨y, z, hw⟩ := hwithdraw
  rcases b.reclassify_port pl c p q with ⟨e, -, -⟩ | ⟨e, -, -⟩ | ⟨e, -, -⟩
  · exact ⟨_, _, _, e⟩
  · rw [e, hw]
    exact ⟨_, _, _, rfl⟩
  · rw [e, hw]
    obtain ⟨y', z', hj⟩ := hlist ((({ b with urgentLists := y, bulkLists := z } : PortBlock)).modQueue q
      fun _ => b.queueUnder pl c p q) (b.queueUnder pl c p q).lane (b.queueUnder pl c p q).account _
    exact ⟨_, _, _, hj⟩

end

/-! ### Every queue of a port (R91) -/

/-- These queues of a port reclassified one after another, with their REFUSEs. -/
def PortBlock.reclassifyThese (b : PortBlock) (pl : Plan) (c : Account → Conduct) (p : Port) (l : List QueueId)
    (ms : List OutMsg) : PortBlock × List OutMsg :=
  l.foldl (fun acc q => ((acc.1.reclassify pl c p q).1, acc.2 ++ (acc.1.reclassify pl c p q).2)) (b, ms)

theorem PortBlock.reclassifyAll_eq (b : PortBlock) (pl : Plan) (c : Account → Conduct) (p : Port) :
    b.reclassifyAll pl c p = b.reclassifyThese pl c p (List.finRange 128) [] := rfl

section
variable (pl : Plan) (c : Account → Conduct) (p : Port)

theorem PortBlock.reclassifyThese_cons (b : PortBlock) (q : QueueId) (qs : List QueueId) (ms : List OutMsg) :
    b.reclassifyThese pl c p (q :: qs) ms =
      (b.reclassify pl c p q).1.reclassifyThese pl c p qs (ms ++ (b.reclassify pl c p q).2) := rfl

theorem PortBlock.reclassifyThese_frame (l : List QueueId) (b : PortBlock) (ms : List OutMsg) : ∃ x y z,
    (b.reclassifyThese pl c p l ms).1 = { b with queues := x, urgentLists := y, bulkLists := z } := by
  induction l generalizing b ms with
  | nil => exact ⟨_, _, _, rfl⟩
  | cons q qs ih =>
    obtain ⟨x, y, z, e⟩ := b.reclassify_frame pl c p q
    obtain ⟨x', y', z', e'⟩ := ih (b.reclassify pl c p q).1 (ms ++ (b.reclassify pl c p q).2)
    exact ⟨x', y', z', (b.reclassifyThese_cons pl c p q qs ms ▸ e').trans (by rw [e])⟩

/-- A queue other than the one reclassified is as before. -/
theorem PortBlock.reclassify_other (b : PortBlock) {q r : QueueId} (h : q ≠ r) :
    (b.reclassify pl c p q).1.queues.get r = b.queues.get r := by
  rw [PortBlock.reclassify_queue, if_neg h]

theorem PortBlock.reclassifyThese_queue (l : List QueueId) (hl : l.Nodup) (b : PortBlock) (ms : List OutMsg)
    (r : QueueId) : (b.reclassifyThese pl c p l ms).1.queues.get r =
      if r ∈ l then b.queueUnder pl c p r else b.queues.get r := by
  induction l generalizing b ms with
  | nil => rfl
  | cons q qs ih =>
    obtain ⟨hq, hqs⟩ := List.nodup_cons.1 hl
    rw [PortBlock.reclassifyThese_cons, ih hqs]
    by_cases hr : q = r
    · subst hr
      rw [if_neg hq, if_pos List.mem_cons_self, PortBlock.reclassify_queue, if_pos rfl]
    · have hmem : r ∈ q :: qs ↔ r ∈ qs := List.mem_cons.trans (or_iff_right fun h => hr h.symm)
      simp only [PortBlock.queueUnder, b.reclassify_other pl c p hr, hmem]

theorem PortBlock.reclassifyThese_messages (l : List QueueId) (hl : l.Nodup) (b : PortBlock) (ms : List OutMsg) :
    (b.reclassifyThese pl c p l ms).2 =
      ms ++ (l.filter fun q => b.refusedUnder pl p q).map fun q => OutMsg.refuse p q .unclassified := by
  induction l generalizing b ms with
  | nil => exact (List.append_nil ms).symm
  | cons q qs ih =>
    obtain ⟨hq, hqs⟩ := List.nodup_cons.1 hl
    have hlater : (qs.filter fun r => (b.reclassify pl c p q).1.refusedUnder pl p r) =
        qs.filter fun r => b.refusedUnder pl p r := List.filter_congr fun r hr => by
      have hne : q ≠ r := fun e => hq (e ▸ hr)
      rw [PortBlock.refusedUnder, PortBlock.refusedUnder, b.reclassify_other pl c p hne]
    rw [PortBlock.reclassifyThese_cons, ih hqs, hlater, PortBlock.reclassify_messages, List.filter_cons, List.append_assoc]
    split <;> rfl

/-- A sound queue stays sound while another is reclassified. -/
theorem PortBlock.queueSound_reclassify {b : PortBlock} {q r : QueueId} (hq : b.queueSound q) (hr : b.queueSound r)
    (h : q ≠ r) : (b.reclassify pl c p q).1.queueSound r := by
  have hsame := b.reclassify_other pl c p h
  refine ⟨fun l a => ?_, by rw [hsame]; exact hr.waits, by rw [hsame]; exact hr.bound⟩
  rw [hsame, ← hr.mem l a, PortBlock.reclassify_list pl c p hq, List.mem_append]
  have hlast (P : Prop) [Decidable P] : r ∉ (if P then [q] else []) := by
    split
    · simpa using h.symm
    · simp
  have hfilter : r ∈ (b.list l a).filter (· ≠ q) ↔ r ∈ b.list l a := by simp [h.symm]
  rw [or_iff_left (hlast _)]
  split
  · rfl
  · exact hfilter

/-- Of a list the queues that keep their place stay in their order, and the queues that join follow in theirs. -/
theorem PortBlock.reclassifyThese_list (l : List QueueId) (hl : l.Nodup) (b : PortBlock) (ms : List OutMsg)
    (hs : ∀ q ∈ l, b.queueSound q) (m : Lane) (a : Account) : (b.reclassifyThese pl c p l ms).1.list m a =
      (b.list m a).filter (fun q => decide (q ∉ l) || b.keepsUnder pl c p q) ++
        l.filter fun q => b.joinsUnder pl c p q && decide ((b.queueUnder pl c p q).account = a) &&
          decide ((b.queueUnder pl c p q).lane = m) := by
  induction l generalizing b ms with
  | nil =>
    simp only [List.not_mem_nil, not_false_eq_true, decide_true, Bool.true_or, List.filter_nil, List.append_nil]
    exact (List.filter_eq_self.2 fun _ _ => rfl).symm
  | cons q qs ih =>
    obtain ⟨hq, hqs⟩ := List.nodup_cons.1 hl
    have hsq := hs q List.mem_cons_self
    have hne {r : QueueId} (hr : r ∈ qs) : q ≠ r := fun e => hq (e ▸ hr)
    have hunder {r : QueueId} (hr : r ∈ qs) :
        (b.reclassify pl c p q).1.queueUnder pl c p r = b.queueUnder pl c p r := by
      rw [PortBlock.queueUnder, PortBlock.queueUnder, b.reclassify_other pl c p (hne hr)]
    have hkeeps {r : QueueId} (hr : r ∈ qs) :
        (b.reclassify pl c p q).1.keepsUnder pl c p r = b.keepsUnder pl c p r := by
      rw [PortBlock.keepsUnder, PortBlock.keepsUnder, hunder hr, b.reclassify_other pl c p (hne hr)]
    have hjoin : (qs.filter fun r => (b.reclassify pl c p q).1.joinsUnder pl c p r &&
        decide (((b.reclassify pl c p q).1.queueUnder pl c p r).account = a) &&
          decide (((b.reclassify pl c p q).1.queueUnder pl c p r).lane = m)) =
        qs.filter fun r => b.joinsUnder pl c p r && decide ((b.queueUnder pl c p r).account = a) &&
          decide ((b.queueUnder pl c p r).lane = m) :=
      List.filter_congr fun r hr => by rw [PortBlock.joinsUnder, PortBlock.joinsUnder, hkeeps hr, hunder hr]
    have hstay (k : List QueueId) :
        k.filter (fun r => decide (r ∉ qs) || (b.reclassify pl c p q).1.keepsUnder pl c p r) =
          k.filter fun r => decide (r ∉ qs) || b.keepsUnder pl c p r :=
      List.filter_congr fun r _ => by
        by_cases hr : r ∈ qs
        · rw [hkeeps hr]
        · simp [hr]
    have hfront : (if b.keepsUnder pl c p q then b.list m a else (b.list m a).filter (· ≠ q)).filter
        (fun r => decide (r ∉ qs) || b.keepsUnder pl c p r) =
          (b.list m a).filter fun r => decide (r ∉ q :: qs) || b.keepsUnder pl c p r := by
      have htest (r : QueueId) (hr : r = q → b.keepsUnder pl c p q = true) :
          (decide (r ∉ qs) || b.keepsUnder pl c p r) = (decide (r ∉ q :: qs) || b.keepsUnder pl c p r) := by
        by_cases e : r = q
        · subst e
          rw [hr rfl, Bool.or_true, Bool.or_true]
        · simp [e]
      split
      next hk => exact List.filter_congr fun r _ => htest r fun _ => hk
      next hk =>
        rw [List.filter_filter]
        refine List.filter_congr fun r _ => ?_
        by_cases e : r = q
        · subst e
          simp [hk]
        · rw [← htest r fun h => absurd h e]
          simp [e]
    have hlast (P : Prop) [Decidable P] : (if P then [q] else []).filter
        (fun r => decide (r ∉ qs) || b.keepsUnder pl c p r) = if P then [q] else [] := by
      split
      · simp [hq]
      · rfl
    rw [PortBlock.reclassifyThese_cons, ih hqs _ _ fun r hr =>
      PortBlock.queueSound_reclassify pl c p hsq (hs r (List.mem_cons_of_mem _ hr)) (hne hr)]
    rw [hjoin, hstay, PortBlock.reclassify_list pl c p hsq, List.filter_append, hfront, hlast, List.filter_cons,
      List.append_assoc]
    simp only [Bool.and_eq_true, decide_eq_true_eq, and_assoc]
    split <;> rfl

end

end Sys2Proof.Machine
end

section
/-! PROOF. The plan application, by the steps of R138 (R24, R28, R42 to R44, R91 to R93, R106, R110, R127, R137 to R141). -/

namespace Sys2Proof.Machine

/-! ### Step 2: reinstatement (R105, R106) -/

/-- The account is in CUT_OFF and reinstated by the plan in force. -/
def State.reinstates (s : State) (a : Account) : Bool :=
  decide (256 ≤ (s.conduct.recs.get a).score) && (s.plans.inForce.accounts.get a).reinstate

section
variable (s : State)

theorem State.reinstates_eq (a : Account) :
    (decide ((s.conduct.recs.get a).state = .cutOff) && (s.plans.inForce.accounts.get a).reinstate) = s.reinstates a := by
  simp only [State.reinstates, ConductRec.state_eq_cutOff]

theorem State.reinstates_iff (a : Account) :
    ((s.conduct.recs.get a).state = .cutOff ∧ (s.plans.inForce.accounts.get a).reinstate = true) ↔ s.reinstates a = true := by
  rw [← State.reinstates_eq, Bool.and_eq_true, decide_eq_true_iff]

theorem State.reinstateAll_recs (order : List Account) (e : Epoch) (a : Account) :
    (s.reinstateAll order e).conduct.recs.get a =
      if s.reinstates a then ConductRec.reset else s.conduct.recs.get a := by
  simp only [State.reinstateAll_recs_get, State.reinstates_iff]

/-- A reinstated account's state changes, and no other's. -/
theorem State.reinstates_changes (a : Account) :
    decide (stateAt (s.conduct.recs.get a).score ≠
      stateAt (if s.reinstates a then ConductRec.reset else s.conduct.recs.get a).score) = s.reinstates a := by
  cases h : s.reinstates a with
  | false => simp
  | true =>
    have hcut : (s.conduct.recs.get a).state = .cutOff := ((s.reinstates_iff a).2 h).1
    have hold : stateAt (s.conduct.recs.get a).score = .cutOff := (band_eq_stateAt _).symm.trans hcut
    rw [hold]
    rfl

theorem State.reinstateAll_notices (order : List Account) (e : Epoch) :
    ((namedFirst order).filterMap fun a => changeNotice a (s.conduct.recs.get a)
      (if s.reinstates a then ConductRec.reset else s.conduct.recs.get a) e) =
    ((namedFirst order).filter s.reinstates).map fun a => Notice.conductChange a .cutOff .good 0 e := by
  rw [filterMap_changeNotice]
  simp only [State.reinstates_changes]
  refine List.map_congr_left fun a ha => ?_
  have h : s.reinstates a = true := (List.mem_filter.1 ha).2
  have hcut : (s.conduct.recs.get a).state = .cutOff := ((s.reinstates_iff a).2 h).1
  rw [if_pos h, show stateAt (s.conduct.recs.get a).score = .cutOff from (band_eq_stateAt _).symm.trans hcut]
  rfl

theorem State.reinstateAll_mem (order : List Account) (e : Epoch) : (s.reinstateAll order e).mem =
    (((namedFirst order).filter s.reinstates).map fun a => Notice.conductChange a .cutOff .good 0 e).foldl posted
      s.mem := by
  rw [← State.reinstateAll_notices, State.reinstateAll, State.postAll_eq]
  simp only [Tab.get_mapIdx, State.reinstates_iff]
  rfl

theorem State.reinstateAll_eq (order : List Account) (e : Epoch) : s.reinstateAll order e = { s with
    conduct := { s.conduct with
      recs := Tab.ofFn fun a => if s.reinstates a then ConductRec.reset else s.conduct.recs.get a }
    mem := (s.reinstateAll order e).mem
    ports := (s.reinstateAll order e).ports } := by
  have hrecs : (s.reinstateAll order e).conduct.recs =
      Tab.ofFn fun a => if s.reinstates a then ConductRec.reset else s.conduct.recs.get a :=
    Tab.ext_get fun a => by rw [State.reinstateAll_recs, Tab.get_ofFn]
  rw [← hrecs, State.reinstateAll, State.postAll_eq]
  rfl

end

/-! ### Steps 1 to 4 (R138) -/

/-- Steps 1 to 4 of an application. -/
def State.planTaken (s : State) (pl : Plan) (e : Epoch) (sched : List Port) (accounts : List Account) : State :=
  ((({ s with plans := { s.plans with inForce := pl, appliedEpoch := e, staged := none } } : State).reinstateAll accounts
    e).reclassifyQueues sched).applyShares s.plans.inForce

/-- Every port's queues that no rule of the plan in force matches, in the order in which their REFUSEs are placed (R74,
R92). -/
def State.unclassified (s : State) (sched : List Port) : List (Port × QueueId) :=
  mergePorts sched (s.ports.mapIdx fun p b =>
    ((List.finRange 128).filter fun q => b.refusedUnder s.plans.inForce p q).map fun q => (p, q))

theorem State.unclassified_filter (s : State) (sched : List Port) (p : Port) :
    ((s.unclassified sched).filter fun m => decide (m.1 = p)).map Prod.snd =
      (List.finRange 128).filter fun q => (s.ports.get p).refusedUnder s.plans.inForce p q := by
  rw [State.unclassified, mergePorts_filter Prod.fst, Tab.get_mapIdx, List.map_map]
  · exact List.map_id _
  · intro q x hx
    rw [Tab.get_mapIdx] at hx
    obtain ⟨t, -, rfl⟩ := List.mem_map.1 hx
    rfl

theorem PortBlock.reclassifyAll_messages (b : PortBlock) (pl : Plan) (c : Account → Conduct) (p : Port) :
    (b.reclassifyAll pl c p).2 =
      ((List.finRange 128).filter fun q => b.refusedUnder pl p q).map fun q => OutMsg.refuse p q .unclassified := by
  rw [PortBlock.reclassifyAll_eq, PortBlock.reclassifyThese_messages pl c p _ (List.nodup_finRange 128)]
  rfl

theorem State.unclassified_map (s : State) (sched : List Port) :
    ((s.unclassified sched).map fun m => OutMsg.refuse m.1 m.2 .unclassified) =
      mergePorts sched ((s.ports.mapIdx fun p b => b.reclassifyAll s.plans.inForce s.conductOf p).map Prod.snd) := by
  rw [State.unclassified, mergePorts_map]
  refine congrArg _ (Tab.ext_get fun p => ?_)
  rw [Tab.get_map, Tab.get_mapIdx, Tab.get_map, Tab.get_mapIdx, PortBlock.reclassifyAll_messages, List.map_map]
  rfl

theorem State.reclassifyQueues_link (s : State) (sched : List Port) : (s.reclassifyQueues sched).link = { s.link with
    output := s.link.output ++ ((s.unclassified sched).map fun m => OutMsg.refuse m.1 m.2 .unclassified).take
      (64 - s.link.output.length) } := by
  rw [State.unclassified_map, State.reclassifyQueues, State.placeAll_eq]

theorem State.reclassifyQueues_eq (s : State) (sched : List Port) : s.reclassifyQueues sched =
    { s with ports := (s.reclassifyQueues sched).ports, link := (s.reclassifyQueues sched).link } := by
  rw [State.reclassifyQueues, State.placeAll_eq]

theorem Ramp.begin_eq (w0 : Nat) (sh : Share) : Ramp.begin w0 sh.weight sh.rise sh.fall = rampStarted w0 sh := rfl

/-- A cell at an application, its account reinstated before (R24, R28, R106). -/
theorem Cell.applyPlan_eq (x : Cell) (old share : Option Share) (anew : Bool) :
    (if anew = true then x.unstarved else x).applyPlan old share = cellUnder old.isSome share anew x := by
  cases share with
  | none => cases anew <;> rfl
  | some sh => cases anew <;> cases old <;> simp [Cell.applyPlan, cellUnder, Cell.unstarved, Ramp.begin_eq]

section
variable (s : State) (pl : Plan) (d : PlanDue) (sched : List Port) (accounts : List Account)

/-- The state at step 1: the plan is in force. -/
def State.inForceNow (s : State) (pl : Plan) (e : Epoch) : State :=
  { s with plans := { s.plans with inForce := pl, appliedEpoch := e, staged := none } }

theorem State.planTaken_eq : s.planTaken pl d.epoch sched accounts =
    ((((s.inForceNow pl d.epoch).reinstateAll accounts d.epoch).reclassifyQueues sched).applyShares s.plans.inForce) := rfl

/-- The accounts in CUT_OFF once step 2 has reinstated some (R93, R105). -/
theorem State.reinstateAll_conductOf (t : State) (order : List Account) (e : Epoch) (a : Account) :
    decide ((t.reinstateAll order e).conductOf a = .cutOff) =
      (decide (256 ≤ (t.conduct.recs.get a).score) && !t.reinstates a) := by
  rw [State.conductOf, State.reinstateAll_recs]
  cases h : t.reinstates a with
  | true => rw [if_pos rfl, Bool.not_true, Bool.and_false]; rfl
  | false =>
    simp only [Bool.false_eq_true, if_false, ConductRec.state_eq_cutOff, Bool.not_false, Bool.and_true]

/-- A port after steps 1 to 4: its queues are reclassified, and its cells are under their new share entries. -/
theorem State.planTaken_port (p : Port) : ∃ k k' : Tab 48 Cell,
    (∀ a, k'.get a = cellUnder (s.plans.inForce.share p a).isSome (pl.share p a)
      ((s.inForceNow pl d.epoch).reinstates a) ((s.ports.get p).cells.get a)) ∧
    (s.planTaken pl d.epoch sched accounts).ports.get p =
      { (({ s.ports.get p with cells := k } : PortBlock).reclassifyThese pl
          ((s.inForceNow pl d.epoch).reinstateAll accounts d.epoch).conductOf p (List.finRange 128) []).1 with
        cells := k' } := by
  obtain ⟨v, hv⟩ : ∃ v, v = (s.inForceNow pl d.epoch).reinstateAll accounts d.epoch := ⟨_, rfl⟩
  have hports : (s.inForceNow pl d.epoch).ports = s.ports := rfl
  have hplan : v.plans.inForce = pl := by rw [hv, State.reinstateAll_plans]; rfl
  obtain ⟨k, hk, hport⟩ : ∃ k : Tab 48 Cell, (∀ a, k.get a =
        if (s.inForceNow pl d.epoch).reinstates a = true then ((s.ports.get p).cells.get a).unstarved
        else (s.ports.get p).cells.get a) ∧
      v.ports.get p = { s.ports.get p with cells := k } := by
    have hget := State.reinstateAll_ports_get (s.inForceNow pl d.epoch) accounts d.epoch p
    rw [← hv, hports] at hget
    refine ⟨_, fun a => ?_, hget⟩
    simp only [Tab.get_mapIdx, State.reinstates_eq]
  have hshares := State.applyShares_ports_get (v.reclassifyQueues sched) s.plans.inForce p
  rw [State.reclassifyQueues_ports_get, State.reclassifyQueues_plans, hplan, PortBlock.reclassifyAll_cells, hport,
    PortBlock.reclassifyAll_eq] at hshares
  rw [State.planTaken_eq, ← hv]
  refine ⟨k, _, fun a => ?_, hshares⟩
  rw [Tab.get_mapIdx, hk, Cell.applyPlan_eq]

/-- Outside the ports and the link, steps 3 and 4 change nothing. -/
theorem State.planTaken_frame : s.planTaken pl d.epoch sched accounts =
    { (s.inForceNow pl d.epoch).reinstateAll accounts d.epoch with
      ports := (s.planTaken pl d.epoch sched accounts).ports, link := (s.planTaken pl d.epoch sched accounts).link } :=
  congrArg (fun x : State => ({ x with ports := (s.planTaken pl d.epoch sched accounts).ports } : State))
    (State.reclassifyQueues_eq ((s.inForceNow pl d.epoch).reinstateAll accounts d.epoch) sched)

theorem State.planTaken_link : (s.planTaken pl d.epoch sched accounts).link = { s.link with
    output := s.link.output ++ ((((s.inForceNow pl d.epoch).reinstateAll accounts d.epoch).unclassified sched).map fun m =>
      OutMsg.refuse m.1 m.2 .unclassified).take (64 - s.link.output.length) } := by
  rw [State.planTaken_eq, State.applyShares_link, State.reclassifyQueues_link, State.reinstateAll_link]
  rfl

theorem State.planTaken_taken (rest : List PlanDue) : Sys2Proof.planTaken s
    (({ s with plans := { s.plans with owed := rest } } : State).planTaken pl d.epoch sched accounts) pl d rest
    accounts := by
  obtain ⟨s1, hs1⟩ : ∃ s1 : State, s1 = { s with plans := { s.plans with owed := rest } } := ⟨_, rfl⟩
  have hconduct : s1.conduct = s.conduct := by rw [hs1]
  have hports : s1.ports = s.ports := by rw [hs1]
  have hold : s1.plans.inForce = s.plans.inForce := by rw [hs1]
  have hlink : s1.link = s.link := by rw [hs1]
  have hreinstates (a : Account) : (s1.inForceNow pl d.epoch).reinstates a =
      (decide (256 ≤ (s.conduct.recs.get a).score) && (pl.accounts.get a).reinstate) := by rw [hs1]; rfl
  rw [← hs1]
  unfold Sys2Proof.planTaken
  dsimp only
  simp only [← hreinstates]
  have hcut : (fun a => decide (256 ≤ (s.conduct.recs.get a).score) && !(s1.inForceNow pl d.epoch).reinstates a) =
      fun a => decide (((s1.inForceNow pl d.epoch).reinstateAll accounts d.epoch).conductOf a = .cutOff) :=
    funext fun a => by rw [State.reinstateAll_conductOf, ← hconduct]; rfl
  rw [hcut]
  refine ⟨?_, fun p => ?_, ((s1.inForceNow pl d.epoch).reinstateAll accounts d.epoch).unclassified sched, fun p => ?_, ?_⟩
  · refine (s1.planTaken_frame pl d sched accounts).trans ?_
    rw [State.reinstateAll_eq, State.reinstateAll_mem]
    rw [hs1]
    rfl
  · obtain ⟨k, k', hcells, hport⟩ := s1.planTaken_port pl d sched accounts p
    rw [hports, hold] at hcells
    rw [hports] at hport
    obtain ⟨hnodup, hmem⟩ : (List.finRange 128).Nodup ∧ ∀ q, q ∈ List.finRange 128 :=
      ⟨List.nodup_finRange 128, List.mem_finRange⟩
    generalize List.finRange 128 = queues at hport hnodup hmem ⊢
    generalize ((s1.inForceNow pl d.epoch).reinstateAll accounts d.epoch).conductOf = c at hport
    rw [hport]
    refine ⟨?_, fun q => ?_, fun hsound l a => ?_, hcells⟩
    · obtain ⟨x, y, z, e⟩ := PortBlock.reclassifyThese_frame pl c p queues
        { s.ports.get p with cells := k } []
      rw [e]
    · have hq := PortBlock.reclassifyThese_queue pl c p _ hnodup { s.ports.get p with cells := k } [] q
      rw [if_pos (hmem q)] at hq
      exact hq
    · obtain ⟨-, hqueues⟩ := (s.ports.get p).listsSound_iff.1 hsound
      have hlist := PortBlock.reclassifyThese_list pl c p _ hnodup { s.ports.get p with cells := k } []
        (fun q _ => ⟨(hqueues q).mem, (hqueues q).waits, (hqueues q).bound⟩) l a
      simp only [hmem, not_true_eq_false, decide_false, Bool.false_or] at hlist
      exact hlist
  · refine (State.unclassified_filter _ sched p).trans ?_
    rw [State.reinstateAll_plans, State.reinstateAll_ports_get]
    rw [hs1]
    rfl
  · rw [State.planTaken_link, hlink]

end

/-! ### Step 5: ports out of service drain (R42) -/

/-- What ports that drain leave of a part that is RUNNING: the plan in force, the timer's number and timing, the window. -/
def State.keepsRunning (s t : State) : Prop :=
  t.plans.inForce = s.plans.inForce ∧ t.timer.epoch = s.timer.epoch ∧ t.timer.timing = s.timer.timing ∧ t.win = s.win

theorem enteredStandby_keepsRunning (s : State) (p : Port) : s.keepsRunning (enteredStandby s p) := by
  unfold enteredStandby
  dsimp only
  generalize (if ∀ p', ((s.ports.set p (portAtRest (s.ports.get p))).get p').mode = .standby then s.plans.partDeferred
    else none) = part
  cases part <;> exact ⟨rfl, rfl, rfl, rfl⟩

theorem State.enterStandby_keepsRunning {s : State} (h : s.win.mode = .running) (p : Port) :
    s.keepsRunning (s.enterStandby p) := by
  obtain ⟨-, -, -, hwin⟩ := enteredStandby_keepsRunning s p
  rw [State.enterStandby_eq, State.standbyEntered_eq]
  rcases (enteredStandby s p).parkIfDone_or with e | ⟨hm, -⟩ | ⟨hm, -⟩
  · rw [e]
    exact enteredStandby_keepsRunning s p
  · rw [hwin, h] at hm
    cases hm
  · rw [hwin, h] at hm
    cases hm

theorem State.keepsRunning.trans {s t u : State} (h : s.keepsRunning t) (h' : t.keepsRunning u) : s.keepsRunning u := by
  obtain ⟨hplan, hepoch, htiming, hwin⟩ := h
  obtain ⟨hplan', hepoch', htiming', hwin'⟩ := h'
  exact ⟨hplan'.trans hplan, hepoch'.trans hepoch, htiming'.trans htiming, hwin'.trans hwin⟩

theorem State.enterDraining_keepsRunning {s : State} (h : s.win.mode = .running) (p : Port) :
    s.keepsRunning (s.enterDraining p) := by
  rcases s.enterDraining_cases p with ⟨-, e⟩ | ⟨-, e⟩
  · obtain ⟨u, hu⟩ : ∃ u, u = (s.modPort p fun b => { b with mode := .draining }).post
        (.portState p (s.ports.get p).mode .draining s.timer.epoch) := ⟨_, rfl⟩
    have hkeeps : s.keepsRunning u := by
      rw [hu, State.post_eq]
      exact ⟨rfl, rfl, rfl, rfl⟩
    rw [e, ← hu]
    rcases u.restIfDrained_cases p with ⟨-, -, e'⟩ | ⟨-, e'⟩
    · have hwin : u.win = s.win := by
        rw [hu, State.post_eq]
        rfl
      rw [e']
      exact hkeeps.trans (State.enterStandby_keepsRunning (by rw [hwin]; exact h) p)
    · rw [e']
      exact hkeeps
  · rw [e]
    exact ⟨rfl, rfl, rfl, rfl⟩

/-- Step 5 drains, one after another, the ports that the plan in force holds out of service. -/
theorem State.drainOutOfService_eq {s : State} (h : s.win.mode = .running) (order : List Port) :
    s.drainOutOfService order =
      ((namedFirst order).filter fun p => !(s.plans.inForce.ports.get p).inService).foldl
        (fun s p => s.enterDraining p) s ∧
    s.keepsRunning (s.drainOutOfService order) := by
  unfold State.drainOutOfService
  rw [fullOrder_eq]
  generalize namedFirst order = l
  induction l generalizing s with
  | nil => exact ⟨rfl, rfl, rfl, rfl, rfl⟩
  | cons p ps ih =>
    rw [List.foldl_cons, List.filter_cons]
    cases hp : (s.portRecord p).inService with
    | true =>
      have hout : (s.plans.inForce.ports.get p).inService = true := hp
      rw [if_pos rfl, hout]
      exact ih h
    | false =>
      have hout : (s.plans.inForce.ports.get p).inService = false := hp
      obtain ⟨hplan, -, -, hwin⟩ := State.enterDraining_keepsRunning h p
      obtain ⟨hfold, hrun⟩ := ih (s := s.enterDraining p) (by rw [hwin]; exact h)
      rw [hplan] at hfold
      rw [if_neg Bool.false_ne_true, hout]
      exact ⟨hfold, (State.enterDraining_keepsRunning h p).trans hrun⟩

/-! ### Steps 6 to 8 (R110, R138, R139, R141) -/

theorem PortBlock.placeValues_eq (b : PortBlock) (v : StandbyValues) (gen : Word32) : b.placeValues v gen =
    if b.mode = .standby then { b with values := v, deferred := none }
    else { b with deferred := if v = b.values then none else some { values := v, gen := gen } } := by
  unfold PortBlock.placeValues
  split
  · rfl
  · split <;> rfl

theorem Scan.takeThreshold_eq (sc : Scan) (n : Nat) : sc.takeThreshold n = { sc with
    state := if n = 0 then .idle else if sc.state = .idle then .sweeping else sc.state
    finding := if n = 0 ∧ sc.state = .halted then none else sc.finding } := by
  obtain ⟨state, cursor, finding, owed⟩ := sc
  by_cases h : n = 0 <;> cases state <;> simp [Scan.takeThreshold, h]

theorem State.placeDeferred_eq {s : State} {pl : Plan} (h : s.plans.inForce = pl) :
    s.placeDeferred = { s with
      ports := s.ports.mapIdx fun p (b : PortBlock) => b.placeValues (pl.ports.get p).values pl.gen
      timer := { s.timer with
        pending := if ∀ p, (s.ports.get p).mode = .standby then
          if ({ lengthUs := pl.lengthUs, role := pl.role } : Timing) = s.timer.timing then none
          else some { lengthUs := pl.lengthUs, role := pl.role } else s.timer.pending }
      plans := { s.plans with
        partDeferred := if (∀ p, (s.ports.get p).mode = .standby) ∨
            ({ lengthUs := pl.lengthUs, role := pl.role } : Timing) = s.timer.timing then none
          else some { timing := { lengthUs := pl.lengthUs, role := pl.role }, gen := pl.gen } } } := by
  have hrests := s.allStandby_iff
  rcases s.placeDeferred_cases with ⟨hall, e⟩ | ⟨hall, ht, e⟩ | ⟨hall, ht, e⟩
  · rw [e, if_pos (hrests.1 hall), if_pos (Or.inl (hrests.1 hall)), h]
    rfl
  · have hnot : ¬∀ p, (s.ports.get p).mode = .standby := fun hc => by simp [hrests.2 hc] at hall
    rw [h] at ht
    rw [e, if_neg hnot, if_pos (Or.inr ht), h]
  · have hnot : ¬∀ p, (s.ports.get p).mode = .standby := fun hc => by simp [hrests.2 hc] at hall
    rw [h] at ht
    rw [e, if_neg hnot, if_neg fun hc => hc.elim hnot ht, h]

/-- Steps 6 to 8 of an application, after step 5. -/
theorem planPlaced_eq {w : State} {pl : Plan} (d : PlanDue) (h : w.plans.inForce = pl) :
    let v : State := { w.placeDeferred with scan := w.placeDeferred.scan.takeThreshold pl.scanS }
    v.post (v.appliedNotice d.epoch) = planPlaced w pl d := by
  have hports : (w.ports.mapIdx fun p (b : PortBlock) => b.placeValues (pl.ports.get p).values pl.gen) =
      Tab.ofFn fun p => if (w.ports.get p).mode = .standby then
        { w.ports.get p with values := (pl.ports.get p).values, deferred := none }
      else { w.ports.get p with
        deferred := if (pl.ports.get p).values = (w.ports.get p).values then none
          else some { values := (pl.ports.get p).values, gen := pl.gen } } :=
    Tab.ext_get fun p => by rw [Tab.get_mapIdx, Tab.get_ofFn, PortBlock.placeValues_eq]
  intro v
  rw [State.post_eq]
  unfold State.appliedNotice
  have hv : v = { w.placeDeferred with scan := w.placeDeferred.scan.takeThreshold pl.scanS } := rfl
  rw [State.placeDeferred_eq h, hports, Scan.takeThreshold_eq] at hv
  have hmask : (v.ports.map fun b => b.deferred.isSome) = Tab.ofFn fun p => (v.ports.get p).deferred.isSome :=
    Tab.ext_get fun p => by rw [Tab.get_map, Tab.get_ofFn]
  have hin : v.plans.inForce = pl := by rw [hv]; exact h
  rw [hmask, hin, hv]
  rfl

/-! ### The application (R137, R138) -/

theorem exec_planApplication (order sched : List Port) (accounts : List Account) (s : State) :
    exec (.planApplication order sched accounts) s = execPlanApplication order sched accounts s := rfl

section
variable {s : State} {d : PlanDue} {rest : List PlanDue} (order sched : List Port) (accounts : List Account)

theorem execPlanApplication_none (howed : s.plans.owed = d :: rest) (h : s.plans.staged = none) :
    execPlanApplication order sched accounts s = .next { s with plans := { s.plans with owed := rest } } := by
  simp only [execPlanApplication, howed, h]

theorem execPlanApplication_not {pl : Plan} (howed : s.plans.owed = d :: rest) (h : s.plans.staged = some pl)
    (hd : ¬(d.ripe = true ∧ d.hold = false ∧ s.win.mode = .running)) :
    execPlanApplication order sched accounts s = .next { s with plans := { s.plans with owed := rest } } := by
  simp only [execPlanApplication, howed, h, if_neg hd]

theorem execPlanApplication_of {pl : Plan} (howed : s.plans.owed = d :: rest) (h : s.plans.staged = some pl)
    (hd : d.ripe = true ∧ d.hold = false ∧ s.win.mode = .running) :
    execPlanApplication order sched accounts s =
      .next (({ s with plans := { s.plans with owed := rest } } : State).applyPlan pl d.epoch order sched accounts) := by
  simp only [execPlanApplication, howed, h, if_pos hd]

end

theorem State.applyPlan_eq {s w : State} {pl : Plan} (d : PlanDue) (order sched : List Port) (accounts : List Account)
    (hw : w = (s.planTaken pl d.epoch sched accounts).drainOutOfService order) (h : w.plans.inForce = pl) :
    s.applyPlan pl d.epoch order sched accounts = planPlaced w pl d := by
  rw [← planPlaced_eq d h, hw]
  rfl

/-- Settles O42: steps 1 to 4 by `State.planTaken_taken`, step 5 by the ports out of service that drain in turn, steps 6 to 8
by `planPlaced_eq`. -/
theorem planIsAppliedWhole : Obligations.PlanIsAppliedWhole := by
  intro s order sched accounts d rest howed
  refine ⟨fun hnone => (exec_planApplication order sched accounts s).trans
    (execPlanApplication_none order sched accounts howed hnone), fun pl hstaged => ⟨fun hd => ?_, fun hd =>
    (exec_planApplication order sched accounts s).trans (execPlanApplication_not order sched accounts howed hstaged hd)⟩⟩
  have htaken := s.planTaken_taken pl d sched accounts rest
  obtain ⟨u, hu⟩ : ∃ u, u = ({ s with plans := { s.plans with owed := rest } } : State).planTaken pl d.epoch sched accounts :=
    ⟨_, rfl⟩
  rw [← hu] at htaken
  obtain ⟨hframe, hports, -⟩ := htaken
  have hwin : u.win = s.win := by rw [hframe]
  have htimer : u.timer = s.timer := by rw [hframe]
  have hplan : u.plans.inForce = pl := by rw [hframe]
  have hmode (p : Port) : (u.ports.get p).mode = (s.ports.get p).mode := by
    obtain ⟨hport, -⟩ := hports p
    rw [hport]
  obtain ⟨hfold, hkeeps⟩ := State.drainOutOfService_eq (s := u) (by rw [hwin]; exact hd.2.2) order
  obtain ⟨w, hw⟩ : ∃ w, w = u.drainOutOfService order := ⟨_, rfl⟩
  rw [← hw] at hfold hkeeps
  rw [hplan] at hfold
  obtain ⟨hinForce, hepoch, htiming, hwindow⟩ := hkeeps
  have hmodes (p : Port) := (State.drains_ports
    ((namedFirst order).filter fun p => !(pl.ports.get p).inService) u p).2
  rw [← hfold] at hmodes
  refine ⟨u, w, by rw [hu]; exact s.planTaken_taken pl d sched accounts rest, ?_, ?_, fun p hp => ?_, fun p hp => ?_,
    hinForce.trans hplan, hepoch.trans (by rw [htimer]), htiming.trans (by rw [htimer]), hwindow.trans hwin⟩
  · have hturn := u.drains_inTurn ((namedFirst_nodup order).filter fun p => !(pl.ports.get p).inService)
    rw [← hfold, List.filter_filter] at hturn
    simp only [hmode, Bool.and_comm (decide _)] at hturn
    exact hturn
  · rw [exec_planApplication, execPlanApplication_of order sched accounts howed hstaged hd]
    exact congrArg Host.Outcome.next (State.applyPlan_eq d order sched accounts (by rw [hw, hu]) (hinForce.trans hplan))
  · rw [hmodes, if_pos (List.mem_filter.2 ⟨mem_namedFirst order p, by rw [hp]; rfl⟩)]
    unfold PortBlock.drainedMode
    split
    · exact .inr rfl
    · exact .inl rfl
    · split <;> [exact .inr rfl; exact .inl rfl]
    · split <;> [exact .inr rfl; exact .inl rfl]
  · rw [hmodes, if_neg, hmode]
    intro hmem
    have hout := (List.mem_filter.1 hmem).2
    rw [hp] at hout
    cases hout

end Sys2Proof.Machine
end
